-- ==== Sys2Proof/Word.lean ====
section
/-!
DEFINITION. The words of the Spejra 4816: a byte of the line, a socket number, a page number, a sequence entry
number, and a set of sockets.
-/

namespace Sys2Proof

/-- One byte of the line or of the vector store (R165, R78). -/
abbrev Byte := BitVec 8

/-- A socket position, 0 to 15 (00_scope, Socket). -/
abbrev Sock := Fin 16

/-- A page of the vector store, 0 to 63 (R79). -/
abbrev Page := Fin 64

/-- An entry of the sequence table, 0 to 31 (R92). -/
abbrev EntryNo := Fin 32

/-- A socket set: bit n stands for socket n (R183). -/
abbrev SocketSet := BitVec 16

end Sys2Proof
end

