-- ==== Sys2Proof/Config.lean ====
section
/-!
DEFINITION. What one manufactured part fixes, and the fixed numbers of the spec.
-/

namespace Sys2Proof

/-- The revision of the part, fixed at manufacture (R176). The spec gives no value: a free constant, log entry 7
(DESIGN CHOICE: nothing may be proved of its value; safe). -/
opaque Config.revision : Byte

/-- Whether Clear Socket Account of a number above 15 is refused with ABSENT rather than WRONG_STATE, the two refusals that R22
names (R174). The spec gives neither: a free constant, log entry 35 (nothing may be proved of its value; safe). -/
opaque Config.refusesAsAbsent : Byte → Bool

/-- The vendor code of every Koruvi part (R176). -/
def Config.vendorCode : Byte := 0x2E#8

/-- The part code (R176). -/
def Config.partCode : Nat := 4816

/-- The largest payload of a request or reply (R166). -/
def Config.maxPayload : Nat := 250

/-- The room of the fail log (R138). -/
def Config.logRoom : Nat := 128

/-- The largest value of a 16-bit saturating counter (R132, R175). -/
def Config.max16 : Nat := 65535

/-- The largest value of a 32-bit saturating counter (R118, R132). -/
def Config.max32 : Nat := 4294967295

end Sys2Proof
end

