-- ==== Sys2Proof/Syntax.lean ====
section
/-!
DEFINITION. The commands of the Spejra 4816: one constructor for each row of spec/opcode_table.json, in the
table's order, and the types of their operands.
-/

namespace Sys2Proof

/-- The two supply feeds: A serves sockets 0 to 7, B sockets 8 to 15 (R30). -/
inductive FeedId where
  | a
  | b
deriving DecidableEq, Repr

/-- The nine causes of failure (R17). -/
inductive Machine.Cause where
  | railTrip
  | railUnreg
  | contactLoss
  | overTemp
  | runaway
  | sensorFault
  | settleTimeout
  | excursion
  | compareFail
deriving DecidableEq, Repr

/-- One position's sense readings at a sample tick: voltage in mV, raw current in mA (R37). -/
structure SenseReading where
  mv : Nat
  ma : Int
deriving DecidableEq, Repr

/-- One attempt of an identity load (R178): the memory did not acknowledge a byte, or it gave its block. -/
inductive LoadAttempt where
  | noAck
  | block (bytes : List Byte)
deriving DecidableEq, Repr

/-- What an upset changes (R82): one byte of the stored vectors, or one check word. -/
inductive Upset where
  | vectorByte (address : Fin 20480) (value : Byte)
  | checkWord (page : Page) (value : BitVec 16)
deriving DecidableEq, Repr

/-- The commands, one per row of spec/opcode_table.json. A request row carries the destination byte and the payload
bytes of its frame (R166); its kind is the row's, its CRC is good. A row about a bad or foreign frame carries what the
line gives. An expiry or a report taken carries the socket or feed it is about. No row carries a length of time (log entry 16). -/
inductive Instr where
  | powerOn (straps : Byte)
  | identityLoadEnd (first second third : LoadAttempt)
  | sampleTick (readings : Vector SenseReading 16)
  | thermalTick (readings : Vector Int 16)
  | secondTick
  | storeUpset (upset : Upset)
  | frameGapTimeout (taken : List Byte)
  | framingError (taken : List Byte) (stopLow : Bool)
  | otherReplyPassed (bytes : List Byte)
  | crcErrorFrame (dst kind : Byte) (payload : List Byte) (crc : BitVec 16)
  | frameForOthers (dst kind : Byte) (payload : List Byte)
  | badKindFrame (dst kind : Byte) (payload : List Byte)
  | replyTransmitStart
  | replySent
  | identify (dst : Byte) (payload : List Byte)
  | readLinkCounters (dst : Byte) (payload : List Byte)
  | setGroupTable (dst : Byte) (payload : List Byte)
  | setLinkSilence (dst : Byte) (payload : List Byte)
  | resetBoard (dst : Byte) (payload : List Byte)
  | poll (dst : Byte) (payload : List Byte)
  | ackEvents (dst : Byte) (payload : List Byte)
  | setEventEnables (dst : Byte) (payload : List Byte)
  | armSockets (dst : Byte) (payload : List Byte) (present : SocketSet)
  | powerDownSockets (dst : Byte) (payload : List Byte)
  | pauseSockets (dst : Byte) (payload : List Byte)
  | resumeSockets (dst : Byte) (payload : List Byte)
  | releaseHold (dst : Byte) (payload : List Byte)
  | readSocketStatus (dst : Byte) (payload : List Byte)
  | clearSocketAccount (dst : Byte) (payload : List Byte)
  | clearAccounts (dst : Byte) (payload : List Byte)
  | writeRailProfile (dst : Byte) (payload : List Byte)
  | setCeiling (dst : Byte) (payload : List Byte)
  | setFeedLimit (dst : Byte) (payload : List Byte)
  | calibrateSense (dst : Byte) (payload : List Byte)
  | calibrationEnd (n : Sock)
  | readFeedStatus (dst : Byte) (payload : List Byte)
  | writeThermalProfile (dst : Byte) (payload : List Byte)
  | setHeaterBudget (dst : Byte) (payload : List Byte)
  | loadVectors (dst : Byte) (payload : List Byte)
  | readVectorsRaw (dst : Byte) (payload : List Byte)
  | verifyStore (dst : Byte) (payload : List Byte)
  | readStoreStatus (dst : Byte) (payload : List Byte)
  | writeSequenceEntry (dst : Byte) (payload : List Byte)
  | readSequenceTable (dst : Byte) (payload : List Byte)
  | startSequence (dst : Byte) (payload : List Byte)
  | stopSequence (dst : Byte) (payload : List Byte)
  | readEngineStatus (dst : Byte) (payload : List Byte)
  | writeTestProfile (dst : Byte) (payload : List Byte)
  | readCompareStatus (dst : Byte) (payload : List Byte)
  | loadFactorPoint (dst : Byte) (payload : List Byte)
  | readFactorTable (dst : Byte) (payload : List Byte)
  | readAccount (dst : Byte) (payload : List Byte)
  | readLog (dst : Byte) (payload : List Byte)
  | trimLog (dst : Byte) (payload : List Byte)
  | setLogThreshold (dst : Byte) (payload : List Byte)
  | vectorStep (responses : Vector Byte 16)
  | passEnd
  | rampTimeout (n : Sock)
  | moveTimeout (n : Sock)
  | qualification (n : Sock)
  | unregulatedCountExpiry (n : Sock)
  | trip (n : Sock)
  | contactLossCountExpiry (n : Sock)
  | shed (f : FeedId)
  | thermallySettled (n : Sock)
  | excursionCountExpiry (n : Sock)
  | runawayCountExpiry (n : Sock)
  | settleTimeout (n : Sock)
  | cleanRunComplete (n : Sock)
  | linkSilenceExpiry
  | admissionGrantTaken (n : Sock)
  | qualifiedReportTaken (n : Sock)
  | settledReportTaken (n : Sock)
  | targetReportTaken (n : Sock)
  | tripReportTaken (n : Sock)
  | shedReportTaken (n : Sock)
  | failureReportTaken (n : Sock) (cause : Machine.Cause)
deriving DecidableEq, Repr

end Sys2Proof
end

