-- ==== Sys2Proof/Decode.lean ====
section
/-!
DEFINITION. The command that a word spells by the bits of spec/opcode_table.json.
No row of the table has bits (the commands are frames and events of a block, not encoded instructions), so no word
spells a command. The bytes of the line are decoded by the receiver, in Machine/Receiver.lean.
-/

namespace Sys2Proof

/-- No row of the table gives bits: every word is refused. -/
def decodeTableWord (_nbits _w : Nat) : Option Instr := none

end Sys2Proof
end

