-- ==== Sys2Proof/Machine/State.lean ====
section
/-!
DEFINITION. The state of the Spejra 4816, block by block, and the machine right after power-on.
Every field is plain data; each docstring names the rule of spec/ that gives it and its power-on value.
-/

namespace Sys2Proof.Machine

/-- The part never stops: the spec gives no behaviour that halts it, so no command faults (safe: nothing is left out).
No constructor, and nobody raises one. -/
inductive Fault where
deriving DecidableEq, Repr

/-- A command without a meaning. -/
inductive Refusal where
  /-- Raised by an arm of exec for a command not modelled yet; no arm raises it now (safe). -/
  | notModelled (mnemonic : String)
deriving DecidableEq, Repr

/-! ### Sockets: SCU -/

/-- The ten socket states (R1). -/
inductive SocketState where
  | absent
  | off
  | queued
  | ramp
  | settle
  | run
  | pause
  | hold
  | safe
  | done
deriving DecidableEq, Repr

/-- The attendance modes (R162). -/
inductive Attendance where
  | attended
  | unattended
deriving DecidableEq, Repr

/-- The SCU's socket record (R1), with the power-on values of its table. -/
structure Record where
  state : SocketState := .absent
  firstFail : Bool := false
  tripCount : Nat := 0
  cleanRun : Nat := 0
  settleTimer : Nat := 0
  settledMark : Bool := false
  unqualifiedSinceRead : Bool := false
  inWindowThroughout : Bool := true
  heaterLimitedSinceRead : Bool := false
  failingPassSinceRead : Bool := false
deriving DecidableEq, Repr

/-! ### Sockets: SSC -/

/-- A rail profile (R26), with the power-on values of R53. Bit r - 1 of `rates` stands for rate r (R183). -/
structure RailProfile where
  setpoint : Nat := 400
  slew : Nat := 1
  admission : Nat := 0
  trip : Nat := 100
  under : Nat := 0
  retries : Nat := 0
  rates : BitVec 4 := 1#4
deriving DecidableEq, Repr

/-- What a rail's timer times (R38 to R40): nothing, a ramp, or a setpoint move. -/
inductive Motion where
  | still
  | ramp (timer timeout : Nat)
  | move (timer timeout : Nat)
deriving DecidableEq, Repr

/-- A Calibrate Sense measurement in progress: its sum, and the sample ticks it has taken (R50). -/
structure Calibration where
  sum : Int := 0
  ticks : Nat := 0
deriving DecidableEq, Repr

/-- The SSC's state of one socket, with the power-on values of R53. `sensedMv` and `sensedMa` have no value before the
first sample tick: zero is DESIGN CHOICE, log entry 6 (unsafe before that tick). -/
structure Rail where
  profile : RailProfile := {}
  written : Bool := false
  commanded : Nat := 0
  output : Nat := 0
  motion : Motion := .still
  qualCount : Nat := 0
  qualified : Bool := false
  unregCount : Nat := 0
  tripFilter : Nat := 0
  contactCount : Nat := 0
  sensedMv : Nat := 0
  sensedMa : Nat := 0
  offset : Int := 0
  faulted : Bool := false
  calibration : Option Calibration := none
deriving DecidableEq, Repr

/-! ### Sockets: TRU -/

/-- The window edge selections (R54). -/
inductive EdgeSelection where
  | none
  | enter
  | leave
  | both
deriving DecidableEq, Repr

/-- A thermal profile (R54), with the power-on values of R76. -/
structure ThermalProfile where
  setpoint : Int := 250
  low : Nat := 20
  high : Nat := 20
  overTemp : Int := 500
  runawayMargin : Nat := 100
  settleTimeout : Nat := 600
  excursionLimit : Nat := 0
  kp : Nat := 0
  ki : Nat := 0
  edge : EdgeSelection := .none
deriving DecidableEq, Repr

/-- The TRU's state of one socket, with the power-on values of R76. `held` is the held temperature together with its
held-valid mark: none stands for a clear mark (R57). -/
structure Heat where
  profile : ThermalProfile := {}
  written : Bool := false
  held : Option Int := none
  implausible : Nat := 0
  inWindow : Bool := false
  accumulator : Int := 0
  demand : Nat := 0
  duty : Nat := 0
  limited : Bool := false
  /-- The socket was budget-limited after the last scaling, whether or not it has left the heated states since (R68; log entry
  40). -/
  lastLimited : Bool := false
  heatedBefore : Bool := false
  inWindowCount : Nat := 0
  outWindowCount : Nat := 0
  runawayCount : Nat := 0
deriving DecidableEq, Repr

/-! ### Sockets: CMP, CAU, FAU -/

/-- A test profile (R108), with the power-on values of R117. Bit n of `lanes` stands for response line n (R183). -/
structure TestProfile where
  lanes : Byte := 0#8
  threshold : Nat := 1
  tolerance : Nat := 65535
  target : Nat := 0
deriving DecidableEq, Repr

/-- A capture: the first miscompare of a failing pass (R113). -/
structure Capture where
  loopIndex : Nat
  entry : EntryNo
  vector : Nat
  observed : Byte
  expected : Byte
  mask : Byte
deriving DecidableEq, Repr

/-- A pass result in progress (R110). `candidate` is some exactly when a miscompare was seen. -/
structure PassResult where
  compared : Bool := false
  candidate : Option Capture := none
deriving DecidableEq, Repr

/-- The CMP's state of one socket, with the power-on values of R117. The three `held` fields are those taken at the
latest pass start at which the socket was a participant (R103); they mean nothing outside a pass (log entry 6). -/
structure Lane where
  profile : TestProfile := {}
  written : Bool := false
  heldLanes : Byte := 0#8
  heldThreshold : Nat := 1
  heldTolerance : Nat := 65535
  result : PassResult := {}
  comparedPasses : Nat := 0
  totalFailing : Nat := 0
  consecutiveFailing : Nat := 0
  captures : List Capture := []
  truncated : Bool := false
deriving DecidableEq, Repr

/-- The CAU's state of one socket (R118), with the power-on values of R131. -/
structure Credit where
  credit : Nat := 0
  residue : Nat := 0
  target : Nat := 0
deriving DecidableEq, Repr

/-- The fields of an account that the FAU holds (R132), as step 2 of R149 zeroes them. -/
structure Account where
  mirror : SocketState := .absent
  firstFail : Bool := false
  firstCause : Option Cause := none
  firstFailTime : Nat := 0
  firstFailCredit : Nat := 0
  targetReached : Bool := false
  runSeconds : Nat := 0
  accruedSeconds : Nat := 0
  outSeconds : Nat := 0
  trips : Nat := 0
  retries : Nat := 0
  sheds : Nat := 0
  interrupts : Nat := 0
  secondaryFails : Nat := 0
  arms : Nat := 0
  released : Nat := 0
  peakTemp : Int := -32768
  peakMa : Nat := 0
deriving DecidableEq, Repr

/-- Everything the part keeps for one socket position. -/
structure Socket where
  scu : Record := {}
  rail : Rail := {}
  heat : Heat := {}
  lane : Lane := {}
  credit : Credit := {}
  account : Account := {}
deriving DecidableEq, Repr

/-! ### The board: feeds, store, engine, tables -/

/-- The SSC's state of one feed (R30 to R33, R46), with the power-on values of R53. Committed current is computed from
the order list (R31). `measured` before the first sample tick is DESIGN CHOICE 0, log entry 6. -/
structure Feed where
  limit : Nat := 0
  queue : List Sock := []
  order : List Sock := []
  overCount : Nat := 0
  measured : Nat := 0
deriving DecidableEq, Repr

/-- The page conditions (R80). -/
inductive PageCondition where
  | unloaded
  | good
  | corrupt
deriving DecidableEq, Repr

/-- The vector store (R78 to R82, R89), with the power-on values of R96. `mem` lists the stored bytes that are not zero,
addresses strictly rising; byte k of vector i is at address 5 i + k. -/
structure Store where
  mem : List Host.Cell := []
  conditions : Vector PageCondition 64 := Vector.replicate 64 .unloaded
  checks : Vector (BitVec 16) 64 := Vector.replicate 64 0#16
  scrub : Page := 0
  lastScrubbed : Option Page := none
deriving DecidableEq, Repr

/-- An entry of the sequence table (R92), decoded: `length` 1 to 256, `repeats` 1 to 65536, `link` none for END. The
values are those of R96 after power-on. -/
structure SeqEntry where
  enabled : Bool := false
  start : Nat := 0
  length : Nat := 1
  repeats : Nat := 1
  link : Option EntryNo := none
  loopHead : Bool := false
deriving DecidableEq, Repr

/-- Why a running engine is stopping (R97). -/
inductive StopReason where
  | stopRequest
  | storeFault
deriving DecidableEq, Repr

/-- The engine states (R97). -/
inductive EngineState where
  | idle
  | run
  | stopping (reason : StopReason)
deriving DecidableEq, Repr

/-- The last stop causes (R97). -/
inductive StopCause where
  | none
  | stopRequest
  | sequenceEnd
  | storeFault
  | reset
deriving DecidableEq, Repr

/-- The four vector rates (R106). -/
inductive Rate where
  | r1
  | r2
  | r3
  | r4
deriving DecidableEq, Repr

/-- The PEN's state (R97) and its sequence table (R92), with the power-on values of R117 and R96. `held` holds the
current entry's fields as taken on arrival (R100), `applied` the number of vectors the pass in progress has applied
(R103): neither means anything while IDLE (log entry 6). `stimulus` is the level of the stimulus lines (R98). -/
structure Engine where
  state : EngineState := .idle
  current : Option EntryNo := none
  held : SeqEntry := {}
  repeatsLeft : Nat := 0
  loopIndex : Nat := 0
  rate : Rate := .r4
  powered : SocketSet := 0#16
  participants : SocketSet := 0#16
  lastStop : StopCause := .none
  applied : Nat := 0
  stimulus : BitVec 16 := 0#16
  table : Vector SeqEntry 32 := Vector.replicate 32 {}
deriving DecidableEq, Repr

/-- A point of a factor table: a temperature and a factor in units of 1/256 (R119). -/
structure FactorPoint where
  temp : Int
  factor : Nat
deriving DecidableEq, Repr

/-- The factor tables (R119), with the power-on values of R131. A pending slot is none while its written mark is clear. -/
structure Factors where
  active : List FactorPoint := [⟨-500, 256⟩, ⟨2500, 256⟩]
  slots : Vector (Option FactorPoint) 16 := Vector.replicate 16 none
deriving DecidableEq, Repr

/-! ### The board: fail log, events, link, identity -/

/-- The kinds of fail record (R18). -/
inductive RecordKind where
  | primary
  | secondary
deriving DecidableEq, Repr

/-- A fail record (R139). `held` is none for a socket with no held temperature, `entry` none for an IDLE engine. -/
structure FailRecord where
  sequence : Nat
  time : Nat
  socket : Sock
  kind : RecordKind
  cause : Cause
  before : SocketState
  disposition : SocketState
  attendance : Attendance
  credit : Nat
  held : Option Int
  sensedMv : Nat
  sensedMa : Nat
  loopIndex : Nat
  entry : Option EntryNo
  truncated : Bool
  captures : List Capture
deriving DecidableEq, Repr

/-- The FAU's log state (R138 to R143), with the power-on values of R151. Records stand oldest first. -/
structure FailLog where
  records : List FailRecord := []
  nextSequence : Nat := 0
  issued : Nat := 0
  trimmed : Nat := 0
  dropped : Nat := 0
  threshold : Nat := 96
  thresholdArmed : Bool := true
  fullArmed : Bool := true
deriving DecidableEq, Repr

/-- The twelve event flags in class order (R152). -/
inductive EventFlag where
  | railFault
  | thermalFault
  | testFault
  | feedShed
  | storeFault
  | sequenceEnd
  | socketDone
  | windowEdge
  | heaterLimited
  | logThreshold
  | logFull
  | unattended
deriving DecidableEq, Repr

/-- One event flag with its enable and socket set (R152 to R154), as after power-on (R159). -/
structure FlagState where
  isSet : Bool := false
  enabled : Bool := true
  sockets : SocketSet := 0#16
deriving DecidableEq, Repr

/-- The statuses of a reply, which are also the per-socket reasons (R174). -/
inductive Status where
  | ok
  | partly
  | badKind
  | badLength
  | badArg
  | busy
  | wrongState
  | notPresent
  | senseFault
  | noProfile
  | overFeed
  | absent
  | calibrating
deriving DecidableEq, Repr

/-- A reply as assembled (R172): the fields of the reply frame of R166 less marker, length and CRC. `kind` is the kind of
the request, to which the frame adds 0x80. -/
structure Reply where
  address : Byte
  kind : Byte
  status : Status
  attention : Byte
  payload : List Byte
deriving DecidableEq, Repr

/-- The board's own reply (R172, R173): none; awaited until a Calibrate Sense ends; pending until its first byte is sent;
being sent, as bytes on the line. `reset` holds the retain option when the reply is that of Reset Board (R181). -/
inductive ReplySlot where
  | idle
  | measuring (n : Sock)
  | pending (reply : Reply) (reset : Option Bool)
  | sending (frame : List Byte) (reset : Option Bool)
deriving DecidableEq, Repr

/-- The receiver (R165), with the bytes taken after the marker. -/
inductive Receiver where
  | hunt
  | request (taken : List Byte)
  | pass (taken : List Byte)
deriving DecidableEq, Repr

/-- The six link counters (R175). -/
structure LinkCounters where
  good : Nat := 0
  crcErrors : Nat := 0
  framing : Nat := 0
  others : Nat := 0
  refusals : Nat := 0
  replies : Nat := 0
deriving DecidableEq, Repr

/-- The BLI's state (R160, R165, R168, R170, R175), with its power-on values. `address` is none until the straps are
read, and for a board without an address (R168). `silenceBefore` is the silence count that stood before the latest
individually addressed frame, which Poll returns (R156). -/
structure Link where
  receiver : Receiver := .hunt
  address : Option Byte := none
  groups : Vector Byte 8 := Vector.replicate 8 255#8
  counters : LinkCounters := {}
  silenceParam : Byte := 12#8
  silence : Nat := 0
  silenceBefore : Nat := 0
  mode : Attendance := .attended
  reply : ReplySlot := .idle
deriving DecidableEq, Repr

/-- The IDL's state (R177): the status, and the loaded image (all zero while FAULT). -/
structure Identity where
  valid : Bool := false
  image : List Byte := List.replicate 64 0#8
deriving DecidableEq, Repr

/-- Where the part stands (R179, R182): in the identity load of power-on; running; or in the reload of a Board Reset taken
with or without its retain option. -/
inductive Phase where
  | starting
  | running
  | reloading (retain : Bool)
deriving DecidableEq, Repr

/-! ### The model's own fields -/

/-- An expiry that a tick or a vector step has found: the step of the table that follows at once (log entry 2). Two have no
row of their own: `notSettled`, the TRU's notice of R70, which stands behind the reports of its tick (R74), and `releases`,
steps 2 and 3 of R162 where a report was taken after step 1 (log entry 31). -/
inductive Expiry where
  | rampTimeout (n : Sock)
  | moveTimeout (n : Sock)
  | qualification (n : Sock)
  | unregulated (n : Sock)
  | trip (n : Sock)
  | contactLoss (n : Sock)
  | shed (f : FeedId)
  | calibrationEnd (n : Sock)
  | thermallySettled (n : Sock)
  | notSettled (n : Sock)
  | excursion (n : Sock)
  | runaway (n : Sock)
  | settleTimeout (n : Sock)
  | cleanRun (n : Sock)
  | linkSilence
  | releases
  | passEnd
deriving DecidableEq, Repr

/-- The blocks that report to the SCU (R10, R17); the SCU itself is the reporter of SETTLE_TIMEOUT. -/
inductive Reporter where
  | scu
  | ssc
  | tru
  | cmp
  | cau
deriving DecidableEq, Repr

/-- What a report to the SCU says (R6, R7, R8, R10, R16, R17). `notSettled` is the TRU's notice of R70, which waits only
behind a report of the TRU not yet taken (log entry 27). -/
inductive ReportKind where
  | grant
  | qualified
  | settled
  | notSettled
  | target
  | trip
  | shed
  | failure (cause : Cause)
deriving DecidableEq, Repr

/-- A report sent to the SCU and not yet taken: what one block sends to another about a socket. -/
structure Report where
  socket : Sock
  kind : ReportKind
deriving DecidableEq, Repr

/-- The whole machine. `presence` holds the levels of the presence lines when they were last looked at (R5, log entry
15). `due` and `reports` are the model's own (log entries 2 and 3), `pending` is the queue of commands, front first. -/
structure State where
  phase : Phase
  sockets : Vector Socket 16
  feedA : Feed
  feedB : Feed
  ceiling : Nat
  budget : Nat
  store : Store
  engine : Engine
  factors : Factors
  log : FailLog
  events : Vector FlagState 12
  link : Link
  identity : Identity
  clock : Nat
  presence : SocketSet
  due : List Expiry
  reports : List Report
  pending : List Instr
deriving DecidableEq, Repr

/-- The machine right after power-on: step 1 of R179 done, the identity load in progress. The board ceiling stands at the
native ceiling of an image of all zero (R27, R53) until the load ends. The straps are read by POWER_ON (log entry 5). -/
def State.reset : State where
  phase := .starting
  sockets := Vector.replicate 16 {}
  feedA := {}
  feedB := {}
  ceiling := 400
  budget := 0
  store := {}
  engine := {}
  factors := {}
  log := {}
  events := Vector.replicate 12 {}
  link := {}
  identity := {}
  clock := 0
  presence := 0#16
  due := []
  reports := []
  pending := []

end Sys2Proof.Machine
end

