-- ==== Sys2Proof/Machine/Ops.lean ====
section
/-!
DEFINITION. Named operations over numbers, bytes, sockets, feeds and the vector store, which every meaning uses.
-/

namespace Sys2Proof.Machine

/-! ### Numbers (00_scope, Arithmetic) -/

/-- A counter named as saturating, after one increment. -/
def satInc (top n : Nat) : Nat := min top (n + 1)

/-- A value clamped to lo to hi: replaced by the nearer end. -/
def clamp (lo hi n : Nat) : Nat := max lo (min hi n)

/-- A signed value clamped to lo to hi. -/
def clampInt (lo hi z : Int) : Int := max lo (min hi z)

/-- A quotient rounded up (R38). -/
def ceilDiv (a b : Nat) : Nat := (a + b - 1) / b

/-- The distance between two numbers (R39, R41). -/
def distance (a b : Nat) : Nat := (a - b) + (b - a)

/-! ### Bytes (R183) -/

/-- A 16-bit integer, least significant byte first. -/
def le16 (n : Nat) : List Byte := [BitVec.ofNat 8 n, BitVec.ofNat 8 (n / 256)]

/-- A 32-bit integer, least significant byte first. -/
def le32 (n : Nat) : List Byte := le16 n ++ le16 (n / 65536)

/-- A signed 16-bit integer in two's complement, least significant byte first. -/
def leInt16 (z : Int) : List Byte := le16 (BitVec.ofInt 16 z).toNat

/-- A flag as one bit of weight `w`. -/
def bitIf (b : Bool) (w : Nat) : Nat := if b then w else 0

/-- Byte i of a payload. -/
def byteAt (p : List Byte) (i : Nat) : Byte := p.getD i 0#8

/-- The one-byte integer at offset i. -/
def nat8 (p : List Byte) (i : Nat) : Nat := (byteAt p i).toNat

/-- The two-byte integer at offset i. -/
def nat16 (p : List Byte) (i : Nat) : Nat := nat8 p i + 256 * nat8 p (i + 1)

/-- The four-byte integer at offset i. -/
def nat32 (p : List Byte) (i : Nat) : Nat := nat16 p i + 65536 * nat16 p (i + 2)

/-- The signed two-byte integer at offset i. -/
def int16 (p : List Byte) (i : Nat) : Int := (BitVec.ofNat 16 (nat16 p i)).toInt

/-- The socket set, or the sixteen flag bits, at offset i. -/
def set16 (p : List Byte) (i : Nat) : BitVec 16 := BitVec.ofNat 16 (nat16 p i)

/-- One bit of the CRC of R167, most significant bit first, polynomial x^16 + x^12 + x^5 + 1. -/
def crcShift (crc : BitVec 16) : BitVec 16 := if crc.msb then (crc <<< 1) ^^^ 0x1021#16 else crc <<< 1

/-- The CRC of R167 after one more byte. -/
def crcByte (crc : BitVec 16) (b : Byte) : BitVec 16 :=
  Nat.repeat crcShift 8 (crc ^^^ (b.setWidth 16 <<< 8))

/-- The CRC-16 of R167 over bytes: start 0xFFFF, no final inversion. -/
def crc16 (bytes : List Byte) : BitVec 16 := bytes.foldl crcByte 0xFFFF#16

/-! ### Sockets -/

/-- The sixteen positions in ascending order. -/
def allSocks : List Sock := List.finRange 16

/-- The set of one socket. -/
def single (n : Sock) : SocketSet := BitVec.twoPow 16 n.val

/-- Whether a socket is a member of a set. -/
def SocketSet.has (x : SocketSet) (n : Sock) : Bool := x.getLsbD n.val

/-- A set without one socket. -/
def SocketSet.without (x : SocketSet) (n : Sock) : SocketSet := x &&& ~~~ single n

/-- The set of the sockets that satisfy p. -/
def setWhere (p : Sock → Bool) : SocketSet :=
  allSocks.foldl (fun x n => if p n then x ||| single n else x) 0#16

/-- How many sockets a set holds. -/
def SocketSet.size (x : SocketSet) : Nat := (allSocks.filter (SocketSet.has x)).length

/-- A socket number of a request: none above 15. -/
def sockOf (b : Byte) : Option Sock := if h : b.toNat < 16 then some ⟨b.toNat, h⟩ else none

/-- What the part keeps for socket n. -/
def State.socket (s : State) (n : Sock) : Socket := s.sockets.get n

/-- The state with socket n replaced. -/
def State.setSocket (s : State) (n : Sock) (k : Socket) : State :=
  { s with sockets := s.sockets.set n.val k n.isLt }

/-- The state with socket n changed. -/
def State.modSocket (s : State) (n : Sock) (f : Socket → Socket) : State := s.setSocket n (f (s.socket n))

/-- The state with every socket changed, each by its own number. -/
def State.mapSockets (s : State) (f : Sock → Socket → Socket) : State :=
  { s with sockets := Vector.ofFn fun n => f n (s.socket n) }

/-- The state with socket n's SCU record changed. -/
def State.modScu (s : State) (n : Sock) (f : Record → Record) : State :=
  s.modSocket n fun k => { k with scu := f k.scu }

/-- The state with socket n's SSC part changed. -/
def State.modRail (s : State) (n : Sock) (f : Rail → Rail) : State :=
  s.modSocket n fun k => { k with rail := f k.rail }

/-- The state with socket n's TRU part changed. -/
def State.modHeat (s : State) (n : Sock) (f : Heat → Heat) : State :=
  s.modSocket n fun k => { k with heat := f k.heat }

/-- The state with socket n's CMP part changed. -/
def State.modLane (s : State) (n : Sock) (f : Lane → Lane) : State :=
  s.modSocket n fun k => { k with lane := f k.lane }

/-- The state with socket n's account changed. -/
def State.modAccount (s : State) (n : Sock) (f : Account → Account) : State :=
  s.modSocket n fun k => { k with account := f k.account }

/-- Powered, which is also heated: RAMP, SETTLE, RUN, PAUSE or HOLD (00_scope, R2). -/
def SocketState.powered : SocketState → Bool
  | .ramp | .settle | .run | .pause | .hold => true
  | .absent | .off | .queued | .safe | .done => false

/-- QUEUED or powered, the test of R22, R26 and R50. -/
def SocketState.busy (st : SocketState) : Bool := st.powered || st == .queued

/-! ### Feeds (R30) -/

/-- The feed that serves a socket. -/
def feedOf (n : Sock) : FeedId := if n.val < 8 then .a else .b

/-- The sockets of a feed in ascending order. -/
def feedSocks (f : FeedId) : List Sock := allSocks.filter fun n => feedOf n == f

/-- The SSC's state of a feed. -/
def State.feed (s : State) : FeedId → Feed
  | .a => s.feedA
  | .b => s.feedB

/-- The state with a feed changed. -/
def State.modFeed (s : State) (f : FeedId) (g : Feed → Feed) : State :=
  match f with
  | .a => { s with feedA := g s.feedA }
  | .b => { s with feedB := g s.feedB }

/-- Whether socket n is in its feed's admission order list (R33). -/
def State.inOrder (s : State) (n : Sock) : Bool := (s.feed (feedOf n)).order.contains n

/-- Whether socket n is in its feed's admission queue (R32). -/
def State.inQueue (s : State) (n : Sock) : Bool := (s.feed (feedOf n)).queue.contains n

/-- The admission current of socket n's rail profile (R26). -/
def State.admission (s : State) (n : Sock) : Nat := (s.socket n).rail.profile.admission

/-- Committed current: the sum of the admission currents of the order list (R31). -/
def State.committed (s : State) (f : FeedId) : Nat := ((s.feed f).order.map s.admission).sum

/-! ### The loaded identity (R27, R177; bytes of section 11.7) -/

/-- The native ceiling brought into range (R27). -/
def Identity.nativeCeiling (i : Identity) : Nat := clamp 400 5000 (nat16 i.image 7)

/-- The trip maximum brought into range (R27). -/
def Identity.tripMax (i : Identity) : Nat := clamp 100 25000 (nat16 i.image 9)

/-- A feed's native limit brought into range (R27). -/
def Identity.nativeLimit (i : Identity) : FeedId → Nat
  | .a => clamp 0 200000 (nat32 i.image 11)
  | .b => clamp 0 200000 (nat32 i.image 15)

/-- The population: the set of fitted positions (R177). -/
def Identity.population (i : Identity) : SocketSet := set16 i.image 5

/-- The largest heater budget the population allows (R65). -/
def Identity.budgetMax (i : Identity) : Nat := 1000 * SocketSet.size i.population

/-! ### The vector store's memory (R78; canonical form: addresses rising, no zero listed) -/

/-- Stored bytes by address; an unlisted address reads as zero (R81, R96; log entry 21). -/
abbrev Mem := List Host.Cell

/-- The byte at an address. -/
def Mem.read : Mem → Nat → Byte
  | [], _ => 0#8
  | (a, b) :: m, x => if x = a then b else Mem.read m x

/-- One byte written; a zero is not listed. -/
def Mem.write : Mem → Nat → Byte → Mem
  | [], x, v => if v = 0#8 then [] else [(x, v)]
  | (a, b) :: m, x, v =>
    if x < a then (if v = 0#8 then (a, b) :: m else (x, v) :: (a, b) :: m)
    else if x = a then (if v = 0#8 then m else (x, v) :: m)
    else (a, b) :: Mem.write m x v

/-- Bytes written at an address upward. -/
def Mem.writeAll : Mem → Nat → List Byte → Mem
  | m, _, [] => m
  | m, a, b :: bs => Mem.writeAll (Mem.write m a b) (a + 1) bs

/-- Bytes read from an address upward. -/
def Mem.readAll (m : Mem) (a n : Nat) : List Byte := (List.range n).map fun k => m.read (a + k)

/-- The canonical form: addresses strictly rising and within the store, no zero listed. -/
abbrev Mem.wf (m : Mem) : Prop :=
  (m.map Prod.fst).Pairwise (· < ·) ∧ ∀ c ∈ m, c.2 ≠ 0#8 ∧ c.1 < 20480

/-! ### The vector store (R78 to R81) -/

/-- The page of a vector index (R79). -/
def pageOf (i : Nat) : Page := Fin.ofNat 64 (i / 64)

/-- The pages that the vectors of indices a to b touch, in ascending order (R79). -/
def touched (a b : Nat) : List Page :=
  (List.finRange 64).filter fun p => decide (a / 64 ≤ p.val) && decide (p.val ≤ b / 64)

/-- A page's condition (R80). -/
def Store.condition (t : Store) (p : Page) : PageCondition := t.conditions.get p

/-- The store with a page's condition changed. -/
def Store.setCondition (t : Store) (p : Page) (c : PageCondition) : Store :=
  { t with conditions := t.conditions.set p.val c p.isLt }

/-- A page's check word as it reads: 0 while UNLOADED (R81). -/
def Store.checkWord (t : Store) (p : Page) : BitVec 16 :=
  if t.condition p = .unloaded then 0#16 else t.checks.get p

/-- A vector in its stored form, as it reads: zero while its page is UNLOADED (R81). -/
def Store.vector (t : Store) (i : Nat) : List Byte :=
  if t.condition (pageOf i) = .unloaded then List.replicate 5 0#8 else Mem.readAll t.mem (5 * i) 5

/-- The CRC-16 over a page's 320 bytes as they now stand (R79). -/
def Store.pageCrc (t : Store) (p : Page) : BitVec 16 := crc16 (Mem.readAll t.mem (320 * p.val) 320)

/-- A check of a page mismatches (R79): a GOOD page, for no other is ever checked (R80). -/
def Store.pageFails (t : Store) (p : Page) : Bool := t.condition p == .good && t.pageCrc p != t.checks.get p

/-- The pages an entry's block touches (R92). -/
def SeqEntry.pages (e : SeqEntry) : List Page := touched e.start (e.start + e.length - 1)

end Sys2Proof.Machine
end

