-- ==== Sys2Proof/Machine/Flags.lean ====
section
/-!
DEFINITION. The event flags of the EVU: setting, clearing, enabling, and the attention byte (R152 to R158, R183).
-/

namespace Sys2Proof.Machine

/-- A flag's place in class order, from 0; its class is one more (R152). -/
def EventFlag.index : EventFlag → Fin 12
  | .railFault => 0
  | .thermalFault => 1
  | .testFault => 2
  | .feedShed => 3
  | .storeFault => 4
  | .sequenceEnd => 5
  | .socketDone => 6
  | .windowEdge => 7
  | .heaterLimited => 8
  | .logThreshold => 9
  | .logFull => 10
  | .unattended => 11

/-- The state of a flag. -/
def State.flag (s : State) (e : EventFlag) : FlagState := s.events.get e.index

/-- The EVU takes an event for a flag: it is set and its set grows by the event's sockets (R153). -/
def State.raise (s : State) (e : EventFlag) (sockets : SocketSet) : State :=
  let after : FlagState := { s.flag e with isSet := true, sockets := (s.flag e).sockets ||| sockets }
  { s with events := s.events.set e.index.val after e.index.isLt }

/-- The bits, in class order, of the flags that satisfy p (R183: bit class - 1). -/
def flagBits (p : FlagState → Bool) (events : Vector FlagState 12) : Nat :=
  ((List.finRange 12).map fun i => bitIf (p (events.get i)) (2 ^ i.val)).sum

/-- The least class among the flags both set and enabled, 0 when there is none (R155). -/
def attentionClass (events : Vector FlagState 12) : Nat :=
  match (List.finRange 12).find? fun i => (events.get i).isSet && (events.get i).enabled with
  | some i => i.val + 1
  | none => 0

/-- The attention byte: bit 7 the mark, bits 0 to 3 the class (R155, R183). -/
def attention (events : Vector FlagState 12) : Byte :=
  BitVec.ofNat 8 (attentionClass events + bitIf (attentionClass events != 0) 128)

/-- Whether a flag set of a request names only the twelve flags (R183). -/
def flagSetOk (x : BitVec 16) : Bool := decide (x.toNat < 4096)

/-- The named flags cleared and their sets emptied (R157). -/
def clearFlags (x : BitVec 16) (events : Vector FlagState 12) : Vector FlagState 12 :=
  Vector.ofFn fun i =>
    if x.getLsbD i.val then { events.get i with isSet := false, sockets := 0#16 } else events.get i

/-- The named flags enabled, every other disabled (R154). -/
def enableFlags (x : BitVec 16) (events : Vector FlagState 12) : Vector FlagState 12 :=
  Vector.ofFn fun i => { events.get i with enabled := x.getLsbD i.val }

end Sys2Proof.Machine
end

