-- ==== Sys2Proof/Machine/Operands.lean ====
section
/-!
DEFINITION. The codes, records and payload fields of chapter 11: how a request's bytes are read, with the range checks of
the rules that own them, and how what the part holds is written into a reply (R183, R184).
-/

namespace Sys2Proof.Machine

/-! ### Codes (sections 11.2 and 11.3) -/

/-- Status and reason codes (R184). -/
def Status.code : Status → Byte
  | .ok => 0x00#8
  | .partly => 0x01#8
  | .badKind => 0x02#8
  | .badLength => 0x03#8
  | .badArg => 0x04#8
  | .busy => 0x05#8
  | .wrongState => 0x10#8
  | .notPresent => 0x11#8
  | .senseFault => 0x12#8
  | .noProfile => 0x13#8
  | .overFeed => 0x14#8
  | .absent => 0x15#8
  | .calibrating => 0x16#8

/-- Socket state codes, also of a record's state before and disposition. -/
def SocketState.code : SocketState → Byte
  | .absent => 0#8
  | .off => 1#8
  | .queued => 2#8
  | .ramp => 3#8
  | .settle => 4#8
  | .run => 5#8
  | .pause => 6#8
  | .hold => 7#8
  | .safe => 8#8
  | .done => 9#8

/-- Cause codes; NONE is 0. -/
def Cause.code : Cause → Byte
  | .railTrip => 1#8
  | .railUnreg => 2#8
  | .contactLoss => 3#8
  | .overTemp => 4#8
  | .runaway => 5#8
  | .sensorFault => 6#8
  | .settleTimeout => 7#8
  | .excursion => 8#8
  | .compareFail => 9#8

/-- Record kind codes. -/
def RecordKind.code : RecordKind → Byte
  | .primary => 0#8
  | .secondary => 1#8

/-- Attendance codes. -/
def Attendance.code : Attendance → Byte
  | .attended => 0#8
  | .unattended => 1#8

/-- Page condition codes. -/
def PageCondition.code : PageCondition → Byte
  | .unloaded => 0#8
  | .good => 1#8
  | .corrupt => 2#8

/-- Engine state codes. -/
def EngineState.code : EngineState → Byte
  | .idle => 0#8
  | .run => 1#8
  | .stopping _ => 2#8

/-- Last stop cause codes. -/
def StopCause.code : StopCause → Byte
  | .none => 0#8
  | .stopRequest => 1#8
  | .sequenceEnd => 2#8
  | .storeFault => 3#8
  | .reset => 4#8

/-- Edge selection codes. -/
def EdgeSelection.code : EdgeSelection → Byte
  | .none => 0#8
  | .enter => 1#8
  | .leave => 2#8
  | .both => 3#8

/-- Feed codes. -/
def feedCode : FeedId → Byte
  | .a => 0#8
  | .b => 1#8

/-- Rate codes: each rate as itself. -/
def Rate.code : Rate → Byte
  | .r1 => 1#8
  | .r2 => 2#8
  | .r3 => 3#8
  | .r4 => 4#8

/-- A socket number as a byte. -/
def sockCode (n : Sock) : Byte := BitVec.ofNat 8 n.val

/-- A small number or none: 255 is the sentinel (R183). -/
def orNone {m : Nat} (x : Option (Fin m)) : Byte :=
  match x with
  | some i => BitVec.ofNat 8 i.val
  | none => 255#8

/-- A held temperature, -32768 when there is none (R57, R183). -/
def heldCode (x : Option Int) : Int := x.getD (-32768)

/-- A feed byte above 1 names no feed (R183). -/
def feedIdOf (b : Byte) : Option FeedId := if b = 0#8 then some .a else if b = 1#8 then some .b else none

/-- An edge selection above 3 is no selection (R183). -/
def edgeOf (b : Byte) : Option EdgeSelection :=
  if b = 0#8 then some .none else if b = 1#8 then some .enter else if b = 2#8 then some .leave
  else if b = 3#8 then some .both else none

/-- A next link: an entry number 0 to 31, or END (0xFF); any other byte is no link (R93). -/
def linkOf (b : Byte) : Option (Option EntryNo) :=
  if b = 0xFF#8 then some none else if h : b.toNat < 32 then some (some ⟨b.toNat, h⟩) else none

/-- An entry number above 31 names no entry (R93, R99). -/
def entryNoOf (b : Byte) : Option EntryNo := if h : b.toNat < 32 then some ⟨b.toNat, h⟩ else none

/-! ### Profiles (section 11.4) -/

/-- A rail profile as carried, with the checks of R26: refused (none) or as stored, the trip current clamped to the trip
maximum in force and rate 1 added. -/
def readRailProfile (tripMax : Nat) (p : List Byte) : Option RailProfile :=
  let setpoint := nat16 p 0
  let slew := nat8 p 2
  let admission := nat16 p 3
  let trip := min (nat16 p 5) tripMax
  let under := nat16 p 7
  let retries := nat8 p 9
  let rates := nat8 p 10
  if 400 ≤ setpoint ∧ setpoint ≤ 5000 ∧ 1 ≤ slew ∧ slew ≤ 250 ∧ admission ≤ 25000 ∧ 100 ≤ nat16 p 5 ∧
      under ≤ 25000 ∧ under < trip ∧ retries ≤ 7 ∧ rates < 16 then
    some { setpoint, slew, admission, trip, under, retries, rates := BitVec.ofNat 4 rates ||| 1#4 }
  else none

/-- A rail profile as sent: 11 bytes. -/
def writeRailBytes (r : RailProfile) : List Byte :=
  le16 r.setpoint ++ [BitVec.ofNat 8 r.slew] ++ le16 r.admission ++ le16 r.trip ++ le16 r.under ++
    [BitVec.ofNat 8 r.retries, r.rates.setWidth 8]

/-- A thermal profile as carried, with the checks of R54: refused (none) or as stored. Kp and Ki are unsigned bytes, as R54 gives
their range (log entry 38). -/
def readThermalProfile (p : List Byte) : Option ThermalProfile :=
  let setpoint := int16 p 0
  let low := nat8 p 2
  let high := nat8 p 3
  let overTemp := int16 p 4
  let runawayMargin := nat16 p 6
  let settleTimeout := nat16 p 8
  let excursionLimit := nat16 p 10
  match edgeOf (byteAt p 14) with
  | none => none
  | some edge =>
    if -400 ≤ setpoint ∧ setpoint ≤ 2000 ∧ 1 ≤ low ∧ low ≤ 200 ∧ 1 ≤ high ∧ high ≤ 200 ∧
        setpoint + high ≤ overTemp ∧ overTemp ≤ 2500 ∧ 10 ≤ runawayMargin ∧ runawayMargin ≤ 500 ∧
        10 ≤ settleTimeout ∧ excursionLimit ≤ 3600 then
      some { setpoint, low, high, overTemp, runawayMargin, settleTimeout, excursionLimit, kp := nat8 p 12, ki := nat8 p 13, edge }
    else none

/-- A thermal profile as sent: 15 bytes. -/
def writeThermalBytes (t : ThermalProfile) : List Byte :=
  leInt16 t.setpoint ++ [BitVec.ofNat 8 t.low, BitVec.ofNat 8 t.high] ++ leInt16 t.overTemp ++ le16 t.runawayMargin ++
    le16 t.settleTimeout ++ le16 t.excursionLimit ++ [BitVec.ofNat 8 t.kp, BitVec.ofNat 8 t.ki, t.edge.code]

/-- A test profile as carried, with the check of R108. -/
def readTestProfile (p : List Byte) : Option TestProfile :=
  let threshold := nat8 p 1
  if 1 ≤ threshold ∧ threshold ≤ 16 then
    some { lanes := byteAt p 0, threshold, tolerance := nat16 p 2, target := nat32 p 4 }
  else none

/-- A test profile as sent: 8 bytes. -/
def writeTestBytes (t : TestProfile) : List Byte :=
  [t.lanes, BitVec.ofNat 8 t.threshold] ++ le16 t.tolerance ++ le32 t.target

/-! ### Vectors and sequence entries (section 11.4) -/

/-- Carried vectors in the form they are stored in: bits 1 to 7 of each compare-flag byte as 0 (R84). -/
def storedForm : List Byte → List Byte
  | d0 :: d1 :: e :: c :: f :: rest => d0 :: d1 :: e :: c :: (f &&& 1#8) :: storedForm rest
  | _ => []

/-- A vector's drive pattern (R78). -/
def driveOf (v : List Byte) : BitVec 16 := set16 v 0

/-- A vector's expected response (R78). -/
def expectedOf (v : List Byte) : Byte := byteAt v 2

/-- A vector's care mask (R78). -/
def careOf (v : List Byte) : Byte := byteAt v 3

/-- A vector's compare flag (R78). -/
def compareOf (v : List Byte) : Bool := (byteAt v 4).getLsbD 0

/-- A sequence entry as carried, with checks 2 to 4 of R93: refused (none) or decoded. -/
def readEntry (p : List Byte) : Option SeqEntry :=
  let start := nat16 p 1
  let length := if nat8 p 3 = 0 then 256 else nat8 p 3
  let repeats := if nat16 p 4 = 0 then 65536 else nat16 p 4
  match linkOf (byteAt p 6) with
  | none => none
  | some link =>
    if start ≤ 4095 ∧ start + length ≤ 4096 then
      some { enabled := (byteAt p 0).getLsbD 0, start, length, repeats, link, loopHead := (byteAt p 0).getLsbD 1 }
    else none

/-- A sequence entry as sent: 7 bytes, length and repeat count in their encoded form (R95). -/
def writeEntryBytes (e : SeqEntry) : List Byte :=
  [BitVec.ofNat 8 (bitIf e.enabled 1 + bitIf e.loopHead 2)] ++ le16 e.start ++ [BitVec.ofNat 8 e.length] ++
    le16 e.repeats ++ [orNone e.link]

/-! ### Captures, fail records, the log summary (sections 11.4 and 11.5) -/

/-- A capture as sent: 10 bytes. -/
def writeCaptureBytes (c : Capture) : List Byte :=
  le32 c.loopIndex ++ [BitVec.ofNat 8 c.entry.val] ++ le16 c.vector ++ [c.observed, c.expected, c.mask]

/-- A fail record as sent: 29 bytes and 10 for each capture. -/
def writeRecordBytes (r : FailRecord) : List Byte :=
  le16 r.sequence ++ le32 r.time ++ [sockCode r.socket, r.kind.code, r.cause.code, r.before.code, r.disposition.code,
    r.attendance.code] ++ le32 r.credit ++ leInt16 (heldCode r.held) ++ le16 r.sensedMv ++ le16 r.sensedMa ++
    le32 r.loopIndex ++ [orNone r.entry, BitVec.ofNat 8 r.captures.length, BitVec.ofNat 8 (bitIf r.truncated 1)] ++
    (r.captures.map writeCaptureBytes).flatten

/-- How many bytes a fail record takes in a reply (R145). -/
def FailRecord.size (r : FailRecord) : Nat := 29 + 10 * r.captures.length

/-- The log summary: 16 bytes (R144). -/
def writeSummaryBytes (l : FailLog) : List Byte :=
  [BitVec.ofNat 8 l.records.length, BitVec.ofNat 8 l.threshold] ++ le16 l.nextSequence ++ le32 l.issued ++
    le32 l.trimmed ++ le32 l.dropped

/-- A factor point as sent: 4 bytes (section 11.4). -/
def writePointBytes (p : FactorPoint) : List Byte := leInt16 p.temp ++ le16 p.factor

/-! ### Frames (R166, section 11.2) -/

/-- The bytes of a request frame with the CRC given. -/
def requestBytesWith (dst kind : Byte) (payload : List Byte) (crc : BitVec 16) : List Byte :=
  [0xC3#8, dst, kind, BitVec.ofNat 8 payload.length] ++ payload ++ le16 crc.toNat

/-- The bytes of a request frame with a good CRC. -/
def requestBytes (dst kind : Byte) (payload : List Byte) : List Byte :=
  requestBytesWith dst kind payload (crc16 ([dst, kind, BitVec.ofNat 8 payload.length] ++ payload))

/-- The bytes of a reply that the CRC covers: from the board address to the last payload byte (R167). The kind byte
is kind + 0x80 modulo 256 (log entry 36). -/
def Reply.covered (r : Reply) : List Byte :=
  [r.address, r.kind + 0x80#8, r.status.code, r.attention, BitVec.ofNat 8 r.payload.length] ++ r.payload

/-- The bytes of a reply frame. -/
def Reply.bytes (r : Reply) : List Byte := [0x3C#8] ++ r.covered ++ le16 (crc16 r.covered).toNat

end Sys2Proof.Machine
end

