-- ==== Sys2Proof/Machine/Lifecycle.lean ====
section
/-!
DEFINITION. The SCU's shared operations (chapters 1, 2, 5, 7): the move of a socket from state to state with its effects
at every block, admission, reports, fail records, failures, and the engine's becoming IDLE.
-/

namespace Sys2Proof.Machine

/-! ### Vector rate (R106, R107) -/

/-- Whether a permitted rate set holds a rate: bit rate - 1 (R183). -/
def Rate.isIn (r : Rate) (rates : BitVec 4) : Bool :=
  match r with
  | .r1 => rates.getLsbD 0
  | .r2 => rates.getLsbD 1
  | .r3 => rates.getLsbD 2
  | .r4 => rates.getLsbD 3

/-- Whether a rate is in the permitted rate set of a socket's rail profile. -/
def State.permits (s : State) (n : Sock) (r : Rate) : Bool := r.isIn (s.socket n).rail.profile.rates

/-- Whether every socket of the powered set permits a rate. -/
def State.allPermit (s : State) (r : Rate) : Bool :=
  allSocks.all fun n => !SocketSet.has s.engine.powered n || s.permits n r

/-- The highest rate that every socket of the powered set permits; rate 4 with an empty powered set (R107). -/
def State.highestRate (s : State) : Rate :=
  if s.allPermit .r4 then .r4 else if s.allPermit .r3 then .r3 else if s.allPermit .r2 then .r2 else .r1

/-- The current vector rate recomputed from the powered set (R107). -/
def State.recomputeRate (s : State) : State := { s with engine := { s.engine with rate := s.highestRate } }

/-! ### Moves (R2) -/

/-- The SSC turns a rail off: output target 0, motion abandoned, counts 0, not qualified (R36, R41 to R45). -/
def Rail.off (r : Rail) : Rail :=
  { r with commanded := 0, output := 0, motion := .still, qualCount := 0, qualified := false, unregCount := 0,
           tripFilter := 0, contactCount := 0 }

/-- The TRU releases a socket that leaves the heated states (R64); that the last scaling found it limited stays known (R68). -/
def Heat.off (h : Heat) : Heat := { h with accumulator := 0, demand := 0, duty := 0, limited := false }

/-- The SCU record after a move to `st`: the clean-run count outlives only a stay in RUN; the settled mark is clear; the
settle timer starts at 0 on entering SETTLE and stops otherwise (R2, R7, R9, R11, R13). -/
def Record.moved (r : Record) (st : SocketState) : Record :=
  { r with state := st, cleanRun := if st = .run then r.cleanRun else 0, settledMark := false,
           settleTimer := if st = .settle then 0 else r.settleTimer }

/-- The SSC part after a move: the rail goes off with the powered states, and the contact-loss count is 0 (R2, R45). -/
def Rail.moved (r : Rail) (st : SocketState) : Rail := if st.powered then { r with contactCount := 0 } else r.off

/-- The TRU part after a move: the settle and excursion counts start at 0 (R70, R71), the runaway count on entering and
leaving the heated states (R72), and demand, duty, accumulator and mark on leaving them (R64). -/
def Heat.moved (h : Heat) (before st : SocketState) : Heat :=
  let h := { h with inWindowCount := 0, outWindowCount := 0,
                    runawayCount := if before.powered && st.powered then h.runawayCount else 0 }
  if st.powered then h else h.off

/-- A socket after the SCU's move to `st`, the account's state mirror included (R2, R133); its pass result in progress is
dropped (R105). -/
def Socket.moved (k : Socket) (st : SocketState) : Socket :=
  { k with scu := k.scu.moved st, rail := k.rail.moved st, heat := k.heat.moved k.scu.state st,
           lane := { k.lane with result := {} }, account := { k.account with mirror := st } }

/-- A socket not powered is on no order list and, until it is put there, on no queue (R32, R33). -/
def Feed.leave (g : Feed) (n : Sock) : Feed :=
  { g with queue := g.queue.filter (· != n), order := g.order.filter (· != n) }

/-- The PEN's sets after a move of n: the powered set follows, and n is no participant of the pass in progress (R105). -/
def Engine.follow (e : Engine) (n : Sock) (st : SocketState) : Engine :=
  { e with powered := if st.powered then e.powered ||| single n else SocketSet.without e.powered n,
           participants := SocketSet.without e.participants n }

/-- While IDLE the rate is recomputed at once on a change of the powered set (R107). -/
def State.rateAfter (s : State) (before : SocketSet) : State :=
  if s.engine.state = .idle ∧ s.engine.powered ≠ before then s.recomputeRate else s

/-- The SCU moves socket n to state `st` (R2). Admission is evaluated by the caller, as R34 gives its events. -/
def State.move (s : State) (n : Sock) (st : SocketState) : State :=
  let moved := s.modSocket n fun k => k.moved st
  let listed := if st.powered then moved else moved.modFeed (feedOf n) fun g => g.leave n
  { listed with engine := listed.engine.follow n st }.rateAfter s.engine.powered

/-! ### Reports (00_scope; R20, R74; log entry 3) -/

/-- The block that reports a cause (R17). -/
def Cause.reporter : Cause → Reporter
  | .railTrip | .railUnreg | .contactLoss => .ssc
  | .overTemp | .runaway | .sensorFault | .excursion => .tru
  | .settleTimeout => .scu
  | .compareFail => .cmp

/-- The block that sends a report. -/
def ReportKind.sender : ReportKind → Reporter
  | .grant | .qualified | .trip | .shed => .ssc
  | .settled | .notSettled => .tru
  | .target => .cau
  | .failure c => c.reporter

/-- A report is sent to the SCU. -/
def State.send (s : State) (n : Sock) (kind : ReportKind) : State := { s with reports := s.reports ++ [⟨n, kind⟩] }

/-- The oldest report about n from a block that the SCU has not taken. -/
def State.oldest (s : State) (n : Sock) (sender : Reporter) : Option Report :=
  s.reports.find? fun r => r.socket == n && r.kind.sender == sender

/-- Whether a report waits behind an earlier one about its socket: one of the TRU behind every other of the TRU, which the SCU
takes in the order sent (R74); one of the SSC behind a grant, which the SCU has taken when a rail can qualify, fail or trip
(log entry 3). Of any other two, either may be taken first (R20). -/
def ReportKind.waitsBehind (kind earlier : ReportKind) : Bool :=
  (kind.sender == .tru && earlier.sender == .tru) || (kind.sender == .ssc && earlier == .grant)

/-- Whether a report of a kind about n is waiting and the SCU may take it now (R20). -/
def State.mayTake (s : State) (n : Sock) (kind : ReportKind) : Bool :=
  match s.reports.find? fun r => r.socket == n && (r.kind == kind || kind.waitsBehind r.kind) with
  | some r => r.kind == kind
  | none => false

/-- The state with a report taken off. -/
def State.drop (s : State) (r : Report) : State := { s with reports := s.reports.erase r }

/-! ### Admission (R29, R34, R35, R38) -/

/-- A granted socket that the SCU has not yet moved to RAMP: QUEUED and off its feed's queue (R32). -/
def State.granted (s : State) (n : Sock) : Bool := (s.socket n).scu.state == .queued && !s.inQueue n

/-- A socket of the feed is in RAMP, or granted and about to be (R35: at most one socket of a feed is in RAMP; log entry
11, DEDUCED, safe). -/
def State.ramping (s : State) (f : FeedId) : Bool :=
  (feedSocks f).any fun n => (s.socket n).scu.state == .ramp || s.granted n

/-- The commanded target of a socket under the board ceiling in force (R29). -/
def State.targetOf (s : State) (n : Sock) : Nat := min (s.socket n).rail.profile.setpoint s.ceiling

/-- The timeout of a ramp or move over a distance: its duration rounded up, plus 200 ms (R39, R40). -/
def timeoutOver (mv slew : Nat) : Nat := ceilDiv mv slew + 200

/-- A rail turned on at admission: its ramp begins at 0, and its counts are 0 (R35, R38, R43). -/
def Rail.admitted (r : Rail) (target : Nat) : Rail :=
  { r.off with commanded := target, motion := .ramp 0 (timeoutOver target r.profile.slew) }

/-- The steps of R35 for the socket at the head of the queue. -/
def State.admitHead (s : State) (f : FeedId) (n : Sock) (rest : List Sock) : State :=
  let listed := s.modFeed f fun g => { g with queue := rest, order := g.order ++ [n] }
  (listed.modRail n fun r => r.admitted (s.targetOf n)).send n .grant

/-- The SSC evaluates admission for a feed (R35). -/
def State.evaluate (s : State) (f : FeedId) : State :=
  match (s.feed f).queue with
  | [] => s
  | n :: rest =>
    if s.ramping f = false ∧ s.committed f + s.admission n ≤ (s.feed f).limit then s.admitHead f n rest else s

/-- The SCU moves a socket to a state off the powered states or to SETTLE, and the SSC evaluates admission for its feed:
R34's events of leaving RAMP, of a decrease of committed current, of the head leaving the queue, and of the SCU's move of a
socket that tripped or was shed. A move of such a socket within the powered states, before its trip or shed is taken, evaluates
nothing (log entry 41). -/
def State.moveAdmit (s : State) (n : Sock) (st : SocketState) : State := (s.move n st).evaluate (feedOf n)

/-- What follows a socket's joining its queue after a trip or a shed: a withdrawal when its admission current exceeds the
limit in force (R48), then the evaluation of admission (R34). -/
def State.requeued (s : State) (n : Sock) : State :=
  let f := feedOf n
  (if s.admission n > (s.feed f).limit then s.move n .off else s).evaluate f

/-! ### Fail records (R139 to R143) -/

/-- A record stored at the newest end, with R142's threshold indication. -/
def State.storeRecord (s : State) (r : FailRecord) : State :=
  let present := s.log.records.length + 1
  let crosses := decide (s.log.threshold ≤ present) && s.log.thresholdArmed
  let stored := { s with log := { s.log with records := s.log.records ++ [r],
                                             thresholdArmed := s.log.thresholdArmed && !crosses } }
  if crosses then stored.raise .logThreshold 0#16 else stored

/-- A record dropped for want of room, with R143's indication. -/
def State.dropRecord (s : State) : State :=
  let dropped := { s with log := { s.log with dropped := (s.log.dropped + 1) % 4294967296, fullArmed := false } }
  if s.log.fullArmed then dropped.raise .logFull 0#16 else dropped

/-- A failure consumes a sequence number, and its record is stored or dropped (R140). -/
def State.logRecord (s : State) (r : FailRecord) : State :=
  let counted := { s with log := { s.log with nextSequence := (s.log.nextSequence + 1) % 65536,
                                              issued := (s.log.issued + 1) % 4294967296 } }
  if s.log.records.length < Config.logRoom then counted.storeRecord r else counted.dropRecord

/-- The record of a failure of n, from the values their owners publish (R139). -/
def State.recordOf (s : State) (n : Sock) (kind : RecordKind) (c : Cause) (disposition : SocketState) : FailRecord :=
  let k := s.socket n
  { sequence := s.log.nextSequence, time := s.clock, socket := n, kind, cause := c, before := k.scu.state, disposition,
    attendance := s.link.mode, credit := k.credit.credit, held := k.heat.held, sensedMv := k.rail.sensedMv,
    sensedMa := k.rail.sensedMa, loopIndex := s.engine.loopIndex, entry := s.engine.current,
    truncated := decide (c = .compareFail) && k.lane.truncated,
    captures := if c = .compareFail then k.lane.captures else [] }

/-! ### Failures (R17 to R19) -/

/-- The flag of a cause's class (R17, R19). -/
def Cause.flag : Cause → EventFlag
  | .railTrip | .railUnreg | .contactLoss => .railFault
  | .overTemp | .runaway | .sensorFault | .settleTimeout | .excursion => .thermalFault
  | .compareFail => .testFault

/-- Whether a cause's monitor runs in a state (R17). -/
def Cause.runsIn (c : Cause) (st : SocketState) : Bool :=
  match c with
  | .railTrip | .railUnreg | .overTemp | .runaway | .sensorFault => st.powered
  | .contactLoss | .excursion | .compareFail => st == .run
  | .settleTimeout => st == .settle

/-- The disposition of a cause (R17). -/
def Cause.disposition (c : Cause) (m : Attendance) : SocketState :=
  match c, m with
  | .contactLoss, .attended | .settleTimeout, .attended | .excursion, .attended | .compareFail, .attended => .hold
  | _, _ => .safe

/-- The account at a primary or secondary failure (R18, R133, R135). -/
def Account.failed (a : Account) (kind : RecordKind) (c : Cause) (time credit : Nat) : Account :=
  match kind with
  | .primary => { a with firstFail := true, firstCause := some c, firstFailTime := time, firstFailCredit := credit }
  | .secondary => { a with secondaryFails := satInc Config.max16 a.secondaryFails }

/-- The account's first-fail fields and the SCU's flag at a failure (R18). -/
def State.markFailed (s : State) (n : Sock) (kind : RecordKind) (c : Cause) : State :=
  s.modSocket n fun k =>
    { k with scu := { k.scu with firstFail := true },
             account := k.account.failed kind c s.clock k.credit.credit }

/-- COMPARE_FAIL takes the capture list into its record and leaves it empty (R139). -/
def State.takeCaptures (s : State) (n : Sock) (c : Cause) : State :=
  if c = .compareFail then s.modLane n fun l => { l with captures := [], truncated := false } else s

/-- The kind of a failure: primary while the first-fail flag is clear (R18). -/
def State.kindOf (s : State) (n : Sock) : RecordKind := if (s.socket n).scu.firstFail then .secondary else .primary

/-- Steps 2 and 3 of R19: the account's first-fail fields, the record, the captures taken. -/
def State.accountFailure (s : State) (n : Sock) (c : Cause) (disposition : SocketState) : State :=
  let kind := s.kindOf n
  ((s.markFailed n kind c).logRecord (s.recordOf n kind c disposition)).takeCaptures n c

/-- Step 4 of R19: to HOLD nothing is released; to SAFE the socket leaves the powered states. -/
def State.dispose (s : State) (n : Sock) (disposition : SocketState) : State :=
  if disposition = .hold then s.move n .hold else s.moveAdmit n disposition

/-- The SCU takes a failure for socket n, or discards it where its monitor does not run (R17, R19). -/
def State.fail (s : State) (n : Sock) (c : Cause) : State :=
  if c.runsIn (s.socket n).scu.state then
    let disposition := c.disposition s.link.mode
    ((s.accountFailure n c disposition).dispose n disposition).raise c.flag (single n)
  else s

/-! ### SETTLE to RUN (R8) and the engine's becoming IDLE (R102) -/

/-- Whether a socket waits in SETTLE with its settled mark set, and may run (R8). -/
def State.mayRun (s : State) (n : Sock) : Bool :=
  let k := s.socket n
  k.scu.state == .settle && k.scu.settledMark && (s.engine.state == .idle || s.permits n s.engine.rate)

/-- The SCU's decision for a SETTLE socket whose settled mark is set (R8). -/
def State.settleToRun (s : State) (n : Sock) : State := if s.mayRun n then s.move n .run else s

/-- The decision for every such socket, in ascending order (R8). -/
def State.decideAll (s : State) : State := allSocks.foldl State.settleToRun s

/-- Every socket's pass result in progress dropped. -/
def State.dropResults (s : State) : State := s.mapSockets fun _ k => { k with lane := { k.lane with result := {} } }

/-- The PEN with no pass: IDLE, no entry, stimulus low (R102). -/
def Engine.stopped (e : Engine) (cause : StopCause) : Engine :=
  { e with state := .idle, current := none, repeatsLeft := 0, participants := 0#16, lastStop := cause, applied := 0,
           stimulus := 0#16 }

/-- The engine becomes IDLE for a cause (R102). -/
def State.idle (s : State) (cause : StopCause) : State :=
  let stopped := { s with engine := s.engine.stopped cause }.dropResults
  stopped.recomputeRate.decideAll

/-! ### Supplies and reports taken (R16, R44, R47, R48) -/

/-- Steps 1 to 3 of R44 and of R47: the rail off, the socket off its feed's order list. -/
def State.takeOff (s : State) (n : Sock) : State :=
  (s.modRail n Rail.off).modFeed (feedOf n) fun g => { g with order := g.order.filter (· != n) }

/-- The SCU takes a grant: a QUEUED socket that the SSC has taken off its queue moves to RAMP; in any other case the
report is discarded (R6; log entry 12). A socket that the SSC has tripped or shed meanwhile moves to RAMP as well, its rail
off, until the SCU takes the trip or the shed (log entry 32). -/
def State.takeGrant (s : State) (n : Sock) : State := if s.granted n then s.move n .ramp else s

/-- The SCU takes a qualification report (R7). -/
def State.takeQualified (s : State) (n : Sock) : State :=
  if (s.socket n).scu.state = .ramp then s.moveAdmit n .settle else s

/-- The SCU takes a thermally settled report (R8). -/
def State.takeSettled (s : State) (n : Sock) : State :=
  if (s.socket n).scu.state = .settle then (s.modScu n fun r => { r with settledMark := true }).settleToRun n else s

/-- The SCU takes the TRU's notice that a socket is no longer settled (R70). -/
def State.takeNotSettled (s : State) (n : Sock) : State := s.modScu n fun r => { r with settledMark := false }

/-- The SCU takes a target-reached report (R10). -/
def State.takeTarget (s : State) (n : Sock) : State :=
  if (s.socket n).scu.state = .run then
    ((s.modAccount n fun a => { a with targetReached := true }).moveAdmit n .done).raise .socketDone (single n)
  else s

/-- The trip count and clean-run count at a trip taken (R11, R16), and the account's trips (R133). -/
def Socket.tripped (k : Socket) (retry : Bool) : Socket :=
  { k with scu := { k.scu with tripCount := satInc 255 k.scu.tripCount, cleanRun := 0 },
           account := { k.account with trips := satInc Config.max16 k.account.trips,
                                       retries := if retry then satInc Config.max16 k.account.retries
                                                  else k.account.retries } }

/-- Whether a trip of n is a retry: not in HOLD, and the trip count, as it stood, below the trip retries (R16). -/
def State.isRetry (s : State) (n : Sock) : Bool :=
  let k := s.socket n
  k.scu.state != .hold && decide (k.scu.tripCount < k.rail.profile.retries)

/-- The SCU takes a trip report: a retry to the head of the queue, or the failure RAIL_TRIP (R16). -/
def State.takeTrip (s : State) (n : Sock) : State :=
  if (s.socket n).scu.state.powered then
    let retry := s.isRetry n
    let counted := s.modSocket n fun k => k.tripped retry
    if retry then
      ((counted.move n .queued).modFeed (feedOf n) fun g => { g with queue := n :: g.queue }).requeued n
    else counted.fail n .railTrip
  else s

/-- The account's sheds at a shed taken (R133). -/
def State.countShed (s : State) (n : Sock) : State :=
  s.modAccount n fun a => { a with sheds := satInc Config.max16 a.sheds }

/-- The SCU's move of a shed socket, before any withdrawal or admission: to the tail of the queue, or from HOLD to SAFE
(R16). -/
def State.shedMove (s : State) (n : Sock) : State :=
  let st := (s.socket n).scu.state
  if st = .hold then (s.countShed n).move n .safe
  else if st.powered then
    ((s.countShed n).move n .queued).modFeed (feedOf n) fun g => { g with queue := g.queue ++ [n] }
  else s

/-- The SCU takes a shed report (R16, R34, R48). -/
def State.takeShed (s : State) (n : Sock) : State :=
  let st := (s.socket n).scu.state
  if st = .hold then (s.shedMove n).evaluate (feedOf n)
  else if st.powered then (s.shedMove n).requeued n
  else s

end Sys2Proof.Machine
end

