-- ==== Sys2Proof/Machine/Engine.lean ====
section
/-!
DEFINITION. The PEN, the CMP and the store's checks (chapters 4 and 5): arrival at an entry, passes, the comparison of a
vector, the counting of a pass, and a page becoming CORRUPT.
-/

namespace Sys2Proof.Machine

/-! ### Arrival and pass start (R100, R103) -/

/-- A participant's values held for the pass, and its pass result cleared (R103). -/
def Lane.startPass (l : Lane) : Lane :=
  { l with heldLanes := l.profile.lanes, heldThreshold := l.profile.threshold, heldTolerance := l.profile.tolerance,
           result := {} }

/-- The sockets in RUN. -/
def State.runSet (s : State) : SocketSet := setWhere fun n => (s.socket n).scu.state == .run

/-- A pass starts (R103). The stimulus lines stay as they are, low after an arrival from IDLE or at the last vector's pattern after a
pass end, until the first vector step drives the first vector (R98; the model's choice, log entry 43). -/
def State.startPass (s : State) : State :=
  let set := s.runSet
  let lanes := s.mapSockets fun n k => if SocketSet.has set n then { k with lane := k.lane.startPass } else k
  { lanes with engine := { lanes.engine with participants := set, applied := 0 } }

/-- Whether an entry's block touches a page that is UNLOADED or CORRUPT (R100). -/
def State.blockBad (s : State) (e : SeqEntry) : Bool := e.pages.any fun p => s.store.condition p != .good

/-- The engine takes an entry: step 3 of R100 up to the pass start. -/
def Engine.take (g : Engine) (e : EntryNo) : Engine :=
  let entry := g.table.get e
  { g with state := .run, current := some e, held := entry, repeatsLeft := entry.repeats,
           loopIndex := if entry.loopHead then satInc Config.max32 g.loopIndex else g.loopIndex }

/-- The engine arrives at an entry, up to the start of its first pass: `false` when it became IDLE (R100). -/
def State.arrive (s : State) (e : EntryNo) : State × Bool :=
  let entry := s.engine.table.get e
  if entry.enabled = false then ((s.idle .sequenceEnd).raise .sequenceEnd 0#16, false)
  else if s.blockBad entry then ((s.idle .storeFault).raise .storeFault 0#16, false)
  else ({ s with engine := s.engine.take e }, true)

/-! ### Comparing a vector (R110) -/

/-- The lines compared for a socket: the care mask and the lane mask held for the pass (R110). -/
def Lane.mask (l : Lane) (v : List Byte) : Byte := careOf v &&& l.heldLanes

/-- Whether a response is a miscompare of a vector under a mask (R110). -/
def miscompare (v : List Byte) (mask response : Byte) : Bool := (response ^^^ expectedOf v) &&& mask != 0#8

/-- A participant's pass result after one vector (R110). `made` builds the capture candidate. -/
def Lane.compareVector (l : Lane) (v : List Byte) (response : Byte) (made : Byte → Capture) : Lane :=
  let mask := l.mask v
  if compareOf v = true ∧ mask ≠ 0#8 then
    { l with result :=
        { compared := true,
          candidate :=
            if l.result.candidate.isSome then l.result.candidate
            else if miscompare v mask response then some (made mask) else none } }
  else l

/-- The vector the engine applies next (R103). -/
def Engine.vectorIndex (g : Engine) : Nat := g.held.start + g.applied

/-- One vector period (R103, R110): the drive pattern on the stimulus lines, each participant compared. The last vector of
the block makes the pass end due (log entry 2). -/
def State.vectorStep (s : State) (e : EntryNo) (responses : Vector Byte 16) : State :=
  let i := s.engine.vectorIndex
  let v := s.store.vector i
  let made (n : Sock) (mask : Byte) : Capture :=
    { loopIndex := s.engine.loopIndex, entry := e, vector := i, observed := responses.get n, expected := expectedOf v, mask }
  let compared := s.mapSockets fun n k =>
    if SocketSet.has s.engine.participants n then
      { k with lane := k.lane.compareVector v (responses.get n) (made n) } else k
  { compared with
      engine := { compared.engine with stimulus := driveOf v, applied := s.engine.applied + 1 },
      due := if s.engine.applied + 1 = s.engine.held.length then s.due ++ [.passEnd] else s.due }

/-! ### The pass end (R104, R111 to R113) -/

/-- A capture appended to a capture list, which holds the newest 8 (R113). -/
def Lane.appendCapture (l : Lane) (c : Capture) : Lane :=
  let all := l.captures ++ [c]
  if all.length ≤ 8 then { l with captures := all } else { l with captures := all.drop (all.length - 8), truncated := true }

/-- A participant's pass counted (R111), its result cleared. -/
def Lane.countPass (l : Lane) : Lane :=
  let counted :=
    if l.result.compared = false then l
    else match l.result.candidate with
      | none => { l with comparedPasses := satInc Config.max32 l.comparedPasses, consecutiveFailing := 0 }
      | some c =>
        { l with comparedPasses := satInc Config.max32 l.comparedPasses,
                 consecutiveFailing := satInc Config.max16 l.consecutiveFailing,
                 totalFailing := satInc Config.max16 l.totalFailing }.appendCapture c
  { counted with result := {} }

/-- Whether a pass result is a failing pass (R111). -/
def PassResult.failing (r : PassResult) : Bool := r.compared && r.candidate.isSome

/-- The decision of R112 under the threshold and tolerance held for the pass. -/
def Lane.failsCompare (l : Lane) : Bool :=
  decide (l.heldThreshold ≤ l.consecutiveFailing) ||
    (decide (l.heldTolerance < 65535) && decide (l.heldTolerance < l.totalFailing))

/-- One participant at a pass end: counted, the failing pass noticed (R25), COMPARE_FAIL reported (R111, R112). -/
def State.settlePass (s : State) (n : Sock) : State :=
  let k := s.socket n
  let lane := k.lane.countPass
  let counted := s.setSocket n
    { k with lane, scu := { k.scu with
        failingPassSinceRead := k.scu.failingPassSinceRead || k.lane.result.failing } }
  if lane.failsCompare then counted.send n (.failure .compareFail) else counted

/-- Step 1 of R104: the participants in ascending order. -/
def State.settlePasses (s : State) : State :=
  (allSocks.filter (SocketSet.has s.engine.participants)).foldl State.settlePass s

/-- Steps 5 to 7 of R104. -/
def State.nextPass (s : State) : State := s.recomputeRate.decideAll.startPass

/-- Step 4 of R104 for a next link: to the entry it names, or to none (R100). -/
def State.followLink (s : State) : State :=
  match s.engine.held.link with
  | none => (s.idle .sequenceEnd).raise .sequenceEnd 0#16
  | some e => match s.arrive e with
    | (t, true) => t.nextPass
    | (t, false) => t

/-- The last stop cause that a cause of stopping gives (R104). -/
def StopReason.cause : StopReason → StopCause
  | .stopRequest => .stopRequest
  | .storeFault => .storeFault

/-- A pass end (R104). -/
def State.passEnd (s : State) : State :=
  match s.engine.state with
  | .idle => s
  | .stopping reason => s.settlePasses.idle reason.cause
  | .run =>
    let settled := s.settlePasses
    let left := settled.engine.repeatsLeft - 1
    let counted := { settled with engine := { settled.engine with repeatsLeft := left } }
    if left = 0 then counted.followLink else counted.nextPass

/-! ### Page checks (R79, R88) -/

/-- Steps 3 and 4 of R88: a running engine starts stopping; a pass whose block touches the page is discarded. -/
def State.stopForPage (s : State) (p : Page) : State :=
  if s.engine.state = .idle then s
  else if s.engine.held.pages.contains p then s.idle .storeFault
  else if s.engine.state = .run then { s with engine := { s.engine with state := .stopping .storeFault } }
  else s

/-- A GOOD page becomes CORRUPT (R88). -/
def State.pageCorrupt (s : State) (p : Page) : State :=
  ({ s with store := s.store.setCondition p .corrupt }.raise .storeFault 0#16).stopForPage p

/-- A GOOD page is checked; the answer says whether it matched (R79, R88). -/
def State.checkPage (s : State) (p : Page) : State × Bool :=
  if s.store.pageFails p then (s.pageCorrupt p, false) else (s, true)

/-- The first GOOD page in cyclic order from the scrub pointer (R89). -/
def Store.scrubNext (t : Store) : Option Page :=
  ((List.finRange 64).map fun k => t.scrub + k).find? fun p => t.condition p == .good

/-- The scrub of a second tick (R89). -/
def State.scrub (s : State) : State :=
  if s.engine.state = .idle then s
  else match s.store.scrubNext with
    | none => s
    | some p =>
      let moved := { s with store := { s.store with scrub := p + 1, lastScrubbed := some p } }
      (moved.checkPage p).1

end Sys2Proof.Machine
end

