-- ==== Sys2Proof/Machine/Supplies.lean ====
section
/-!
DEFINITION. The SSC (chapter 2): what a sample tick does to a rail, the feeds' measured current, ceilings, feed limits and
calibration.
-/

namespace Sys2Proof.Machine

/-! ### One rail at a sample tick (R37 to R45, R50) -/

/-- The output target stepped toward the commanded target by the slew (R38, R40). -/
def stepToward (output target slew : Nat) : Nat :=
  if output < target then min target (output + slew) else max target (output - slew)

/-- The timer of a ramp or move advanced by one sample tick (R39, R40). -/
def Motion.tick : Motion → Motion
  | .still => .still
  | .ramp t timeout => .ramp (t + 1) timeout
  | .move t timeout => .move (t + 1) timeout

/-- A setpoint move is in progress (R40). -/
def Motion.isMove : Motion → Bool
  | .move _ _ => true
  | _ => false

/-- The timer has reached its timeout (R39, R40). -/
def Motion.timedOut : Motion → Bool
  | .still => false
  | .ramp t timeout | .move t timeout => decide (timeout ≤ t)

/-- The qualification band of a commanded target: the larger of 20 mV and 2%, truncated (R41). -/
def band (target : Nat) : Nat := max 20 (target * 2 / 100)

/-- A sample in band (R41). -/
def inBand (target mv : Nat) : Bool := decide (distance mv target ≤ band target)

/-- The sensed current: raw reading less offset, saturated at 0 and 25500 (R37). -/
def sensedCurrent (raw offset : Int) : Nat := (clampInt 0 25500 (raw - offset)).toNat

/-- The trip current in force: the lower of the stored one and the trip maximum (R27). -/
def Rail.tripInForce (r : Rail) (tripMax : Nat) : Nat := min r.profile.trip tripMax

/-- The latest sensed values, of every position (R37). -/
def Rail.sense (r : Rail) (x : SenseReading) : Rail :=
  { r with sensedMv := x.mv, sensedMa := sensedCurrent x.ma r.offset }

/-- A measurement in progress takes the raw reading, at 64 sample ticks (R50). -/
def Rail.calibrate (r : Rail) (x : SenseReading) : Rail :=
  { r with calibration := r.calibration.map fun c => if c.ticks < 64 then ⟨c.sum + x.ma, c.ticks + 1⟩ else c }

/-- The states whose unregulated count runs (R42). -/
def SocketState.regulated : SocketState → Bool
  | .settle | .run | .pause | .hold => true
  | _ => false

/-- A rail of an order list at a sample tick, its sensed values already taken: the step of its ramp or move (R38, R40), the
qualification count (R41), the unregulated count (R42), the trip filter (R43) and the contact-loss count (R45). Counts
stand at their limit until the expiry they make due is carried out. -/
def Rail.monitor (r : Rail) (st : SocketState) (tripMax : Nat) : Rail :=
  let good := inBand r.commanded r.sensedMv
  { r with
      output := stepToward r.output r.commanded r.profile.slew,
      motion := r.motion.tick,
      qualCount := if good then min 20 (r.qualCount + 1) else 0,
      qualified := r.qualified && good,
      unregCount := if st.regulated && !r.motion.isMove && !good then min 100 (r.unregCount + 1) else 0,
      tripFilter := if r.tripInForce tripMax < r.sensedMa then min 3 (r.tripFilter + 1) else 0,
      contactCount :=
        if st == .run && decide (r.sensedMa < r.profile.under) then min 1000 (r.contactCount + 1) else 0 }

/-- The rail qualifies at this tick (R41). -/
def Rail.qualifies (r : Rail) : Bool := r.qualCount == 20 && !r.qualified

/-- The timer has reached its timeout, and the rail has not qualified, at this tick included (R39, R40; log entry 9). -/
def Rail.failsToQualify (r : Rail) : Bool := r.motion.timedOut && !r.qualified && !r.qualifies

/-- The rail trips at this tick: the third sample running above the trip current in force (R43, R44). -/
def Rail.trips (r : Rail) : Bool := r.tripFilter == 3

/-- The expiries a monitored rail makes due, in the order of R37; no contact loss beside a trip, which has taken the socket
off its list (R44). -/
def Rail.expiries (r : Rail) (n : Sock) : List Expiry :=
  (if r.failsToQualify then [if r.motion.isMove then .moveTimeout n else .rampTimeout n] else []) ++
  (if r.qualifies then [.qualification n] else []) ++
  (if r.unregCount = 100 then [.unregulated n] else []) ++
  (if r.trips then [.trip n] else if r.contactCount = 1000 then [.contactLoss n] else [])

/-- One position at a sample tick: senses and calibration for all, monitors and the account's peak for a rail in an order
list (R37, R134), unqualified-since-read for a powered socket whose rail is not qualified (R25), judged after the tick's own
qualification and its trip, which turns the rail off at once (R44), and before its shed (log entry 20). -/
def Socket.sample (k : Socket) (listed : Bool) (tripMax : Nat) (x : SenseReading) : Socket :=
  let sensed := (k.rail.calibrate x).sense x
  let rail := if listed then sensed.monitor k.scu.state tripMax else sensed
  let qualified := (rail.qualified || (listed && rail.qualifies)) && !(listed && rail.trips)
  { k with
      rail,
      account := if listed then { k.account with peakMa := max k.account.peakMa rail.sensedMa } else k.account,
      scu := { k.scu with
        unqualifiedSinceRead :=
          k.scu.unqualifiedSinceRead || (k.scu.state.powered && !qualified) } }

/-! ### The sample tick (R37, R46) -/

/-- A socket of an order list that trips at this tick is off the list before its feed is summed (R37, R44; log entry 10). -/
def State.tripsNow (s : State) (n : Sock) : Bool := (s.socket n).rail.trips

/-- The feed's measured current, summed after all its sockets (R37, R46). -/
def State.measure (s : State) (f : FeedId) : Nat :=
  (((s.feed f).order.filter fun n => !s.tripsNow n).map fun n => (s.socket n).rail.sensedMa).sum

/-- The over-limit count after a sample (R46). -/
def Feed.overLimit (g : Feed) (measured : Nat) : Feed :=
  { g with measured, overCount := if g.limit < measured then min 50 (g.overCount + 1) else 0 }

/-- The expiries of one feed at a sample tick: its sockets' in ascending order, then the shed of R46. -/
def State.feedExpiries (s : State) (f : FeedId) : List Expiry :=
  ((feedSocks f).map fun n => if s.inOrder n then (s.socket n).rail.expiries n else []).flatten ++
    (if (s.feed f).overCount = 50 then [.shed f] else [])

/-- The measurements that have taken their 64th sample (R51). -/
def State.calibrationExpiries (s : State) : List Expiry :=
  (allSocks.filter fun n => (s.socket n).rail.calibration.any fun c => c.ticks == 64).map .calibrationEnd

/-- A sample tick (R37). A measurement that ends at it is due after both feeds' sheds, so its reply's attention byte shows them
(log entry 33). -/
def State.sampleTick (s : State) (readings : Vector SenseReading 16) : State :=
  let sampled := s.mapSockets fun n k => k.sample (s.inOrder n) s.identity.tripMax (readings.get n)
  let summed := (sampled.modFeed .a fun g => g.overLimit (sampled.measure .a)).modFeed .b fun g =>
    g.overLimit (sampled.measure .b)
  { summed with
      due := summed.due ++ summed.feedExpiries .a ++ summed.feedExpiries .b ++ summed.calibrationExpiries }

/-! ### Ceilings (R29, R39, R40) -/

/-- A ramp retargeted from its present output target (R29, R39; not qualified against the new target, log entry 18). -/
def Rail.retargetRamp (r : Rail) (target : Nat) : Rail :=
  { r with commanded := target, motion := .ramp 0 (timeoutOver (distance r.output target) r.profile.slew), qualCount := 0,
           qualified := false }

/-- A setpoint move begun or retargeted from the present output target (R40). -/
def Rail.startMove (r : Rail) (target : Nat) : Rail :=
  { r with commanded := target, motion := .move 0 (timeoutOver (distance r.output target) r.profile.slew), qualCount := 0,
           qualified := false, unregCount := 0 }

/-- Whether the ceiling in force changes socket n's commanded target (R29). -/
def State.retargets (s : State) (n : Sock) : Bool := s.inOrder n && s.targetOf n != (s.socket n).rail.commanded

/-- One socket at a change of the board ceiling: a ramp (or a grant not yet taken) keeps ramping, a settled rail moves
(R29). -/
def State.retarget (s : State) (n : Sock) : State :=
  if s.retargets n then
    s.modRail n fun r =>
      if (s.socket n).scu.state.regulated then r.startMove (s.targetOf n) else r.retargetRamp (s.targetOf n)
  else s

/-! ### Feed limits (R30, R48) -/

/-- Step 1 of R48, one socket: the SCU has taken any grant of it, the SSC sheds it and the SCU takes the shed (log entry
13). -/
def State.shedNow (s : State) (n : Sock) : State :=
  let taken := if s.granted n then (s.takeGrant n).drop ⟨n, .grant⟩ else s
  let off := (taken.takeOff n).modFeed (feedOf n) fun g => { g with overCount := 0 }
  (off.raise .feedShed (single n)).shedMove n

/-- Step 1 of R48: sockets shed from the end of the order list until the committed current fits the limit. At most as many
as the list holds. The answer lists the sockets shed. -/
def State.shedToFit (f : FeedId) (limit : Nat) : Nat → State → State × SocketSet
  | 0, s => (s, 0#16)
  | k + 1, s =>
    if s.committed f ≤ limit then (s, 0#16)
    else match (s.feed f).order.getLast? with
      | none => (s, 0#16)
      | some n =>
        let (t, set) := State.shedToFit f limit k (s.shedNow n)
        (t, set ||| single n)

/-- Step 2 of R48: a queued socket whose admission current exceeds the limit is withdrawn to OFF. -/
def State.withdraw (limit : Nat) (s : State) (n : Sock) : State :=
  if limit < s.admission n then s.move n .off else s

/-- The sockets of a feed's queue that step 2 of R48 withdraws. -/
def State.overLimitQueue (s : State) (f : FeedId) (limit : Nat) : SocketSet :=
  setWhere fun n => (s.feed f).queue.contains n && decide (limit < s.admission n)

/-- A change of the limit in force restarts the over-limit count (R30). -/
def Feed.setLimit (g : Feed) (limit : Nat) : Feed :=
  { g with limit, overCount := if limit = g.limit then g.overCount else 0 }

/-- Set Feed Limit as carried out at once (R48): the state, the sockets shed and the sockets withdrawn. -/
def State.setFeedLimit (s : State) (f : FeedId) (limit : Nat) : State × SocketSet × SocketSet :=
  let (fitted, shed) := State.shedToFit f limit (s.feed f).order.length s
  let withdrawn := fitted.overLimitQueue f limit
  let cleared := (fitted.feed f).queue.foldl (State.withdraw limit) fitted
  ((cleared.modFeed f fun g => g.setLimit limit).evaluate f, shed, withdrawn)

/-! ### Calibration (R51) -/

/-- The mean of a measurement: its sum divided by 64, truncated toward zero (R51). -/
def Calibration.mean (c : Calibration) : Int := c.sum.tdiv 64

/-- A mean small enough to be an offset (R51). -/
def offsetOk (mean : Int) : Bool := decide (mean.natAbs ≤ 250)

/-- The rail after a measurement with this mean (R51). -/
def Rail.calibrated (r : Rail) (mean : Int) : Rail :=
  if offsetOk mean then { r with offset := mean, faulted := false, calibration := none }
  else { r with faulted := true, calibration := none }

end Sys2Proof.Machine
end

