-- ==== Sys2Proof/Machine/Thermal.lean ====
section
/-!
DEFINITION. The TRU (chapter 3): readings, the window verdict, the regulator, the heater budget, the monitors and the
thermal tick.
-/

namespace Sys2Proof.Machine

/-! ### Stages 1 and 2: reading, limit and window (R57 to R61) -/

/-- Whether a raw reading is plausible beside the held temperature, if any (R57). -/
def plausible (held : Option Int) (t : Int) : Bool :=
  decide (-500 ≤ t) && decide (t ≤ 2500) &&
    match held with
    | none => true
    | some h => decide ((t - h).natAbs ≤ 200)

/-- Whether a temperature lies in a profile's window, both ends included (R61). -/
def ThermalProfile.inWindow (p : ThermalProfile) (t : Int) : Bool :=
  decide (p.setpoint - p.low ≤ t) && decide (t ≤ p.setpoint + p.high)

/-- The sensor of a populated socket read: held temperature and implausible count (R57, R58). -/
def Heat.read (h : Heat) (t : Int) : Heat :=
  if plausible h.held t then { h with held := some t, implausible := 0 }
  else { h with implausible := min 3 (h.implausible + 1) }

/-- The window verdict formed (R61). -/
def Heat.judge (h : Heat) : Heat := { h with inWindow := h.held.any h.profile.inWindow }

/-- The over-temperature test of a heated socket (R60). -/
def Heat.overTemp (h : Heat) : Bool := h.held.any fun t => decide (h.profile.overTemp ≤ t)

/-! ### Stage 3: demand (R62 to R64) -/

/-- The proportional term: Kp e / 16, truncated toward zero (R62). -/
def proportional (kp : Nat) (e : Int) : Int := (kp * e).tdiv 16

/-- The tentative accumulator (R62). -/
def tentative (acc : Int) (ki : Nat) (e : Int) : Int := clampInt (-256000) 256000 (acc + ki * e)

/-- A demand before clamping: P plus the accumulator / 256, truncated toward zero (R62). -/
def rawDemand (p acc : Int) : Int := p + acc.tdiv 256

/-- Whether the tentative accumulator is discarded (R63). -/
def discards (demand e : Int) (limited : Bool) : Bool :=
  (decide (1000 < demand) && decide (0 < e)) || (decide (demand < 0) && decide (e < 0)) || (decide (0 < e) && limited)

/-- The regulator of a heated socket with a held temperature (R62, R63). -/
def Heat.regulate (h : Heat) (held : Int) : Heat :=
  let e := h.profile.setpoint - held
  let p := proportional h.profile.kp e
  let acc := tentative h.accumulator h.profile.ki e
  let kept := if discards (rawDemand p acc) e h.limited then h.accumulator else acc
  { h with accumulator := kept, demand := (clampInt 0 1000 (rawDemand p kept)).toNat }

/-- Stage 3 of a thermal tick: the demand of a heated socket, or the release of R64. -/
def Heat.demandStage (h : Heat) (heated : Bool) : Heat :=
  if heated then
    match h.held with
    | some t => h.regulate t
    | none => { h with demand := 0 }
  else h.off

/-- Stages 1 to 3 for one position; an ABSENT position is not read (R56, R77). -/
def Socket.thermalFirst (k : Socket) (t : Int) : Socket :=
  let read := if k.scu.state = .absent then k.heat else (k.heat.read t).judge
  { k with heat := read.demandStage k.scu.state.powered }

/-! ### Stage 4: scaling to the heater budget (R66 to R69) -/

/-- The first step of scaling: demand times budget over the sum, truncated (R66). -/
def firstDuty (budget total d : Nat) : Nat := d * budget / total

/-- The leftover given out one per-mille at a time, in ascending socket number, to the sockets below their demand (R67).
Each pair is a demand and its first-step duty. -/
def giveOut : Nat → List (Nat × Nat) → List Nat
  | _, [] => []
  | 0, (_, a) :: rest => a :: giveOut 0 rest
  | l + 1, (d, a) :: rest => if a < d then (a + 1) :: giveOut l rest else a :: giveOut (l + 1) rest

/-- The applied duties of a list of demands under a budget (R66, R67). -/
def scaleDuties (budget : Nat) (demands : List Nat) : List Nat :=
  if demands.sum ≤ budget then demands
  else
    let first := demands.map fun d => (d, firstDuty budget demands.sum d)
    giveOut (budget - (first.map Prod.snd).sum) first

/-- The demands of the sixteen positions. -/
def State.demands (s : State) : List Nat := allSocks.map fun n => (s.socket n).heat.demand

/-- The set of budget-limited sockets (R68). -/
def State.limitedSet (s : State) : SocketSet := setWhere fun n => (s.socket n).heat.limited

/-- The sockets that the last scaling found budget-limited, those that have left the heated states since included (R68; log entry
40). -/
def State.lastLimitedSet (s : State) : SocketSet := setWhere fun n => (s.socket n).heat.lastLimited

/-- One position after a scaling: its duty, its mark and the heater-limited notice (R68). -/
def Socket.withDuty (k : Socket) (duty : Nat) : Socket :=
  let limited := decide (duty < k.heat.demand)
  { k with heat := { k.heat with duty, limited, lastLimited := limited },
           scu := { k.scu with heaterLimitedSinceRead := k.scu.heaterLimitedSinceRead || limited } }

/-- The demands in force scaled to the budget in force (R66 to R68). HEATER_LIMITED is set where the last scaling found no socket
limited and this one does (R68, R157; log entry 40). -/
def State.scale (s : State) : State :=
  let duties := scaleDuties s.budget s.demands
  let scaled := s.mapSockets fun n k => k.withDuty (duties.getD n.val 0)
  if s.lastLimitedSet = 0#16 ∧ scaled.limitedSet ≠ 0#16 then scaled.raise .heaterLimited scaled.limitedSet else scaled

/-! ### Stage 5: monitors (R70 to R73) -/

/-- The runaway count (R72); `before` is the held temperature before this tick's reading. -/
def Heat.runawayStep (h : Heat) (before : Option Int) : Nat :=
  match h.held, before with
  | some t, some b =>
    if h.demand = 0 ∧ h.profile.setpoint + h.profile.runawayMargin < t ∧ b ≤ t then min 16 (h.runawayCount + 1) else 0
  | _, _ => 0

/-- The in-window count (R70). -/
def Heat.settleStep (h : Heat) (st : SocketState) : Nat :=
  if st = .settle ∧ h.inWindow = true then min 8 (h.inWindowCount + 1) else 0

/-- The out-of-window count (R71). -/
def Heat.excursionStep (h : Heat) (st : SocketState) : Nat :=
  if st = .run ∧ h.profile.excursionLimit ≠ 0 ∧ h.inWindow = false then min 28800 (h.outWindowCount + 1) else 0

/-- Stage 5 counts of one position, and the mark that R73 reads (log entry 23); `before` is its TRU part before the tick. -/
def Heat.monitor (h before : Heat) (st : SocketState) : Heat :=
  { h with runawayCount := if st.powered then h.runawayStep before.held else 0,
           inWindowCount := h.settleStep st, outWindowCount := h.excursionStep st, heatedBefore := st.powered }

/-- Whether a change of verdict matches the edge selection (R73). -/
def EdgeSelection.matchesEdge (e : EdgeSelection) (entering : Bool) : Bool :=
  match e with
  | .none => false
  | .enter => entering
  | .leave => !entering
  | .both => true

/-- A window edge that raises WINDOW_EDGE: heated at both ticks, verdicts differ, selected (R73). -/
def Heat.edge (h before : Heat) (st : SocketState) : Bool :=
  st.powered && before.heatedBefore && (h.inWindow != before.inWindow) && h.profile.edge.matchesEdge h.inWindow

/-! ### Stage 6: reports and notices (R59, R74) -/

/-- What one position's monitors make due at a tick, in the order of R74: RUNAWAY, EXCURSION, then settled, or the not-settled
notice for a socket out of window in SETTLE that had settled or whose settled mark is set (R8, R70; log entry 27). `h` is its TRU
part after stage 5, `r` its SCU record. -/
def Heat.expiries (h before : Heat) (r : Record) (n : Sock) : List Expiry :=
  (if h.runawayCount = 16 then [.runaway n] else []) ++
  (if h.outWindowCount ≠ 0 ∧ 8 * h.profile.excursionLimit ≤ h.outWindowCount then [.excursion n] else []) ++
  (if h.inWindowCount = 8 ∧ before.inWindowCount ≠ 8 then [.thermallySettled n] else []) ++
  (if r.state = .settle ∧ h.inWindow = false ∧ (before.inWindowCount = 8 ∨ r.settledMark = true) then [.notSettled n] else [])

/-- The failure reports that stages 1 and 2 give a heated socket: OVER_TEMP, then SENSOR_FAULT (R58, R60, R74). -/
def State.limitReports (s : State) (n : Sock) : State :=
  let k := s.socket n
  if k.scu.state.powered then
    let hot := if k.heat.overTemp then s.send n (.failure .overTemp) else s
    if k.heat.implausible = 3 then hot.send n (.failure .sensorFault) else hot
  else s

/-- The notices and snapshots of one position: in-window-throughout (R25), the settled mark (R8), the peak held temperature
(R59). `before` is its TRU part before the tick. -/
def Socket.notices (k : Socket) : Socket :=
  if k.scu.state.powered then
    { k with
        scu := { k.scu with inWindowThroughout := k.scu.inWindowThroughout && k.heat.inWindow },
        account := match k.heat.held with
          | some t => { k.account with peakTemp := max k.account.peakTemp t }
          | none => k.account }
  else k

/-- One position's stages 5 and 6: the edge, the reports of stages 1 and 2, and what the monitors make due, which follows them
(R74). -/
def State.thermalReport (before : Vector Socket 16) (s : State) (n : Sock) : State :=
  let k := s.socket n
  let old := (before.get n).heat
  let edged := if k.heat.edge old k.scu.state then s.raise .windowEdge (single n) else s
  let reported := edged.limitReports n
  { reported with due := reported.due ++ k.heat.expiries old k.scu n }

/-- A thermal tick (R56): stages 1 to 3 for every position, scaling, then monitors, reports and notices in ascending
order. -/
def State.thermalTick (s : State) (readings : Vector Int 16) : State :=
  let demanded := s.mapSockets fun n k => k.thermalFirst (readings.get n)
  let monitored := demanded.scale.mapSockets fun n k =>
    ({ k with heat := k.heat.monitor (s.socket n).heat k.scu.state } : Socket).notices
  allSocks.foldl (State.thermalReport s.sockets) monitored

end Sys2Proof.Machine
end

