-- ==== Sys2Proof/Machine/Credit.lean ====
section
/-!
DEFINITION. The CAU (chapter 6), the factor tables, and the second tick (R180) with the SCU's timers (R9, R11), the scrub
(R89) and the silence count (R160).
-/

namespace Sys2Proof.Machine

/-! ### The factor of a temperature (R123) -/

/-- The factor on a segment from point a to point b (R123). -/
def interpolate (a b : FactorPoint) (t : Int) : Nat :=
  (a.factor + ((b.factor - a.factor : Int) * (t - a.temp)).tdiv (b.temp - a.temp)).toNat

/-- The factor of a temperature by the points after point `a`, which lies at or below it (R123). -/
def factorAfter (a : FactorPoint) (t : Int) : List FactorPoint → Nat
  | [] => a.factor
  | b :: rest => if b.temp ≤ t then factorAfter b t rest else interpolate a b t

/-- The factor of a temperature by a table (R123). -/
def factorOf (points : List FactorPoint) (t : Int) : Nat :=
  match points with
  | [] => 0
  | p :: rest => if t ≤ p.temp then p.factor else factorAfter p t rest

/-! ### The pending table and its commit (R119 to R121) -/

/-- The points of slots 0 to c - 1, none for an unwritten slot. -/
def Factors.firstSlots (f : Factors) (c : Nat) : List (Option FactorPoint) := f.slots.toList.take c

/-- The lowest index from k on whose temperature is not above that of the slot before it (R121). -/
def notRising (before : Int) : Nat → List FactorPoint → Option Nat
  | _, [] => none
  | k, p :: rest => if before < p.temp then notRising p.temp (k + 1) rest else some k

/-- The first failing point of a commit of c points, none when the commit succeeds (R121). -/
def Factors.failing (f : Factors) (c : Nat) : Option Nat :=
  if c = 1 then some 1
  else
    let slots := f.firstSlots c
    match slots.findIdx? Option.isNone with
    | some k => some k
    | none =>
      match slots.reduceOption with
      | [] => some 1
      | p :: rest => notRising p.temp 1 rest

/-- A commit of c points: the new active table if every check passes; the pending table is emptied either way (R121). -/
def Factors.commit (f : Factors) (c : Nat) : Factors :=
  { active := if (f.failing c).isNone then (f.firstSlots c).reduceOption else f.active, slots := Vector.replicate 16 none }

/-- The set of pending slots whose written marks are set, bit n slot n (R120). -/
def Factors.writtenSet (f : Factors) : BitVec 16 := setWhere fun n => (f.slots.get n).isSome

/-! ### Accrual (R124 to R128) -/

/-- A socket in RUN is eligible at a second tick (R125). -/
def State.eligible (s : State) (n : Sock) : Bool :=
  let k := s.socket n
  k.scu.state == .run && s.engine.state != .idle && k.rail.qualified && k.heat.inWindow

/-- Credit and residue after an eligible tick at factor F (R126). -/
def Credit.accrue (c : Credit) (factor : Nat) : Credit :=
  { c with credit := min Config.max32 (c.credit + (c.residue + factor) / 256), residue := (c.residue + factor) % 256 }

/-- The second counts of a socket in RUN (R127). -/
def Account.countSecond (a : Account) (eligible inWindow : Bool) : Account :=
  { a with runSeconds := satInc Config.max32 a.runSeconds,
           accruedSeconds := if eligible then satInc Config.max32 a.accruedSeconds else a.accruedSeconds,
           outSeconds := if !eligible && !inWindow then satInc Config.max32 a.outSeconds else a.outSeconds }

/-- The target test (R128). -/
def Credit.met (c : Credit) : Bool := c.target != 0 && decide (c.target ≤ c.credit)

/-- The factor at a tick: of the held temperature. Eligibility requires one (R123); with none nothing is added. -/
def State.tickFactor (s : State) (n : Sock) : Nat :=
  match (s.socket n).heat.held with
  | some t => factorOf s.factors.active t
  | none => 0

/-- The CAU's work for one socket at a second tick (R124). -/
def State.accrueSocket (s : State) (n : Sock) : State :=
  let k := s.socket n
  if k.scu.state = .run then
    let eligible := s.eligible n
    let credit := if eligible then k.credit.accrue (s.tickFactor n) else k.credit
    let counted := s.setSocket n { k with credit, account := k.account.countSecond eligible k.heat.inWindow }
    if credit.met then counted.send n .target else counted
  else s

/-- The CAU's work at a second tick. -/
def State.accrueAll (s : State) : State := allSocks.foldl State.accrueSocket s

/-! ### The SCU's timers (R9, R11) -/

/-- The settle timer of a socket in SETTLE and the clean-run count of a socket in RUN (R9, R11). -/
def Record.second (r : Record) : Record :=
  { r with settleTimer := if r.state = .settle then satInc 65535 r.settleTimer else r.settleTimer,
           cleanRun := if r.state = .run then satInc 60 r.cleanRun else r.cleanRun }

/-- The expiries of one socket's timers (R9, R11). -/
def Socket.timerExpiries (k : Socket) (n : Sock) : List Expiry :=
  (if k.scu.state = .settle ∧ k.heat.profile.settleTimeout ≤ k.scu.settleTimer then [.settleTimeout n] else []) ++
  (if k.scu.state = .run ∧ k.scu.cleanRun = 60 then [.cleanRun n] else [])

/-- The SCU's timers at a second tick, and what they make due. -/
def State.timers (s : State) : State :=
  let timed := s.mapSockets fun _ k => { k with scu := k.scu.second }
  { timed with due := timed.due ++ (allSocks.map fun n => (timed.socket n).timerExpiries n).flatten }

/-! ### The silence count (R160) -/

/-- The silence timeout that a link-silence parameter gives (R160). -/
def silenceTimeout (param : Byte) : Nat := if param = 0#8 then 7200 else 5 * param.toNat

/-- The silence count at a second tick; at the timeout the timer expires (R160). -/
def State.silenceTick (s : State) : State :=
  match s.link.mode with
  | .unattended => s
  | .attended =>
    let count := min 7200 (s.link.silence + 1)
    let counted := { s with link := { s.link with silence := count } }
    if silenceTimeout s.link.silenceParam ≤ count then { counted with due := counted.due ++ [.linkSilence] } else counted

/-- A second tick (R180): the board clock, the CAU, the SCU's timers, the scrub, the silence count, in the order the table
lists them (log entry 8). A SETTLE_TIMEOUT that the timers make due is carried out after the whole tick; where the scrub makes
the engine IDLE first, a settled socket that waited moves to RUN, and the timeout is discarded (log entry 34). A link-silence
expiry of the same tick stands behind the SETTLE_TIMEOUTs, where R163 allows either order (the model's choice, log entry 42). -/
def State.secondTick (s : State) : State :=
  ({ s with clock := (s.clock + 1) % 4294967296 }.accrueAll.timers.scrub).silenceTick

end Sys2Proof.Machine
end

