-- ==== Sys2Proof/Machine/Expiries.lean ====
section
/-!
DEFINITION. What each expiry does, and when: an expiry that a tick or a vector step has found is carried out by the command
that names it, or before any other command (log entry 2).
-/

namespace Sys2Proof.Machine

/-! ### The effect of each expiry -/

/-- RAMP_TIMEOUT: RAIL_UNREG is reported and the timer stops (R39). -/
def State.rampTimedOut (s : State) (n : Sock) : State :=
  (s.modRail n fun r => { r with motion := .still }).send n (.failure .railUnreg)

/-- MOVE_TIMEOUT: RAIL_UNREG is reported and the move ends (R40). -/
def State.moveTimedOut (s : State) (n : Sock) : State :=
  (s.modRail n fun r => { r with motion := .still }).send n (.failure .railUnreg)

/-- QUALIFICATION: the rail becomes qualified, the ramp or move is over, and the SCU is told (R39, R40, R41). A socket in no order
list is not qualified (R41). -/
def State.qualify (s : State) (n : Sock) : State :=
  if s.inOrder n then (s.modRail n fun r => { r with qualified := true, motion := .still }).send n .qualified else s

/-- UNREGULATED_COUNT_EXPIRY: RAIL_UNREG is reported and the count returns to 0 (R42). -/
def State.unregulated (s : State) (n : Sock) : State :=
  (s.modRail n fun r => { r with unregCount := 0 }).send n (.failure .railUnreg)

/-- TRIP: the rail off, the socket off its order list, the trip reported (R44). -/
def State.tripRail (s : State) (n : Sock) : State := (s.takeOff n).send n .trip

/-- CONTACT_LOSS_COUNT_EXPIRY: CONTACT_LOSS is reported and the count returns to 0 (R45). -/
def State.contactLost (s : State) (n : Sock) : State :=
  (s.modRail n fun r => { r with contactCount := 0 }).send n (.failure .contactLoss)

/-- SHED: the newest socket of the feed is shed and reported, FEED_SHED is set, the count returns to 0 (R46, R47). -/
def State.shedNewest (s : State) (f : FeedId) : State :=
  let counted := s.modFeed f fun g => { g with overCount := 0 }
  match (s.feed f).order.getLast? with
  | none => counted
  | some n => ((counted.takeOff n).send n .shed).raise .feedShed (single n)

/-- The reply to Calibrate Sense, if it is still awaited (R51, R172): socket, mean, offset in force. -/
def State.answerCalibration (s : State) (n : Sock) (mean : Int) : State :=
  if s.link.reply = .measuring n then
    let reply : Reply :=
      { address := s.link.address.getD 0#8, kind := 0x23#8, status := if offsetOk mean then .ok else .senseFault,
        attention := attention s.events,
        payload := [sockCode n] ++ leInt16 mean ++ leInt16 (s.socket n).rail.offset }
    { s with link := { s.link with reply := .pending reply none } }
  else s

/-- CALIBRATION_END: the mean becomes the offset or marks the sense faulted; the reply is assembled (R51). -/
def State.endCalibration (s : State) (n : Sock) : State :=
  match (s.socket n).rail.calibration with
  | none => s
  | some c => (s.modRail n fun r => r.calibrated c.mean).answerCalibration n c.mean

/-- THERMALLY_SETTLED: reported to the SCU (R70). -/
def State.reportSettled (s : State) (n : Sock) : State := s.send n .settled

/-- The not-settled notice (R70): the settled mark clears, at once or behind a report of the TRU about the socket not yet taken
(R74; log entry 27). -/
def State.noticeNotSettled (s : State) (n : Sock) : State :=
  if (s.oldest n .tru).isSome then s.send n .notSettled else s.takeNotSettled n

/-- EXCURSION_COUNT_EXPIRY: EXCURSION is reported and the count returns to 0 (R71). -/
def State.reportExcursion (s : State) (n : Sock) : State :=
  (s.modHeat n fun h => { h with outWindowCount := 0 }).send n (.failure .excursion)

/-- RUNAWAY_COUNT_EXPIRY: RUNAWAY is reported and the count returns to 0 (R72). -/
def State.reportRunaway (s : State) (n : Sock) : State :=
  (s.modHeat n fun h => { h with runawayCount := 0 }).send n (.failure .runaway)

/-- CLEAN_RUN_COMPLETE: the trip and clean-run counts return to 0 (R11). -/
def State.cleanRunDone (s : State) (n : Sock) : State := s.modScu n fun r => { r with tripCount := 0, cleanRun := 0 }

/-- One socket at the link-silence expiry: from HOLD to SAFE, released unattended (R21). -/
def State.releaseUnattended (s : State) (n : Sock) : State :=
  if (s.socket n).scu.state = .hold then
    (s.modAccount n fun a => { a with released := satInc Config.max16 a.released }).moveAdmit n .safe
  else s

/-- The sockets in HOLD. -/
def State.holdSet (s : State) : SocketSet := setWhere fun n => (s.socket n).scu.state == .hold

/-- Step 1 of R162: the mode becomes UNATTENDED, and the silence count returns to 0. -/
def State.goUnattended (s : State) : State := { s with link := { s.link with mode := .unattended, silence := 0 } }

/-- Steps 2 and 3 of R162: every HOLD socket to SAFE, UNATTENDED set with the sockets moved (R21). -/
def State.releaseAll (s : State) : State := (allSocks.foldl State.releaseUnattended s).raise .unattended s.holdSet

/-- LINK_SILENCE_EXPIRY: the three steps of R162 in order. -/
def State.silenceExpired (s : State) : State := s.goUnattended.releaseAll

/-- The effect of an expiry. -/
def State.fire (s : State) : Expiry → State
  | .rampTimeout n => s.rampTimedOut n
  | .moveTimeout n => s.moveTimedOut n
  | .qualification n => s.qualify n
  | .unregulated n => s.unregulated n
  | .trip n => s.tripRail n
  | .contactLoss n => s.contactLost n
  | .shed f => s.shedNewest f
  | .calibrationEnd n => s.endCalibration n
  | .thermallySettled n => s.reportSettled n
  | .notSettled n => s.noticeNotSettled n
  | .excursion n => s.reportExcursion n
  | .runaway n => s.reportRunaway n
  | .settleTimeout n => s.fail n .settleTimeout
  | .cleanRun n => s.cleanRunDone n
  | .linkSilence => s.silenceExpired
  | .releases => s.releaseAll
  | .passEnd => s.passEnd

/-! ### When expiries are carried out (log entry 2) -/

/-- Every due expiry carried out, in the order found. -/
def State.settled (s : State) : State := s.due.foldl State.fire { s with due := [] }

/-- The command that names an expiry: if it is due, those found before it and then it are carried out; if it is not due, it
does not occur (log entries 2 and 4). -/
def State.occur (s : State) (e : Expiry) : State :=
  if e ∈ s.due then
    let k := s.due.idxOf e + 1
    (s.due.take k).foldl State.fire { s with due := s.due.drop k }
  else s

/-- RAMP_TIMEOUT (R39). -/
def execRampTimeout (n : Sock) (s : State) : Host.Outcome State Fault Refusal := .next (s.occur (.rampTimeout n))

/-- MOVE_TIMEOUT (R40). -/
def execMoveTimeout (n : Sock) (s : State) : Host.Outcome State Fault Refusal := .next (s.occur (.moveTimeout n))

/-- QUALIFICATION (R41). -/
def execQualification (n : Sock) (s : State) : Host.Outcome State Fault Refusal := .next (s.occur (.qualification n))

/-- UNREGULATED_COUNT_EXPIRY (R42). -/
def execUnregulatedCountExpiry (n : Sock) (s : State) : Host.Outcome State Fault Refusal :=
  .next (s.occur (.unregulated n))

/-- TRIP (R44). -/
def execTrip (n : Sock) (s : State) : Host.Outcome State Fault Refusal := .next (s.occur (.trip n))

/-- CONTACT_LOSS_COUNT_EXPIRY (R45). -/
def execContactLossCountExpiry (n : Sock) (s : State) : Host.Outcome State Fault Refusal :=
  .next (s.occur (.contactLoss n))

/-- SHED (R47). -/
def execShed (f : FeedId) (s : State) : Host.Outcome State Fault Refusal := .next (s.occur (.shed f))

/-- CALIBRATION_END (R51). -/
def execCalibrationEnd (n : Sock) (s : State) : Host.Outcome State Fault Refusal := .next (s.occur (.calibrationEnd n))

/-- THERMALLY_SETTLED (R70). -/
def execThermallySettled (n : Sock) (s : State) : Host.Outcome State Fault Refusal :=
  .next (s.occur (.thermallySettled n))

/-- EXCURSION_COUNT_EXPIRY (R71). -/
def execExcursionCountExpiry (n : Sock) (s : State) : Host.Outcome State Fault Refusal := .next (s.occur (.excursion n))

/-- RUNAWAY_COUNT_EXPIRY (R72). -/
def execRunawayCountExpiry (n : Sock) (s : State) : Host.Outcome State Fault Refusal := .next (s.occur (.runaway n))

/-- SETTLE_TIMEOUT (R9, R19). -/
def execSettleTimeout (n : Sock) (s : State) : Host.Outcome State Fault Refusal := .next (s.occur (.settleTimeout n))

/-- CLEAN_RUN_COMPLETE (R11). -/
def execCleanRunComplete (n : Sock) (s : State) : Host.Outcome State Fault Refusal := .next (s.occur (.cleanRun n))

/-- LINK_SILENCE_EXPIRY (R162): the whole expiry, or the releases where a report was taken after step 1 (log entry 31). -/
def execLinkSilenceExpiry (s : State) : Host.Outcome State Fault Refusal :=
  .next (s.occur (if .linkSilence ∈ s.due then .linkSilence else .releases))

/-- PASS_END (R104). -/
def execPassEnd (s : State) : Host.Outcome State Fault Refusal := .next (s.occur .passEnd)

/-! ### Reports taken by the SCU (R6 to R10, R16, R19; log entry 3) -/

/-- The notices of the TRU about n that now stand first are taken with the report before them (log entry 27). -/
def State.takeNotices (n : Sock) : Nat → State → State
  | 0, s => s
  | k + 1, s =>
    match s.oldest n .tru with
    | some r => if r.kind = .notSettled then State.takeNotices n k ((s.drop r).takeNotSettled n) else s
    | none => s

/-- The expiries found before a given one carried out, it and those after it still due. -/
def State.occurBefore (s : State) (e : Expiry) : State :=
  let k := s.due.idxOf e
  (s.due.take k).foldl State.fire { s with due := s.due.drop k }

/-- What comes before a report is taken: every due expiry. But a link-silence expiry that is due is under way: its step 1 is done,
and the releases follow the report (R162; log entry 31). -/
def State.beforeReport (s : State) : State :=
  if .linkSilence ∈ s.due then
    let reached := s.occurBefore .linkSilence
    { reached with due := .releases :: reached.due.tail }.goUnattended
  else if .releases ∈ s.due then s.occurBefore .releases
  else s.settled

/-- The SCU takes a report about n of a kind, if one is waiting that it may take; otherwise no such report is there to take
(R20; log entries 3 and 4). -/
def State.takeReport (s : State) (n : Sock) (kind : ReportKind) (take : State → State) : State :=
  if s.mayTake n kind then State.takeNotices n s.reports.length (take (s.drop ⟨n, kind⟩)) else s

/-- ADMISSION_GRANT_TAKEN (R6). -/
def execAdmissionGrantTaken (n : Sock) (s : State) : Host.Outcome State Fault Refusal :=
  .next (s.beforeReport.takeReport n .grant (·.takeGrant n))

/-- QUALIFIED_REPORT_TAKEN (R7). -/
def execQualifiedReportTaken (n : Sock) (s : State) : Host.Outcome State Fault Refusal :=
  .next (s.beforeReport.takeReport n .qualified (·.takeQualified n))

/-- SETTLED_REPORT_TAKEN (R8). -/
def execSettledReportTaken (n : Sock) (s : State) : Host.Outcome State Fault Refusal :=
  .next (s.beforeReport.takeReport n .settled (·.takeSettled n))

/-- TARGET_REPORT_TAKEN (R10). -/
def execTargetReportTaken (n : Sock) (s : State) : Host.Outcome State Fault Refusal :=
  .next (s.beforeReport.takeReport n .target (·.takeTarget n))

/-- TRIP_REPORT_TAKEN (R16). -/
def execTripReportTaken (n : Sock) (s : State) : Host.Outcome State Fault Refusal :=
  .next (s.beforeReport.takeReport n .trip (·.takeTrip n))

/-- SHED_REPORT_TAKEN (R16). -/
def execShedReportTaken (n : Sock) (s : State) : Host.Outcome State Fault Refusal :=
  .next (s.beforeReport.takeReport n .shed (·.takeShed n))

/-- FAILURE_REPORT_TAKEN (R17, R19): the report of the cause named. -/
def execFailureReportTaken (n : Sock) (cause : Cause) (s : State) : Host.Outcome State Fault Refusal :=
  .next (s.beforeReport.takeReport n (.failure cause) (·.fail n cause))

/-! ### Ticks and vector steps -/

/-- SAMPLE_TICK (R37): from the end of the identity load at power-on (R53, log entry 26). -/
def execSampleTick (readings : Vector SenseReading 16) (s : State) : Host.Outcome State Fault Refusal :=
  .next (if s.settled.phase = .starting then s.settled else s.settled.sampleTick readings)

/-- THERMAL_TICK (R56): not during an identity load. -/
def execThermalTick (readings : Vector Int 16) (s : State) : Host.Outcome State Fault Refusal :=
  .next (if s.settled.phase = .running then s.settled.thermalTick readings else s.settled)

/-- SECOND_TICK (R180): from the end of the identity load at power-on, and on through every Board Reset. -/
def execSecondTick (s : State) : Host.Outcome State Fault Refusal :=
  .next (if s.settled.phase = .starting then s.settled else s.settled.secondTick)

/-- VECTOR_STEP (R110): nothing while no pass is in progress. -/
def execVectorStep (responses : Vector Byte 16) (s : State) : Host.Outcome State Fault Refusal :=
  .next (match s.settled.engine.current with
    | some e => s.settled.vectorStep e responses
    | none => s.settled)

/-- The stored content after an upset, its page's condition as it was (R82; log entry 22). Every bit of a byte can
be upset, the undefined bits of a compare-flag byte included (log entry 39). -/
def Store.upset (t : Store) : Upset → Store
  | .vectorByte a v => { t with mem := Mem.write t.mem a.val v }
  | .checkWord p v => { t with checks := t.checks.set p.val v p.isLt }

/-- STORE_UPSET (R82). -/
def execStoreUpset (upset : Upset) (s : State) : Host.Outcome State Fault Refusal :=
  .next { s.settled with store := s.settled.store.upset upset }

end Sys2Proof.Machine
end

