-- ==== Sys2Proof/Machine/Start.lean ====
section
/-!
DEFINITION. Power-on, the identity load and Board Reset (chapter 10, and the reset tables of every chapter).
-/

namespace Sys2Proof.Machine

/-! ### The identity load (R177, R178) -/

/-- Whether an attempt passes: 64 bytes acknowledged, the CRC over bytes 0 to 61 equal to the check, format 0x01 (R178; log entry 29). -/
def LoadAttempt.passes : LoadAttempt → Bool
  | .noAck => false
  | .block bytes =>
    decide (bytes.length = 64) && (crc16 (bytes.take 62) == set16 bytes 62) && (byteAt bytes 0 == 0x01#8)

/-- The block of an attempt. -/
def LoadAttempt.bytes : LoadAttempt → List Byte
  | .noAck => []
  | .block bytes => bytes

/-- The identity that a load of up to three attempts leaves: the first that passes, or FAULT with an image of all zero
(R178). -/
def loadIdentity (first second third : LoadAttempt) : Identity :=
  match [first, second, third].find? LoadAttempt.passes with
  | some a => { valid := true, image := LoadAttempt.bytes a }
  | none => {}

/-- One position under a loaded population: unfitted is ABSENT; fitted leaves ABSENT for OFF and is else unchanged (R3). -/
def Socket.populate (k : Socket) (fitted : Bool) : Socket :=
  if fitted then (if k.scu.state = .absent then k.moved .off else k)
  else if k.scu.state = .absent then k else k.moved .absent

/-- The board ceiling at the end of a load: the native ceiling, or with retain the one in force clamped to it (R28). -/
def State.ceilingAfterLoad (s : State) (i : Identity) : Nat :=
  match s.phase with
  | .reloading true => min s.ceiling i.nativeCeiling
  | _ => i.nativeCeiling

/-- A feed's limit at the end of a load: the native limit, or with retain the one in force clamped to it (R30). -/
def State.limitAfterLoad (s : State) (i : Identity) (f : FeedId) : Nat :=
  match s.phase with
  | .reloading true => min (s.feed f).limit (i.nativeLimit f)
  | _ => i.nativeLimit f

/-- The end of an identity load: natives to the SSC, population to the SCU, the budget clamped, the link open with its
receiver in HUNT (R3, R28, R30, R65, R178, R179, R182). -/
def State.endLoad (s : State) (i : Identity) : State :=
  let populated := s.mapSockets fun n k => k.populate (SocketSet.has i.population n)
  { populated with
      identity := i, phase := .running, ceiling := s.ceilingAfterLoad i,
      feedA := { s.feedA with limit := s.limitAfterLoad i .a },
      feedB := { s.feedB with limit := s.limitAfterLoad i .b },
      budget := min s.budget i.budgetMax,
      link := { s.link with receiver := .hunt } }

/-- POWER_ON (R179): every piece of state at its power-on value, the address straps read (R168), the identity load begun.
The commands waiting are outside the part and stay. -/
def execPowerOn (straps : Byte) (s : State) : Host.Outcome State Fault Refusal :=
  .next { State.reset with
    link := { State.reset.link with
      address := if 1 ≤ straps.toNat ∧ straps.toNat ≤ 120 then some straps else none },
    pending := s.pending }

/-- IDENTITY_LOAD_END (R178): nothing while no load is in progress. -/
def execIdentityLoadEnd (first second third : LoadAttempt) (s : State) : Host.Outcome State Fault Refusal :=
  .next (if s.settled.phase = .running then s.settled else s.settled.endLoad (loadIdentity first second third))

/-! ### Board Reset (R182) -/

/-- The state of a socket after a Board Reset (R23). -/
def SocketState.afterReset : SocketState → SocketState
  | .queued | .ramp | .settle | .run | .pause => .off
  | .hold => .safe
  | .absent => .absent
  | .off => .off
  | .safe => .safe
  | .done => .done

/-- The SCU record after a Board Reset (R1, R23). -/
def Record.afterReset (r : Record) : Record := { state := r.state.afterReset, firstFail := r.firstFail }

/-- The SSC part after a Board Reset (R53): the sensed values stand until the next sample tick. -/
def Rail.afterReset (r : Rail) (retain : Bool) : Rail :=
  { profile := if retain then r.profile else {}, written := retain && r.written, offset := r.offset, faulted := r.faulted,
    sensedMv := r.sensedMv, sensedMa := r.sensedMa }

/-- The TRU part after a Board Reset (R76). -/
def Heat.afterReset (h : Heat) (retain : Bool) : Heat :=
  { profile := if retain then h.profile else {}, written := retain && h.written }

/-- The CMP part after a Board Reset (R117). -/
def Lane.afterReset (l : Lane) (retain : Bool) : Lane :=
  { l with profile := if retain then l.profile else {}, written := retain && l.written, result := {} }

/-- The CAU part after a Board Reset (R131). -/
def Credit.afterReset (c : Credit) (retain : Bool) : Credit := { c with target := if retain then c.target else 0 }

/-- The account after a Board Reset: interrupts of a socket QUEUED or powered, and the mirror (R23, R133, R151). -/
def Account.afterReset (a : Account) (st : SocketState) : Account :=
  { a with mirror := st.afterReset,
           interrupts := if st.busy then satInc Config.max16 a.interrupts else a.interrupts }

/-- One position after a Board Reset. -/
def Socket.afterReset (k : Socket) (retain : Bool) : Socket :=
  { scu := k.scu.afterReset, rail := k.rail.afterReset retain, heat := k.heat.afterReset retain,
    lane := k.lane.afterReset retain, credit := k.credit.afterReset retain, account := k.account.afterReset k.scu.state }

/-- A feed after a Board Reset: lists empty, count 0; the limit is settled at the end of the reload (R30, R53). -/
def Feed.afterReset (g : Feed) : Feed := { g with queue := [], order := [], overCount := 0 }

/-- The store after a Board Reset (R96). -/
def Store.afterReset (t : Store) (retain : Bool) : Store :=
  if retain then { t with scrub := 0, lastScrubbed := none } else {}

/-- The PEN after a Board Reset (R96, R117). -/
def Engine.afterReset (g : Engine) (retain : Bool) : Engine :=
  { table := if retain then g.table else Vector.replicate 32 {},
    lastStop := if g.state = .idle then g.lastStop else .reset }

/-- The factor tables after a Board Reset (R131). -/
def Factors.afterReset (f : Factors) (retain : Bool) : Factors :=
  if retain then { f with slots := Vector.replicate 16 none } else {}

/-- The log after a Board Reset (R151). -/
def FailLog.afterReset (l : FailLog) (retain : Bool) : FailLog :=
  if retain then l else { l with threshold := 96, thresholdArmed := decide (l.records.length < 96) }

/-- The link after a Board Reset: receiver, counters, mode and silence count reset, the address kept; parameter and group
table kept with retain (R161, R164, R168, R170, R175). -/
def Link.afterReset (l : Link) (retain : Bool) : Link :=
  { address := l.address, groups := if retain then l.groups else Vector.replicate 8 255#8,
    silenceParam := if retain then l.silenceParam else 12#8, silenceBefore := l.silenceBefore }

/-- The flags after a Board Reset: clear and empty, enables kept (R159). -/
def flagsAfterReset (events : Vector FlagState 12) : Vector FlagState 12 :=
  events.map fun x => { x with isSet := false, sockets := 0#16 }

/-- Steps 1 to 3 of R182, and the start of step 4: the identity is being reloaded, and the link takes no frame. Reports not
yet taken stay and are judged in the new states (R181); what a tick had made due is cut. The image stands until the reload
ends (log entry 25). -/
def State.boardReset (s : State) (retain : Bool) : State :=
  let sockets := s.mapSockets fun _ k => k.afterReset retain
  { sockets with
      phase := .reloading retain, feedA := s.feedA.afterReset, feedB := s.feedB.afterReset,
      budget := if retain then s.budget else 0,
      store := s.store.afterReset retain, engine := s.engine.afterReset retain, factors := s.factors.afterReset retain,
      log := s.log.afterReset retain, events := flagsAfterReset s.events, link := s.link.afterReset retain, due := [] }

end Sys2Proof.Machine
end

