-- ==== Sys2Proof/Machine/Link.lean ====
section
/-!
DEFINITION. The BLI (chapter 9): the taking of a valid frame, replies, and the abandonment of a reply.
-/

namespace Sys2Proof.Machine

/-- What an owner answers to its request (R172): a status and payload at once; a reply at the end of a measurement (R51);
or OK with a Board Reset to follow (R181). -/
inductive Response where
  | now (status : Status) (payload : List Byte)
  | whenMeasured (n : Sock)
  | thenReset (retain : Bool)
deriving DecidableEq, Repr

/-- A kind of request (R184): its code, its permitted lengths, whether group and broadcast frames may carry it, and what its
owner does with its payload. -/
structure RequestKind where
  code : Byte
  lengthOk : Nat → Bool
  group : Bool
  carryOut : List Byte → State → State × Response

/-! ### Replies (R172, R173) -/

/-- The address a reply carries; a board without an address sends none (R168). -/
def State.address (s : State) : Byte := s.link.address.getD 0#8

/-- The reply assembled now: the attention byte is that of the flags and enables as they stand (R155, R172). -/
def State.assemble (s : State) (kind : Byte) (status : Status) (payload : List Byte) : Reply :=
  { address := s.address, kind, status, attention := attention s.events, payload }

/-- The state with the board's own reply replaced. -/
def State.withReply (s : State) (slot : ReplySlot) : State := { s with link := { s.link with reply := slot } }

/-- A reply assembled at once and pending (R172). -/
def State.answer (s : State) (kind : Byte) (status : Status) (payload : List Byte) : State :=
  s.withReply (.pending (s.assemble kind status payload) none)

/-- The reply that an owner's response gives. -/
def State.respond (s : State) (kind : Byte) : Response → State
  | .now status payload => s.answer kind status payload
  | .whenMeasured n => s.withReply (.measuring n)
  | .thenReset retain => s.withReply (.pending (s.assemble kind .ok []) (some retain))

/-- A marker taken in HUNT abandons a reply not begun; that of Reset Board makes the reset act at once (R173). -/
def State.abandonReply (s : State) : State :=
  match s.link.reply with
  | .idle | .sending _ _ => s
  | .measuring _ | .pending _ none => s.withReply .idle
  | .pending _ (some retain) => s.boardReset retain

/-! ### Valid frames (R169 to R171) -/

/-- How a valid frame is addressed (R169). -/
inductive Addressing where
  | individual
  | group
  | others
deriving DecidableEq, Repr

/-- The match of a destination: this board, broadcast or a group held, or for others; a board without an address takes
broadcast alone (R168, R169). -/
def Link.addressing (l : Link) (dst : Byte) : Addressing :=
  if dst = 0#8 then .group
  else match l.address with
    | none => .others
    | some a =>
      if dst = a then .individual
      else if 128 ≤ dst.toNat ∧ dst.toNat ≤ 254 ∧ l.groups.contains dst = true then .group else .others

/-- The link counters changed. -/
def State.count (s : State) (f : LinkCounters → LinkCounters) : State :=
  { s with link := { s.link with counters := f s.link.counters } }

/-- A frame for others counted (R169, R175). -/
def LinkCounters.addOther (c : LinkCounters) : LinkCounters := { c with others := satInc Config.max16 c.others }

/-- A good frame counted. -/
def LinkCounters.addGood (c : LinkCounters) : LinkCounters := { c with good := satInc Config.max16 c.good }

/-- A CRC error counted. -/
def LinkCounters.addCrc (c : LinkCounters) : LinkCounters := { c with crcErrors := satInc Config.max16 c.crcErrors }

/-- A framing error counted. -/
def LinkCounters.addFraming (c : LinkCounters) : LinkCounters := { c with framing := satInc Config.max16 c.framing }

/-- A group refusal counted. -/
def LinkCounters.addRefusal (c : LinkCounters) : LinkCounters := { c with refusals := satInc Config.max16 c.refusals }

/-- A reply sent counted. -/
def LinkCounters.addReply (c : LinkCounters) : LinkCounters := { c with replies := satInc Config.max16 c.replies }

/-- A valid individually addressed frame restarts the silence count and ends UNATTENDED (R160, R163); the count that stood
before is kept for Poll (R156). -/
def State.attend (s : State) : State :=
  { s with link := { s.link with silence := 0, silenceBefore := s.link.silence, mode := .attended } }

/-- A request handed to its owner. Only the owner's state and response count (R169). -/
def State.takeIndividual (s : State) (kind : Byte) (k : Option RequestKind) (payload : List Byte) : State :=
  match k with
  | none => s.answer kind .badKind []
  | some r =>
    if r.lengthOk payload.length then
      let (t, response) := r.carryOut payload s
      t.respond kind response
    else s.answer kind .badLength []

/-- A group or broadcast frame: carried out without a reply, or refused and counted (R171). -/
def State.takeGroup (s : State) (k : Option RequestKind) (payload : List Byte) : State :=
  match k with
  | none => s.count LinkCounters.addRefusal
  | some r =>
    if r.group = true ∧ r.lengthOk payload.length = true then (r.carryOut payload s).1
    else s.count LinkCounters.addRefusal

/-- A valid frame taken (R169): matched, counted, carried out, answered. `k` is the kind of its kind byte, if the part has
it. -/
def State.takeFrame (s : State) (dst kind : Byte) (k : Option RequestKind) (payload : List Byte) : State :=
  match s.link.addressing dst with
  | .others => s.count LinkCounters.addOther
  | .individual => (s.count LinkCounters.addGood).attend.takeIndividual kind k payload
  | .group => (s.count LinkCounters.addGood).takeGroup k payload

/-- Whether the board's receiver takes bytes: the link is open, and the board is not sending (R165, R175). -/
def State.listening (s : State) : Bool :=
  s.phase == .running && match s.link.reply with
    | .sending _ _ => false
    | _ => true

/-- A whole request frame with a good CRC received from HUNT: its marker abandons a pending reply; if that makes a Board
Reset act, the frame is discarded and counted nowhere (R173, R175). A length above 250 is a framing error (R166; log entry 24). -/
def State.receiveRequest (s : State) (dst kind : Byte) (k : Option RequestKind) (payload : List Byte) : State :=
  if s.listening then
    let marked := s.abandonReply
    if marked.phase = .running then
      if payload.length ≤ Config.maxPayload then marked.takeFrame dst kind k payload
      else marked.count LinkCounters.addFraming
    else marked
  else s

/-! ### The reply on the line (R172, R181) -/

/-- REPLY_TRANSMIT_START (R172): a pending reply goes onto the line; nothing when none is pending. -/
def execReplyTransmitStart (s : State) : Host.Outcome State Fault Refusal :=
  .next (match s.settled.link.reply with
    | .pending r reset => s.settled.withReply (.sending r.bytes reset)
    | _ => s.settled)

/-- REPLY_SENT (R172): the line is released and replies sent increments; after the reply to Reset Board the reset acts
(R181, R182). Nothing when none is being sent. -/
def execReplySent (s : State) : Host.Outcome State Fault Refusal :=
  .next (match s.settled.link.reply with
    | .sending _ reset =>
      let sent := (s.settled.withReply .idle).count LinkCounters.addReply
      match reset with
      | none => sent
      | some retain => sent.boardReset retain
    | _ => s.settled)

end Sys2Proof.Machine
end

