-- ==== Sys2Proof/Machine/LinkRequests.lean ====
section
/-!
DEFINITION. The BLI's and the EVU's own requests (chapters 8 to 10): Identify, Read Link Counters, Set Group Table, Set Link
Silence, Reset Board, Poll, Ack Events, Set Event Enables.
-/

namespace Sys2Proof.Machine

/-- Exactly one length is permitted (R184). -/
def exactly (n : Nat) : Nat → Bool := fun m => m == n

/-! ### Link and identity -/

/-- The payload of Identify: 31 bytes (R176, section 11.7). -/
def State.identifyBytes (s : State) : List Byte :=
  let i := s.identity
  [Config.vendorCode] ++ le16 Config.partCode ++
    [Config.revision, if i.valid then 1#8 else 0#8, byteAt i.image 0] ++ le32 (nat32 i.image 1) ++
    le16 i.population.toNat ++ le16 i.nativeCeiling ++ le16 i.tripMax ++ le32 (i.nativeLimit .a) ++
    le32 (i.nativeLimit .b) ++ le16 (nat16 i.image 19) ++ le32 s.clock ++ [BitVec.ofNat 8 (SocketSet.size i.population)]

/-- Identify (R176). -/
def identifyKind : RequestKind where
  code := 0x01#8
  lengthOk := exactly 0
  group := false
  carryOut _ s := (s, .now .ok s.identifyBytes)

/-- The payload of Read Link Counters: six counters, the address or 0, the group table (R175). -/
def State.linkCounterBytes (s : State) : List Byte :=
  let c := s.link.counters
  le16 c.good ++ le16 c.crcErrors ++ le16 c.framing ++ le16 c.others ++ le16 c.refusals ++ le16 c.replies ++ [s.address] ++
    s.link.groups.toList

/-- Read Link Counters (R175). -/
def readLinkCountersKind : RequestKind where
  code := 0x02#8
  lengthOk := exactly 0
  group := false
  carryOut _ s := (s, .now .ok s.linkCounterBytes)

/-- A group table entry holds a group number 128 to 254, or 255 for empty (R170). -/
def groupEntryOk (b : Byte) : Bool := decide (128 ≤ b.toNat)

/-- Set Group Table: all eight entries, or none (R170). -/
def setGroupTableKind : RequestKind where
  code := 0x03#8
  lengthOk := exactly 8
  group := false
  carryOut p s :=
    if p.all groupEntryOk then
      let t := { s with link := { s.link with groups := Vector.ofFn fun i => byteAt p i.val } }
      (t, .now .ok t.link.groups.toList)
    else (s, .now .badArg [])

/-- Set Link Silence: every parameter is accepted (R161). -/
def setLinkSilenceKind : RequestKind where
  code := 0x04#8
  lengthOk := exactly 1
  group := false
  carryOut p s :=
    ({ s with link := { s.link with silenceParam := byteAt p 0 } },
      .now .ok ([byteAt p 0] ++ le16 (silenceTimeout (byteAt p 0))))

/-- Reset Board: the retain option checked; the reset follows the reply (R181). -/
def resetBoardKind : RequestKind where
  code := 0x05#8
  lengthOk := exactly 1
  group := false
  carryOut p s :=
    if byteAt p 0 = 0#8 then (s, .thenReset false)
    else if byteAt p 0 = 1#8 then (s, .thenReset true)
    else (s, .now .badArg [])

/-! ### Events -/

/-- The payload of Poll: 36 bytes (R156, section 11.6). -/
def State.pollBytes (s : State) : List Byte :=
  le16 (flagBits FlagState.isSet s.events) ++ le16 (flagBits FlagState.enabled s.events) ++
    (s.events.toList.map fun x => le16 x.sockets.toNat).flatten ++ [s.link.mode.code, s.link.silenceParam] ++
    le16 (silenceTimeout s.link.silenceParam) ++ le16 s.link.silence ++ le16 s.link.silenceBefore

/-- Poll (R156). -/
def pollKind : RequestKind where
  code := 0x08#8
  lengthOk := exactly 0
  group := false
  carryOut _ s := (s, .now .ok s.pollBytes)

/-- The payload of Ack Events: the flags found set, then the set of each flag named, in class order (R157). -/
def ackBytes (x : BitVec 16) (events : Vector FlagState 12) : List Byte :=
  le16 (x.toNat &&& flagBits FlagState.isSet events) ++
    (((List.finRange 12).filter fun i => x.getLsbD i.val).map fun i => le16 (events.get i).sockets.toNat).flatten

/-- Ack Events (R157). -/
def ackEventsKind : RequestKind where
  code := 0x09#8
  lengthOk := exactly 2
  group := false
  carryOut p s :=
    let x := set16 p 0
    if flagSetOk x then ({ s with events := clearFlags x s.events }, .now .ok (ackBytes x s.events))
    else (s, .now .badArg [])

/-- Set Event Enables (R154). -/
def setEventEnablesKind : RequestKind where
  code := 0x0A#8
  lengthOk := exactly 2
  group := false
  carryOut p s :=
    let x := set16 p 0
    if flagSetOk x then ({ s with events := enableFlags x s.events }, .now .ok (le16 x.toNat))
    else (s, .now .badArg [])

end Sys2Proof.Machine
end

