-- ==== Sys2Proof/Machine/SocketRequests.lean ====
section
/-!
DEFINITION. The SCU's requests (chapter 1, sections 7.6 and 1.9): the five set requests, Read Socket Status, Clear Socket
Account, Clear Accounts.
-/

namespace Sys2Proof.Machine

/-! ### Set requests (R4) -/

/-- What a set request has done so far: the acted set, the refused set, and the reasons in ascending socket order. -/
structure SetResult where
  acted : SocketSet := 0#16
  refused : SocketSet := 0#16
  reasons : List Status := []
deriving DecidableEq, Repr

/-- One socket of a set request: acted on, or refused with a reason. -/
def SetResult.add (r : SetResult) (n : Sock) : Option Status → SetResult
  | none => { r with acted := r.acted ||| single n }
  | some reason => { r with refused := r.refused ||| single n, reasons := r.reasons ++ [reason] }

/-- A set request carried out for the sockets of its set in ascending order, each finished before the next (R4). `judge`
gives the reason for which a socket is refused, if any; `act` acts on a socket. -/
def State.forSet (s : State) (set : SocketSet) (judge : State → Sock → Option Status) (act : State → Sock → State) :
    State × SetResult :=
  (allSocks.filter (SocketSet.has set)).foldl (fun (t, r) n =>
    match judge t n with
    | none => (act t n, r.add n none)
    | some reason => (t, r.add n (some reason))) (s, {})

/-- The reply of a set request: acted set, refused set, reasons (R4, section 11.2). -/
def SetResult.response (r : SetResult) : Response :=
  .now (if r.refused = 0#16 then .ok else .partly)
    (le16 r.acted.toNat ++ le16 r.refused.toNat ++ r.reasons.map Status.code)

/-- A set request as a whole. -/
def State.setRequest (s : State) (p : List Byte) (judge : State → Sock → Option Status) (act : State → Sock → State) :
    State × Response :=
  let (t, r) := s.forSet (set16 p 0) judge act
  (t, r.response)

/-- A socket outside the states a request allows: ABSENT, or WRONG_STATE (R12 to R15). -/
def State.unless (s : State) (n : Sock) (allowed : SocketState → Bool) : Option Status :=
  if (s.socket n).scu.state = .absent then some .absent
  else if allowed (s.socket n).scu.state then none
  else some .wrongState

/-- The checks of Arm Sockets, in their order (R5). -/
def State.armJudge (s : State) (n : Sock) : Option Status :=
  let k := s.socket n
  if k.scu.state = .absent then some .absent
  else if k.scu.state ≠ .off then some .wrongState
  else if (k.rail.written && k.heat.written && k.lane.written) = false then some .noProfile
  else if k.rail.calibration.isSome then some .calibrating
  else if k.rail.faulted then some .senseFault
  else if SocketSet.has s.presence n = false then some .notPresent
  else if (s.feed (feedOf n)).limit < s.admission n then some .overFeed
  else none

/-- Steps 1 to 3 of Arm Sockets for one socket (R5). -/
def Socket.armed (k : Socket) : Socket :=
  { k with lane := { k.lane with captures := [], truncated := false },
           account := { k.account with arms := satInc Config.max16 k.account.arms, peakTemp := -32768, peakMa := 0 },
           scu := { k.scu with tripCount := 0, cleanRun := 0 } }

/-- Arm Sockets acts on a socket: to QUEUED at the tail of its feed's queue, and admission is evaluated (R5, R34). -/
def State.arm (s : State) (n : Sock) : State :=
  let queued := (s.modSocket n Socket.armed).move n .queued
  (queued.modFeed (feedOf n) fun g => { g with queue := g.queue ++ [n] }).evaluate (feedOf n)

/-- Arm Sockets (R5). -/
def armSocketsKind : RequestKind where
  code := 0x10#8
  lengthOk := exactly 2
  group := false
  carryOut p s := s.setRequest p State.armJudge State.arm

/-- Whether socket n stands in its feed's queue behind the head: its leaving is no admission event (R14, R34). -/
def State.behindHead (s : State) (n : Sock) : Bool := (s.feed (feedOf n)).queue.tail.contains n

/-- Power Down Sockets acts on a socket: from HOLD to SAFE, else to OFF. Admission is evaluated, but not for a QUEUED socket
that was not the head of its queue (R14, R34; a granted one: log entry 12). -/
def State.powerDown (s : State) (n : Sock) : State :=
  let st : SocketState := if (s.socket n).scu.state = .hold then .safe else .off
  if s.behindHead n then s.move n st else s.moveAdmit n st

/-- Power Down Sockets (R14). -/
def powerDownSocketsKind : RequestKind where
  code := 0x11#8
  lengthOk := exactly 2
  group := true
  carryOut p s := s.setRequest p (fun t n => t.unless n SocketState.busy) State.powerDown

/-- Pause Sockets (R12). -/
def pauseSocketsKind : RequestKind where
  code := 0x12#8
  lengthOk := exactly 2
  group := true
  carryOut p s :=
    s.setRequest p (fun t n => t.unless n fun st => st == .run || st == .settle) fun t n => t.move n .pause

/-- Resume Sockets (R13). -/
def resumeSocketsKind : RequestKind where
  code := 0x13#8
  lengthOk := exactly 2
  group := true
  carryOut p s := s.setRequest p (fun t n => t.unless n fun st => st == .pause) fun t n => t.move n .settle

/-- Release Hold (R15). -/
def releaseHoldKind : RequestKind where
  code := 0x14#8
  lengthOk := exactly 2
  group := false
  carryOut p s := s.setRequest p (fun t n => t.unless n fun st => st == .hold) fun t n => t.moveAdmit n .safe

/-! ### Requests that name one socket -/

/-- A request about the socket in its first byte; a number above 15 is refused with BAD_ARG. -/
def State.withSocket (s : State) (p : List Byte) (f : Sock → State × Response) : State × Response :=
  match sockOf (byteAt p 0) with
  | none => (s, .now .badArg [])
  | some n => f n

/-- The payload of Read Socket Status: 13 bytes (R24, section 11.6). -/
def State.statusBytes (s : State) (n : Sock) : List Byte :=
  let k := s.socket n
  [sockCode n, k.scu.state.code] ++ le16 k.rail.sensedMv ++ le16 k.rail.sensedMa ++ leInt16 (heldCode k.heat.held) ++
    le16 k.heat.demand ++ le16 k.heat.duty ++
    [BitVec.ofNat 8 (bitIf k.rail.qualified 1 + bitIf k.heat.inWindow 2 + bitIf k.scu.unqualifiedSinceRead 4 +
      bitIf k.scu.inWindowThroughout 8 + bitIf k.scu.heaterLimitedSinceRead 16 + bitIf k.scu.failingPassSinceRead 32)]

/-- The latched indications after a read (R24). -/
def Record.read (r : Record) : Record :=
  { r with unqualifiedSinceRead := false, inWindowThroughout := true, heaterLimitedSinceRead := false,
           failingPassSinceRead := false }

/-- Read Socket Status (R24). -/
def readSocketStatusKind : RequestKind where
  code := 0x15#8
  lengthOk := exactly 1
  group := false
  carryOut p s := s.withSocket p fun n => (s.modScu n Record.read, .now .ok (s.statusBytes n))

/-- Steps 1 to 4 of R149 for one socket, which moves to `st`: account, credit, captures and counters zeroed, first-fail flag
clear. -/
def Socket.cleared (k : Socket) (st : SocketState) : Socket :=
  { k with scu := { k.scu with state := st, firstFail := false }, account := { mirror := st },
           credit := { k.credit with credit := 0, residue := 0 },
           lane := { k.lane with captures := [], truncated := false, comparedPasses := 0, totalFailing := 0,
                                 consecutiveFailing := 0 } }

/-- Clear Socket Account (R22, R149). A number above 15 is refused with one of the two statuses that R22 names, which one the spec
does not say (R174; log entry 35). -/
def clearSocketAccountKind : RequestKind where
  code := 0x16#8
  lengthOk := exactly 1
  group := false
  carryOut p s :=
    match sockOf (byteAt p 0) with
    | none => (s, .now (if Config.refusesAsAbsent (byteAt p 0) then .absent else .wrongState) [])
    | some n =>
      if (s.socket n).scu.state = .absent then (s, .now .absent [])
      else if (s.socket n).scu.state.busy then (s, .now .wrongState [])
      else (s.modSocket n fun k => k.cleared .off, .now .ok [])

/-- Whether some socket is QUEUED or powered (R22). -/
def State.anyBusy (s : State) : Bool := allSocks.any fun n => (s.socket n).scu.state.busy

/-- The state of a socket after Clear Accounts (R150). -/
def SocketState.afterClear : SocketState → SocketState
  | .safe | .done => .off
  | st => st

/-- The log after Clear Accounts: empty, its totals and next sequence number 0, the threshold kept, both marks set (R150). -/
def FailLog.cleared (l : FailLog) : FailLog := { threshold := l.threshold }

/-- Clear Accounts (R22, R150). -/
def clearAccountsKind : RequestKind where
  code := 0x17#8
  lengthOk := exactly 0
  group := false
  carryOut _ s :=
    if s.anyBusy then (s, .now .busy [])
    else
      let sockets := s.mapSockets fun _ k => k.cleared k.scu.state.afterClear
      ({ sockets with log := s.log.cleared }, .now .ok [])

end Sys2Proof.Machine
end

