-- ==== Sys2Proof/Machine/SupplyRequests.lean ====
section
/-!
DEFINITION. The SSC's and the TRU's requests (chapters 2 and 3): Write Rail Profile, Set Ceiling, Set Feed Limit, Calibrate
Sense, Read Feed Status, Write Thermal Profile, Set Heater Budget.
-/

namespace Sys2Proof.Machine

/-- Write Rail Profile: the socket number, then the state, then the fields (R26; log entry 14). -/
def writeRailProfileKind : RequestKind where
  code := 0x20#8
  lengthOk := exactly 12
  group := false
  carryOut p s := s.withSocket p fun n =>
    if (s.socket n).scu.state.busy then (s, .now .wrongState [])
    else match readRailProfile s.identity.tripMax (p.drop 1) with
      | none => (s, .now .badArg [])
      | some profile =>
        (s.modRail n fun r => { r with profile, written := true }, .now .ok (writeRailBytes profile))

/-- The sockets that a change of the ceiling retargets (R28, R29). -/
def State.retargetSet (s : State) : SocketSet := setWhere s.retargets

/-- Set Ceiling as carried out: the clamped value in force, each socket of an order list in ascending order (R28, R29). -/
def State.setCeiling (s : State) (mv : Nat) : State :=
  allSocks.foldl State.retarget { s with ceiling := clamp 400 s.identity.nativeCeiling mv }

/-- Set Ceiling (R28). -/
def setCeilingKind : RequestKind where
  code := 0x21#8
  lengthOk := exactly 2
  group := false
  carryOut p s :=
    let ceiling := clamp 400 s.identity.nativeCeiling (nat16 p 0)
    (s.setCeiling (nat16 p 0),
      .now .ok (le16 ceiling ++ le16 ({ s with ceiling } : State).retargetSet.toNat))

/-- Set Feed Limit (R48). -/
def setFeedLimitKind : RequestKind where
  code := 0x22#8
  lengthOk := exactly 5
  group := false
  carryOut p s :=
    match feedIdOf (byteAt p 0) with
    | none => (s, .now .badArg [])
    | some f =>
      let limit := clamp 0 (s.identity.nativeLimit f) (nat32 p 1)
      let (t, shed, withdrawn) := s.setFeedLimit f limit
      (t, .now .ok ([feedCode f] ++ le32 limit ++ le16 shed.toNat ++ le16 withdrawn.toNat))

/-- Calibrate Sense (R50): the measurement starts, and the reply waits for its end. -/
def calibrateSenseKind : RequestKind where
  code := 0x23#8
  lengthOk := exactly 1
  group := false
  carryOut p s := s.withSocket p fun n =>
    if (s.socket n).scu.state = .absent then (s, .now .absent [])
    else if (s.socket n).scu.state.busy then (s, .now .wrongState [])
    else if (s.socket n).rail.calibration.isSome then (s, .now .calibrating [])
    else (s.modRail n fun r => { r with calibration := some {} }, .whenMeasured n)

/-- The socket of a feed in RAMP, or none (R52). -/
def State.rampingSocket (s : State) (f : FeedId) : Option Sock :=
  (feedSocks f).find? fun n => (s.socket n).scu.state == .ramp

/-- The payload of Read Feed Status (R52, section 11.6). -/
def State.feedBytes (s : State) (f : FeedId) : List Byte :=
  let g := s.feed f
  [feedCode f] ++ le32 (s.identity.nativeLimit f) ++ le32 g.limit ++ le32 (s.committed f) ++ le32 g.measured ++
    [BitVec.ofNat 8 g.overCount, orNone (s.rampingSocket f), BitVec.ofNat 8 g.queue.length] ++ g.queue.map sockCode ++
    [BitVec.ofNat 8 g.order.length] ++ g.order.map sockCode

/-- Read Feed Status (R52). -/
def readFeedStatusKind : RequestKind where
  code := 0x24#8
  lengthOk := exactly 1
  group := false
  carryOut p s :=
    match feedIdOf (byteAt p 0) with
    | none => (s, .now .badArg [])
    | some f => (s, .now .ok (s.feedBytes f))

/-- Write Thermal Profile, in every socket state (R54). -/
def writeThermalProfileKind : RequestKind where
  code := 0x28#8
  lengthOk := exactly 16
  group := false
  carryOut p s := s.withSocket p fun n =>
    match readThermalProfile (p.drop 1) with
    | none => (s, .now .badArg [])
    | some profile =>
      (s.modHeat n fun h => { h with profile, written := true }, .now .ok (writeThermalBytes profile))

/-- The budget clamped to the population, and the rescale (R65, R69). -/
def State.setBudget (s : State) (value : Nat) : State := { s with budget := min value s.identity.budgetMax }.scale

/-- The payload of Set Heater Budget: 8 bytes (R65). -/
def State.budgetBytes (s : State) : List Byte :=
  le16 s.budget ++ le16 s.demands.sum ++ le16 (allSocks.map fun n => (s.socket n).heat.duty).sum ++
    le16 s.limitedSet.toNat

/-- Set Heater Budget (R65). -/
def setHeaterBudgetKind : RequestKind where
  code := 0x29#8
  lengthOk := exactly 2
  group := false
  carryOut p s :=
    if nat16 p 0 ≤ 16000 then (s.setBudget (nat16 p 0), .now .ok (s.setBudget (nat16 p 0)).budgetBytes)
    else (s, .now .badArg [])

end Sys2Proof.Machine
end

