-- ==== Sys2Proof/Machine/StoreRequests.lean ====
section
/-!
DEFINITION. The requests on the vector store and the sequence table (chapter 4): Load Vectors, Read Vectors Raw, Verify
Store, Read Store Status, Write Sequence Entry, Read Sequence Table.
-/

namespace Sys2Proof.Machine

/-! ### Load Vectors (R83, R84) -/

/-- Step 1 of R84 for one touched page: an UNLOADED page's vectors are set to zero. -/
def Store.zeroPage (t : Store) (p : Page) : Store :=
  if t.condition p = .unloaded then { t with mem := Mem.writeAll t.mem (320 * p.val) (List.replicate 320 0#8) } else t

/-- Step 3 of R84 for one touched page: the check word computed over the whole page, the page GOOD. -/
def Store.sealPage (t : Store) (p : Page) : Store :=
  { t with checks := t.checks.set p.val (t.pageCrc p) p.isLt }.setCondition p .good

/-- A load that has passed its checks (R84). -/
def Store.load (t : Store) (start : Nat) (vectors : List Byte) : Store :=
  let pages := touched start (start + vectors.length / 5 - 1)
  let zeroed := pages.foldl Store.zeroPage t
  pages.foldl Store.sealPage { zeroed with mem := Mem.writeAll zeroed.mem (5 * start) (storedForm vectors) }

/-- The payload of Load Vectors: first and last page, the new check words (R84, section 11.6). -/
def Store.loadBytes (t : Store) (start count : Nat) : List Byte :=
  let pages := touched start (start + count - 1)
  [BitVec.ofNat 8 (pageOf start).val, BitVec.ofNat 8 (pageOf (start + count - 1)).val] ++
    (pages.map fun p => le16 (t.checkWord p).toNat).flatten

/-- A Load Vectors length: 2 + 5 n for n from 1 to 48 (R184). -/
def loadLength (n : Nat) : Bool := decide (7 ≤ n) && decide (n ≤ 242) && (n - 2) % 5 == 0

/-- Load Vectors (R83). -/
def loadVectorsKind : RequestKind where
  code := 0x30#8
  lengthOk := loadLength
  group := false
  carryOut p s :=
    let start := nat16 p 0
    let count := (p.drop 2).length / 5
    if s.engine.state ≠ .idle then (s, .now .busy [])
    else if start ≤ 4095 ∧ start + count ≤ 4096 then
      let t := { s with store := s.store.load start (p.drop 2) }
      (t, .now .ok (t.store.loadBytes start count))
    else (s, .now .badArg [])

/-! ### Reading and verifying (R85 to R87, R90) -/

/-- The payload of Read Vectors Raw: the stored bytes as they stand, upset ones included (R82, R85, section 11.6; log entry
39). -/
def Store.rawBytes (t : Store) (start count : Nat) : List Byte :=
  let pages := touched start (start + count - 1)
  le16 start ++ [BitVec.ofNat 8 count] ++ ((List.range count).map fun i => t.vector (start + i)).flatten ++
    [BitVec.ofNat 8 pages.length] ++
    (pages.map fun p => [BitVec.ofNat 8 p.val, (t.condition p).code] ++ le16 (t.checkWord p).toNat).flatten

/-- Read Vectors Raw (R85). -/
def readVectorsRawKind : RequestKind where
  code := 0x31#8
  lengthOk := exactly 3
  group := false
  carryOut p s :=
    let start := nat16 p 0
    let count := nat8 p 2
    if 1 ≤ count ∧ count ≤ 40 ∧ start ≤ 4095 ∧ start + count ≤ 4096 then (s, .now .ok (s.store.rawBytes start count))
    else (s, .now .badArg [])

/-- The pages of a verify taken one by one, up to the first failing page (R86). -/
def State.verify : List Page → State → State × Option Page
  | [], s => (s, none)
  | p :: rest, s =>
    match s.store.condition p with
    | .unloaded => State.verify rest s
    | .corrupt => (s, some p)
    | .good => match s.checkPage p with
      | (t, true) => State.verify rest t
      | (t, false) => (t, some p)

/-- The payload of Verify Store: pages not verified, first failing page or 255 (R87). -/
def verifyBytes (first count : Nat) (failing : Option Page) : List Byte :=
  match failing with
  | none => [0#8, 255#8]
  | some p => [BitVec.ofNat 8 (first + count - p.val), BitVec.ofNat 8 p.val]

/-- The pages of a range (R86). -/
def pageRange (first count : Nat) : List Page :=
  (List.finRange 64).filter fun p => decide (first ≤ p.val) && decide (p.val < first + count)

/-- Verify Store (R86): a count of 0 means 64. -/
def verifyStoreKind : RequestKind where
  code := 0x32#8
  lengthOk := exactly 2
  group := false
  carryOut p s :=
    let first := nat8 p 0
    let count := if nat8 p 1 = 0 then 64 else nat8 p 1
    if first ≤ 63 ∧ count ≤ 64 ∧ first + count ≤ 64 then
      let (t, failing) := State.verify (pageRange first count) s
      (t, .now .ok (verifyBytes first count failing))
    else (s, .now .badArg [])

/-- How many pages are in a condition. -/
def Store.pagesIn (t : Store) (c : PageCondition) : Nat :=
  ((List.finRange 64).filter fun p => t.condition p == c).length

/-- The payload of Read Store Status: 69 bytes (R90, section 11.6). -/
def Store.statusBytes (t : Store) : List Byte :=
  t.conditions.toList.map PageCondition.code ++
    [BitVec.ofNat 8 (t.pagesIn .unloaded), BitVec.ofNat 8 (t.pagesIn .good), BitVec.ofNat 8 (t.pagesIn .corrupt),
      BitVec.ofNat 8 t.scrub.val, orNone t.lastScrubbed]

/-- Read Store Status (R90). -/
def readStoreStatusKind : RequestKind where
  code := 0x33#8
  lengthOk := exactly 0
  group := false
  carryOut _ s := (s, .now .ok s.store.statusBytes)

/-! ### The sequence table (R93 to R95) -/

/-- The entry currently executing: none while IDLE (R94). -/
def Engine.executing (g : Engine) : Option EntryNo := if g.state = .idle then none else g.current

/-- Write Sequence Entry (R93). -/
def writeSequenceEntryKind : RequestKind where
  code := 0x34#8
  lengthOk := exactly 8
  group := false
  carryOut p s :=
    match entryNoOf (byteAt p 0), readEntry (p.drop 1) with
    | some e, some entry =>
      if s.engine.executing = some e then (s, .now .busy [])
      else
        ({ s with engine := { s.engine with table := s.engine.table.set e.val entry e.isLt } },
          .now .ok (writeEntryBytes entry))
    | _, _ => (s, .now .badArg [])

/-- Read Sequence Table: 32 entries, 224 bytes (R95). -/
def readSequenceTableKind : RequestKind where
  code := 0x35#8
  lengthOk := exactly 0
  group := false
  carryOut _ s := (s, .now .ok (s.engine.table.toList.map writeEntryBytes).flatten)

end Sys2Proof.Machine
end

