-- ==== Sys2Proof/Machine/EngineRequests.lean ====
section
/-!
DEFINITION. The requests of the PEN, the CMP and the CAU (chapters 5 and 6): Start Sequence, Stop Sequence, Read Engine
Status, Write Test Profile, Read Compare Status, Load Factor Point, Read Factor Table.
-/

namespace Sys2Proof.Machine

/-- The payload of Start Sequence (R99, section 11.6). -/
def Engine.startBytes (g : Engine) : List Byte :=
  [g.state.code, orNone g.current] ++ le32 g.loopIndex ++ [g.lastStop.code]

/-- The arrival of a Start Sequence, with the first pass started when the engine took the entry (R99, R100). -/
def State.start (s : State) (e : EntryNo) : State :=
  match s.arrive e with
  | (t, true) => t.startPass
  | (t, false) => t

/-- Start Sequence (R99). -/
def startSequenceKind : RequestKind where
  code := 0x38#8
  lengthOk := exactly 1
  group := true
  carryOut p s :=
    match entryNoOf (byteAt p 0) with
    | none => (s, .now .badArg [])
    | some e =>
      if s.engine.state ≠ .idle then (s, .now .busy [])
      else if (s.engine.table.get e).enabled = false then (s, .now .badArg [])
      else (s.start e, .now .ok (s.start e).engine.startBytes)

/-- The engine after a Stop Sequence (R101). -/
def Engine.stop (g : Engine) : Engine := if g.state = .run then { g with state := .stopping .stopRequest } else g

/-- Stop Sequence (R101). -/
def stopSequenceKind : RequestKind where
  code := 0x39#8
  lengthOk := exactly 0
  group := true
  carryOut _ s := ({ s with engine := s.engine.stop }, .now .ok [s.engine.stop.state.code])

/-- The payload of Read Engine Status: 16 bytes (R115, section 11.6). -/
def Engine.statusBytes (g : Engine) : List Byte :=
  [g.state.code, orNone g.current] ++ le32 g.repeatsLeft ++ le32 g.loopIndex ++ [g.rate.code] ++ le16 g.powered.toNat ++
    le16 g.participants.toNat ++ [g.lastStop.code]

/-- Read Engine Status (R115). -/
def readEngineStatusKind : RequestKind where
  code := 0x3A#8
  lengthOk := exactly 0
  group := false
  carryOut _ s := (s, .now .ok s.engine.statusBytes)

/-- Write Test Profile, in every socket state; the credit target is handed to the CAU (R108, R109). -/
def writeTestProfileKind : RequestKind where
  code := 0x3B#8
  lengthOk := exactly 9
  group := false
  carryOut p s := s.withSocket p fun n =>
    match readTestProfile (p.drop 1) with
    | none => (s, .now .badArg [])
    | some profile =>
      (s.modSocket n fun k => { k with lane := { k.lane with profile, written := true },
                                       credit := { k.credit with target := profile.target } },
        .now .ok (writeTestBytes profile))

/-- The payload of Read Compare Status: 19 bytes and 10 for each capture (R116, section 11.6). -/
def State.compareBytes (s : State) (n : Sock) : List Byte :=
  let l := (s.socket n).lane
  [sockCode n] ++ writeTestBytes l.profile ++ le32 l.comparedPasses ++ le16 l.totalFailing ++ le16 l.consecutiveFailing ++
    [BitVec.ofNat 8 (bitIf (SocketSet.has s.engine.participants n) 1 + bitIf l.truncated 2),
      BitVec.ofNat 8 l.captures.length] ++ (l.captures.map writeCaptureBytes).flatten

/-- Read Compare Status (R116). -/
def readCompareStatusKind : RequestKind where
  code := 0x3D#8
  lengthOk := exactly 1
  group := false
  carryOut p s := s.withSocket p fun n => (s, .now .ok (s.compareBytes n))

/-- A pending slot written (R120). -/
def Factors.write (f : Factors) (slot : Sock) (p : FactorPoint) : Factors :=
  { f with slots := f.slots.set slot.val (some p) slot.isLt }

/-- A point that has passed its checks: written, and with the final flag committed (R120, R121). -/
def Factors.loadPoint (f : Factors) (slot : Sock) (p : FactorPoint) (final : Bool) : Factors × Response :=
  let written := f.write slot p
  let c := slot.val + 1
  if final then
    match written.failing c with
    | none => (written.commit c, .now .ok [BitVec.ofNat 8 c])
    | some k => (written.commit c, .now .badArg [BitVec.ofNat 8 c, BitVec.ofNat 8 k])
  else (written, .now .ok ([sockCode slot] ++ le16 written.writtenSet.toNat))

/-- Load Factor Point (R120, R183): point index 0 to 15, temperature -500 to 2500, final flag 0 or 1. -/
def loadFactorPointKind : RequestKind where
  code := 0x40#8
  lengthOk := exactly 6
  group := false
  carryOut p s :=
    match sockOf (byteAt p 0) with
    | none => (s, .now .badArg [])
    | some slot =>
      if -500 ≤ int16 p 1 ∧ int16 p 1 ≤ 2500 ∧ nat8 p 5 ≤ 1 then
        let (f, response) := s.factors.loadPoint slot ⟨int16 p 1, nat16 p 3⟩ (nat8 p 5 == 1)
        ({ s with factors := f }, response)
      else (s, .now .badArg [])

/-- The payload of Read Factor Table (R122, section 11.4). -/
def Factors.bytes (f : Factors) : List Byte :=
  [BitVec.ofNat 8 f.active.length] ++ (f.active.map writePointBytes).flatten ++ le16 f.writtenSet.toNat ++
    (f.slots.toList.reduceOption.map writePointBytes).flatten

/-- Read Factor Table (R122). -/
def readFactorTableKind : RequestKind where
  code := 0x41#8
  lengthOk := exactly 0
  group := false
  carryOut _ s := (s, .now .ok s.factors.bytes)

end Sys2Proof.Machine
end

