-- ==== Sys2Proof/Machine/AccountRequests.lean ====
section
/-!
DEFINITION. The FAU's requests (chapter 7): Read Account, Read Log, Trim Log, Set Log Threshold.
-/

namespace Sys2Proof.Machine

/-- The bins (R136). -/
inductive Bin where
  | notTested
  | incomplete
  | pass
  | passIntermittent
  | failPower
  | failThermal
  | failTest
deriving DecidableEq, Repr

/-- Bin codes (section 11.3). -/
def Bin.code : Bin → Byte
  | .notTested => 0#8
  | .incomplete => 1#8
  | .pass => 2#8
  | .passIntermittent => 3#8
  | .failPower => 4#8
  | .failThermal => 5#8
  | .failTest => 6#8

/-- The bin of a first cause's class (R136). -/
def Cause.bin (c : Cause) : Bin :=
  match c with
  | .railTrip | .railUnreg | .contactLoss => .failPower
  | .overTemp | .runaway | .sensorFault | .settleTimeout | .excursion => .failThermal
  | .compareFail => .failTest

/-- The bin of an account, with the CMP's total failing passes: the first test that holds (R136). -/
def Account.bin (a : Account) (totalFailing : Nat) : Bin :=
  match a.firstFail, a.firstCause with
  | true, some c => c.bin
  | _, _ =>
    if a.targetReached then (if totalFailing = 0 then .pass else .passIntermittent)
    else if 0 < a.arms then .incomplete
    else .notTested

/-- The payload of Read Account: 56 bytes (R137, section 11.5). -/
def State.accountBytes (s : State) (n : Sock) : List Byte :=
  let k := s.socket n
  let a := k.account
  [sockCode n, a.mirror.code, BitVec.ofNat 8 (bitIf a.firstFail 1 + bitIf a.targetReached 2),
      (a.firstCause.map Cause.code).getD 0#8] ++
    le32 a.firstFailTime ++ le32 a.firstFailCredit ++ le32 k.credit.credit ++ [BitVec.ofNat 8 k.credit.residue] ++
    le32 a.runSeconds ++ le32 a.accruedSeconds ++ le32 a.outSeconds ++ le32 k.lane.comparedPasses ++
    le16 k.lane.totalFailing ++ le16 k.lane.consecutiveFailing ++ le16 a.trips ++ le16 a.retries ++ le16 a.sheds ++
    le16 a.interrupts ++ le16 a.secondaryFails ++ le16 a.arms ++ le16 a.released ++ leInt16 a.peakTemp ++ le16 a.peakMa ++
    [(a.bin k.lane.totalFailing).code]

/-- Read Account (R137). -/
def readAccountKind : RequestKind where
  code := 0x48#8
  lengthOk := exactly 1
  group := false
  carryOut p s := s.withSocket p fun n => (s, .now .ok (s.accountBytes n))

/-! ### The log (R144 to R147) -/

/-- The records a Read Log places: whole records from the offset, up to the maximum count and the room left (R145). -/
def placed : Nat → Nat → List FailRecord → List FailRecord
  | 0, _, _ => []
  | _, _, [] => []
  | count + 1, room, r :: rest => if r.size ≤ room then r :: placed count (room - r.size) rest else []

/-- The records a Read Log returns: 231 bytes are left beside the summary and its three fields (R145). -/
def FailLog.readFrom (l : FailLog) (offset maximum : Nat) : List FailRecord := placed maximum 231 (l.records.drop offset)

/-- The payload of Read Log (R145, section 11.5). -/
def FailLog.readBytes (l : FailLog) (offset maximum : Nat) : List Byte :=
  let records := l.readFrom offset maximum
  writeSummaryBytes l ++
    [BitVec.ofNat 8 offset, BitVec.ofNat 8 records.length, BitVec.ofNat 8 (l.records.length - offset - records.length)] ++
    (records.map writeRecordBytes).flatten

/-- Read Log (R145). -/
def readLogKind : RequestKind where
  code := 0x49#8
  lengthOk := exactly 2
  group := false
  carryOut p s :=
    if nat8 p 0 ≤ 127 then (s, .now .ok (s.log.readBytes (nat8 p 0) (nat8 p 1))) else (s, .now .badArg [])

/-- The log after a trim of n records from the oldest end, n clamped to those present; the marks set again below their
levels (R146). -/
def FailLog.trim (l : FailLog) (n : Nat) : FailLog :=
  let left := l.records.drop n
  { l with records := left, trimmed := (l.trimmed + min n l.records.length) % 4294967296,
           thresholdArmed := l.thresholdArmed || decide (left.length < l.threshold),
           fullArmed := l.fullArmed || decide (left.length < Config.logRoom) }

/-- Trim Log (R146). -/
def trimLogKind : RequestKind where
  code := 0x4A#8
  lengthOk := exactly 1
  group := false
  carryOut p s :=
    let t := { s with log := s.log.trim (nat8 p 0) }
    (t, .now .ok ([BitVec.ofNat 8 (min (nat8 p 0) s.log.records.length)] ++ writeSummaryBytes t.log))

/-- The log with its threshold set and the threshold-armed mark judged against the records present (R147). -/
def FailLog.setThreshold (l : FailLog) (threshold : Nat) : FailLog :=
  { l with threshold, thresholdArmed := decide (l.records.length < threshold) }

/-- Set Log Threshold (R147). -/
def setLogThresholdKind : RequestKind where
  code := 0x4B#8
  lengthOk := exactly 1
  group := false
  carryOut p s :=
    let threshold := nat8 p 0
    if 1 ≤ threshold ∧ threshold ≤ 128 then
      let t := { s with log := s.log.setThreshold threshold }
      (t, .now .ok (writeSummaryBytes t.log))
    else (s, .now .badArg [])

end Sys2Proof.Machine
end

