-- ==== Sys2Proof/Machine/Receiver.lean ====
section
/-!
DEFINITION. The receiver, byte by byte (R165 to R167), the table of request kinds (R184), and the rows of the table that
are about frames on the line.
-/

namespace Sys2Proof.Machine

/-- The kinds of request of R184. -/
def requestKinds : List RequestKind :=
  [identifyKind, readLinkCountersKind, setGroupTableKind, setLinkSilenceKind, resetBoardKind, pollKind, ackEventsKind,
    setEventEnablesKind, armSocketsKind, powerDownSocketsKind, pauseSocketsKind, resumeSocketsKind, releaseHoldKind,
    readSocketStatusKind, clearSocketAccountKind, clearAccountsKind] ++
  [writeRailProfileKind, setCeilingKind, setFeedLimitKind, calibrateSenseKind, readFeedStatusKind,
    writeThermalProfileKind, setHeaterBudgetKind, loadVectorsKind, readVectorsRawKind, verifyStoreKind,
    readStoreStatusKind, writeSequenceEntryKind, readSequenceTableKind] ++
  [startSequenceKind, stopSequenceKind, readEngineStatusKind, writeTestProfileKind, readCompareStatusKind,
    loadFactorPointKind, readFactorTableKind, readAccountKind, readLogKind, trimLogKind, setLogThresholdKind]

/-- The kind of a kind byte; none for a byte not listed (R184). -/
def requestKindOf (b : Byte) : Option RequestKind := requestKinds.find? fun k => k.code == b

/-! ### The receiver (R165, R166) -/

/-- The state with the receiver replaced. -/
def State.withReceiver (s : State) (r : Receiver) : State := { s with link := { s.link with receiver := r } }

/-- A frame in REQUEST or PASS ends early: a request is aborted and counted, a passed reply is not (R165). -/
def State.endFrame (s : State) : State :=
  match s.link.receiver with
  | .hunt => s
  | .request _ => (s.withReceiver .hunt).count LinkCounters.addFraming
  | .pass _ => s.withReceiver .hunt

/-- A complete request, its bytes after the marker: the CRC checked, then the frame taken (R167, R169). -/
def State.completeRequest (s : State) (bytes : List Byte) : State :=
  let covered := bytes.take (bytes.length - 2)
  if crc16 covered = set16 bytes (bytes.length - 2) then
    s.takeFrame (byteAt bytes 0) (byteAt bytes 1) (requestKindOf (byteAt bytes 1)) (covered.drop 3)
  else s.count LinkCounters.addCrc

/-- A byte taken in HUNT: a marker abandons a pending reply and begins a frame, unless it makes a Board Reset act (R165,
R173). -/
def State.huntByte (s : State) (b : Byte) : State :=
  if b = 0xC3#8 ∨ b = 0x3C#8 then
    let marked := s.abandonReply
    if marked.phase = .running then marked.withReceiver (if b = 0xC3#8 then .request [] else .pass []) else marked
  else s

/-- A byte taken in REQUEST (R166): a length byte above 250 is a framing error; the second CRC byte completes the frame. -/
def State.requestByte (s : State) (taken : List Byte) (b : Byte) : State :=
  let bytes := taken ++ [b]
  if bytes.length = 3 ∧ Config.maxPayload < b.toNat then s.endFrame
  else if 3 ≤ bytes.length ∧ bytes.length = nat8 bytes 2 + 5 then (s.withReceiver .hunt).completeRequest bytes
  else s.withReceiver (.request bytes)

/-- A byte taken in PASS (R166): a length byte above 250, or the second CRC byte, ends the pass. -/
def State.passByte (s : State) (taken : List Byte) (b : Byte) : State :=
  let bytes := taken ++ [b]
  if bytes.length = 5 ∧ Config.maxPayload < b.toNat then s.endFrame
  else if 5 ≤ bytes.length ∧ bytes.length = nat8 bytes 4 + 7 then s.withReceiver .hunt
  else s.withReceiver (.pass bytes)

/-- A byte from the line (R165); none is taken while the board is sending or the link is not open. -/
def State.receive (s : State) (b : Byte) : State :=
  if s.listening then
    match s.link.receiver with
    | .hunt => s.huntByte b
    | .request taken => s.requestByte taken b
    | .pass taken => s.passByte taken b
  else s

/-- Bytes from the line, one after another. -/
def State.receiveAll (s : State) (bytes : List Byte) : State := bytes.foldl State.receive s

/-- A frame in progress ends by a gap or a low stop bit; nothing while no byte is taken from the line (R165). In
HUNT a byte whose stop bit is low is taken as no byte (log entry 37). -/
def State.lineBreak (s : State) : State := if s.listening then s.endFrame else s

/-! ### Frames on the line -/

/-- FRAME_GAP_TIMEOUT: the bytes given arrive, then a gap of more than 1 ms (R165). -/
def execFrameGapTimeout (taken : List Byte) (s : State) : Host.Outcome State Fault Refusal :=
  .next (s.settled.receiveAll taken).lineBreak

/-- FRAMING_ERROR: the bytes given arrive, then, if so marked, a byte whose stop bit is low (R165); a request length above
250 among the bytes aborts the request by itself (R166). -/
def execFramingError (taken : List Byte) (stopLow : Bool) (s : State) : Host.Outcome State Fault Refusal :=
  .next (if stopLow then (s.settled.receiveAll taken).lineBreak else s.settled.receiveAll taken)

/-- OTHER_REPLY_PASSED: the bytes of another board's reply arrive (R166). -/
def execOtherReplyPassed (bytes : List Byte) (s : State) : Host.Outcome State Fault Refusal :=
  .next (s.settled.receiveAll bytes)

/-- CRC_ERROR_FRAME: a request arrives with the CRC given (R167). -/
def execCrcErrorFrame (dst kind : Byte) (payload : List Byte) (crc : BitVec 16) (s : State) :
    Host.Outcome State Fault Refusal :=
  .next (s.settled.receiveAll (requestBytesWith dst kind payload crc))

/-- A request with a good CRC arrives: whole from HUNT, byte by byte otherwise (R165 to R169; log entry 17). -/
def State.request (s : State) (dst kind : Byte) (k : Option RequestKind) (payload : List Byte) : State :=
  match s.link.receiver with
  | .hunt => s.receiveRequest dst kind k payload
  | _ => s.receiveAll (requestBytes dst kind payload)

/-- FRAME_FOR_OTHERS: a request with a good CRC arrives for any destination (R169). -/
def execFrameForOthers (dst kind : Byte) (payload : List Byte) (s : State) : Host.Outcome State Fault Refusal :=
  .next (s.settled.request dst kind (requestKindOf kind) payload)

/-- BAD_KIND_FRAME: a request with a good CRC arrives, of any kind byte (R169, R184). -/
def execBadKindFrame (dst kind : Byte) (payload : List Byte) (s : State) : Host.Outcome State Fault Refusal :=
  .next (s.settled.request dst kind (requestKindOf kind) payload)

end Sys2Proof.Machine
end

