-- ==== Sys2Proof/Machine/Requests.lean ====
section
/-!
DEFINITION. The request rows of the table: each is its own frame, with a good CRC, arriving at the receiver (R165 to R169)
after the expiries already due (log entry 2). What the owner does is the row's request kind, in the family files.
-/

namespace Sys2Proof.Machine

/-- A request of a listed kind arrives. -/
def State.requestOf (s : State) (k : RequestKind) (dst : Byte) (payload : List Byte) : State :=
  s.request dst k.code (some k) payload

/-- ARM_SOCKETS (R5), with the levels of the presence lines as it is taken (log entry 15). -/
def execArmSockets (dst : Byte) (payload : List Byte) (present : SocketSet) (s : State) :
    Host.Outcome State Fault Refusal :=
  .next ({ s.settled with presence := present }.requestOf armSocketsKind dst payload)

/-- IDENTIFY (R176). -/
def execIdentify (dst : Byte) (payload : List Byte) (s : State) : Host.Outcome State Fault Refusal :=
  .next (s.settled.requestOf identifyKind dst payload)

/-- READ_LINK_COUNTERS (R175). -/
def execReadLinkCounters (dst : Byte) (payload : List Byte) (s : State) : Host.Outcome State Fault Refusal :=
  .next (s.settled.requestOf readLinkCountersKind dst payload)

/-- SET_GROUP_TABLE (R170). -/
def execSetGroupTable (dst : Byte) (payload : List Byte) (s : State) : Host.Outcome State Fault Refusal :=
  .next (s.settled.requestOf setGroupTableKind dst payload)

/-- SET_LINK_SILENCE (R161). -/
def execSetLinkSilence (dst : Byte) (payload : List Byte) (s : State) : Host.Outcome State Fault Refusal :=
  .next (s.settled.requestOf setLinkSilenceKind dst payload)

/-- RESET_BOARD (R181). -/
def execResetBoard (dst : Byte) (payload : List Byte) (s : State) : Host.Outcome State Fault Refusal :=
  .next (s.settled.requestOf resetBoardKind dst payload)

/-- POLL (R156). -/
def execPoll (dst : Byte) (payload : List Byte) (s : State) : Host.Outcome State Fault Refusal :=
  .next (s.settled.requestOf pollKind dst payload)

/-- ACK_EVENTS (R157). -/
def execAckEvents (dst : Byte) (payload : List Byte) (s : State) : Host.Outcome State Fault Refusal :=
  .next (s.settled.requestOf ackEventsKind dst payload)

/-- SET_EVENT_ENABLES (R154). -/
def execSetEventEnables (dst : Byte) (payload : List Byte) (s : State) : Host.Outcome State Fault Refusal :=
  .next (s.settled.requestOf setEventEnablesKind dst payload)

/-- POWER_DOWN_SOCKETS (R14). -/
def execPowerDownSockets (dst : Byte) (payload : List Byte) (s : State) : Host.Outcome State Fault Refusal :=
  .next (s.settled.requestOf powerDownSocketsKind dst payload)

/-- PAUSE_SOCKETS (R12). -/
def execPauseSockets (dst : Byte) (payload : List Byte) (s : State) : Host.Outcome State Fault Refusal :=
  .next (s.settled.requestOf pauseSocketsKind dst payload)

/-- RESUME_SOCKETS (R13). -/
def execResumeSockets (dst : Byte) (payload : List Byte) (s : State) : Host.Outcome State Fault Refusal :=
  .next (s.settled.requestOf resumeSocketsKind dst payload)

/-- RELEASE_HOLD (R15). -/
def execReleaseHold (dst : Byte) (payload : List Byte) (s : State) : Host.Outcome State Fault Refusal :=
  .next (s.settled.requestOf releaseHoldKind dst payload)

/-- READ_SOCKET_STATUS (R24). -/
def execReadSocketStatus (dst : Byte) (payload : List Byte) (s : State) : Host.Outcome State Fault Refusal :=
  .next (s.settled.requestOf readSocketStatusKind dst payload)

/-- CLEAR_SOCKET_ACCOUNT (R22, R149). -/
def execClearSocketAccount (dst : Byte) (payload : List Byte) (s : State) : Host.Outcome State Fault Refusal :=
  .next (s.settled.requestOf clearSocketAccountKind dst payload)

/-- CLEAR_ACCOUNTS (R22, R150). -/
def execClearAccounts (dst : Byte) (payload : List Byte) (s : State) : Host.Outcome State Fault Refusal :=
  .next (s.settled.requestOf clearAccountsKind dst payload)

/-- WRITE_RAIL_PROFILE (R26). -/
def execWriteRailProfile (dst : Byte) (payload : List Byte) (s : State) : Host.Outcome State Fault Refusal :=
  .next (s.settled.requestOf writeRailProfileKind dst payload)

/-- SET_CEILING (R28). -/
def execSetCeiling (dst : Byte) (payload : List Byte) (s : State) : Host.Outcome State Fault Refusal :=
  .next (s.settled.requestOf setCeilingKind dst payload)

/-- SET_FEED_LIMIT (R48). -/
def execSetFeedLimit (dst : Byte) (payload : List Byte) (s : State) : Host.Outcome State Fault Refusal :=
  .next (s.settled.requestOf setFeedLimitKind dst payload)

/-- CALIBRATE_SENSE (R50). -/
def execCalibrateSense (dst : Byte) (payload : List Byte) (s : State) : Host.Outcome State Fault Refusal :=
  .next (s.settled.requestOf calibrateSenseKind dst payload)

/-- READ_FEED_STATUS (R52). -/
def execReadFeedStatus (dst : Byte) (payload : List Byte) (s : State) : Host.Outcome State Fault Refusal :=
  .next (s.settled.requestOf readFeedStatusKind dst payload)

/-- WRITE_THERMAL_PROFILE (R54). -/
def execWriteThermalProfile (dst : Byte) (payload : List Byte) (s : State) : Host.Outcome State Fault Refusal :=
  .next (s.settled.requestOf writeThermalProfileKind dst payload)

/-- SET_HEATER_BUDGET (R65). -/
def execSetHeaterBudget (dst : Byte) (payload : List Byte) (s : State) : Host.Outcome State Fault Refusal :=
  .next (s.settled.requestOf setHeaterBudgetKind dst payload)

/-- LOAD_VECTORS (R83). -/
def execLoadVectors (dst : Byte) (payload : List Byte) (s : State) : Host.Outcome State Fault Refusal :=
  .next (s.settled.requestOf loadVectorsKind dst payload)

/-- READ_VECTORS_RAW (R85). -/
def execReadVectorsRaw (dst : Byte) (payload : List Byte) (s : State) : Host.Outcome State Fault Refusal :=
  .next (s.settled.requestOf readVectorsRawKind dst payload)

/-- VERIFY_STORE (R86). -/
def execVerifyStore (dst : Byte) (payload : List Byte) (s : State) : Host.Outcome State Fault Refusal :=
  .next (s.settled.requestOf verifyStoreKind dst payload)

/-- READ_STORE_STATUS (R90). -/
def execReadStoreStatus (dst : Byte) (payload : List Byte) (s : State) : Host.Outcome State Fault Refusal :=
  .next (s.settled.requestOf readStoreStatusKind dst payload)

/-- WRITE_SEQUENCE_ENTRY (R93). -/
def execWriteSequenceEntry (dst : Byte) (payload : List Byte) (s : State) : Host.Outcome State Fault Refusal :=
  .next (s.settled.requestOf writeSequenceEntryKind dst payload)

/-- READ_SEQUENCE_TABLE (R95). -/
def execReadSequenceTable (dst : Byte) (payload : List Byte) (s : State) : Host.Outcome State Fault Refusal :=
  .next (s.settled.requestOf readSequenceTableKind dst payload)

/-- START_SEQUENCE (R99). -/
def execStartSequence (dst : Byte) (payload : List Byte) (s : State) : Host.Outcome State Fault Refusal :=
  .next (s.settled.requestOf startSequenceKind dst payload)

/-- STOP_SEQUENCE (R101). -/
def execStopSequence (dst : Byte) (payload : List Byte) (s : State) : Host.Outcome State Fault Refusal :=
  .next (s.settled.requestOf stopSequenceKind dst payload)

/-- READ_ENGINE_STATUS (R115). -/
def execReadEngineStatus (dst : Byte) (payload : List Byte) (s : State) : Host.Outcome State Fault Refusal :=
  .next (s.settled.requestOf readEngineStatusKind dst payload)

/-- WRITE_TEST_PROFILE (R108). -/
def execWriteTestProfile (dst : Byte) (payload : List Byte) (s : State) : Host.Outcome State Fault Refusal :=
  .next (s.settled.requestOf writeTestProfileKind dst payload)

/-- READ_COMPARE_STATUS (R116). -/
def execReadCompareStatus (dst : Byte) (payload : List Byte) (s : State) : Host.Outcome State Fault Refusal :=
  .next (s.settled.requestOf readCompareStatusKind dst payload)

/-- LOAD_FACTOR_POINT (R120). -/
def execLoadFactorPoint (dst : Byte) (payload : List Byte) (s : State) : Host.Outcome State Fault Refusal :=
  .next (s.settled.requestOf loadFactorPointKind dst payload)

/-- READ_FACTOR_TABLE (R122). -/
def execReadFactorTable (dst : Byte) (payload : List Byte) (s : State) : Host.Outcome State Fault Refusal :=
  .next (s.settled.requestOf readFactorTableKind dst payload)

/-- READ_ACCOUNT (R137). -/
def execReadAccount (dst : Byte) (payload : List Byte) (s : State) : Host.Outcome State Fault Refusal :=
  .next (s.settled.requestOf readAccountKind dst payload)

/-- READ_LOG (R145). -/
def execReadLog (dst : Byte) (payload : List Byte) (s : State) : Host.Outcome State Fault Refusal :=
  .next (s.settled.requestOf readLogKind dst payload)

/-- TRIM_LOG (R146). -/
def execTrimLog (dst : Byte) (payload : List Byte) (s : State) : Host.Outcome State Fault Refusal :=
  .next (s.settled.requestOf trimLogKind dst payload)

/-- SET_LOG_THRESHOLD (R147). -/
def execSetLogThreshold (dst : Byte) (payload : List Byte) (s : State) : Host.Outcome State Fault Refusal :=
  .next (s.settled.requestOf setLogThresholdKind dst payload)

end Sys2Proof.Machine
end

