-- ==== Sys2Proof/Machine/Dispatch.lean ====
section
/-!
DEFINITION. What each command does: one arm per row of spec/opcode_table.json.
-/

namespace Sys2Proof.Machine

def exec (i : Instr) (s : State) : Host.Outcome State Fault Refusal :=
  match i with
  | .powerOn straps => Sys2Proof.Machine.execPowerOn straps s
  | .identityLoadEnd first second third => Sys2Proof.Machine.execIdentityLoadEnd first second third s
  | .sampleTick readings => Sys2Proof.Machine.execSampleTick readings s
  | .thermalTick readings => Sys2Proof.Machine.execThermalTick readings s
  | .secondTick => Sys2Proof.Machine.execSecondTick s
  | .storeUpset upset => Sys2Proof.Machine.execStoreUpset upset s
  | .frameGapTimeout taken => Sys2Proof.Machine.execFrameGapTimeout taken s
  | .framingError taken stopLow => Sys2Proof.Machine.execFramingError taken stopLow s
  | .otherReplyPassed bytes => Sys2Proof.Machine.execOtherReplyPassed bytes s
  | .crcErrorFrame dst kind payload crc => Sys2Proof.Machine.execCrcErrorFrame dst kind payload crc s
  | .frameForOthers dst kind payload => Sys2Proof.Machine.execFrameForOthers dst kind payload s
  | .badKindFrame dst kind payload => Sys2Proof.Machine.execBadKindFrame dst kind payload s
  | .replyTransmitStart => Sys2Proof.Machine.execReplyTransmitStart s
  | .replySent => Sys2Proof.Machine.execReplySent s
  | .identify dst payload => Sys2Proof.Machine.execIdentify dst payload s
  | .readLinkCounters dst payload => Sys2Proof.Machine.execReadLinkCounters dst payload s
  | .setGroupTable dst payload => Sys2Proof.Machine.execSetGroupTable dst payload s
  | .setLinkSilence dst payload => Sys2Proof.Machine.execSetLinkSilence dst payload s
  | .resetBoard dst payload => Sys2Proof.Machine.execResetBoard dst payload s
  | .poll dst payload => Sys2Proof.Machine.execPoll dst payload s
  | .ackEvents dst payload => Sys2Proof.Machine.execAckEvents dst payload s
  | .setEventEnables dst payload => Sys2Proof.Machine.execSetEventEnables dst payload s
  | .armSockets dst payload present => Sys2Proof.Machine.execArmSockets dst payload present s
  | .powerDownSockets dst payload => Sys2Proof.Machine.execPowerDownSockets dst payload s
  | .pauseSockets dst payload => Sys2Proof.Machine.execPauseSockets dst payload s
  | .resumeSockets dst payload => Sys2Proof.Machine.execResumeSockets dst payload s
  | .releaseHold dst payload => Sys2Proof.Machine.execReleaseHold dst payload s
  | .readSocketStatus dst payload => Sys2Proof.Machine.execReadSocketStatus dst payload s
  | .clearSocketAccount dst payload => Sys2Proof.Machine.execClearSocketAccount dst payload s
  | .clearAccounts dst payload => Sys2Proof.Machine.execClearAccounts dst payload s
  | .writeRailProfile dst payload => Sys2Proof.Machine.execWriteRailProfile dst payload s
  | .setCeiling dst payload => Sys2Proof.Machine.execSetCeiling dst payload s
  | .setFeedLimit dst payload => Sys2Proof.Machine.execSetFeedLimit dst payload s
  | .calibrateSense dst payload => Sys2Proof.Machine.execCalibrateSense dst payload s
  | .calibrationEnd n => Sys2Proof.Machine.execCalibrationEnd n s
  | .readFeedStatus dst payload => Sys2Proof.Machine.execReadFeedStatus dst payload s
  | .writeThermalProfile dst payload => Sys2Proof.Machine.execWriteThermalProfile dst payload s
  | .setHeaterBudget dst payload => Sys2Proof.Machine.execSetHeaterBudget dst payload s
  | .loadVectors dst payload => Sys2Proof.Machine.execLoadVectors dst payload s
  | .readVectorsRaw dst payload => Sys2Proof.Machine.execReadVectorsRaw dst payload s
  | .verifyStore dst payload => Sys2Proof.Machine.execVerifyStore dst payload s
  | .readStoreStatus dst payload => Sys2Proof.Machine.execReadStoreStatus dst payload s
  | .writeSequenceEntry dst payload => Sys2Proof.Machine.execWriteSequenceEntry dst payload s
  | .readSequenceTable dst payload => Sys2Proof.Machine.execReadSequenceTable dst payload s
  | .startSequence dst payload => Sys2Proof.Machine.execStartSequence dst payload s
  | .stopSequence dst payload => Sys2Proof.Machine.execStopSequence dst payload s
  | .readEngineStatus dst payload => Sys2Proof.Machine.execReadEngineStatus dst payload s
  | .writeTestProfile dst payload => Sys2Proof.Machine.execWriteTestProfile dst payload s
  | .readCompareStatus dst payload => Sys2Proof.Machine.execReadCompareStatus dst payload s
  | .loadFactorPoint dst payload => Sys2Proof.Machine.execLoadFactorPoint dst payload s
  | .readFactorTable dst payload => Sys2Proof.Machine.execReadFactorTable dst payload s
  | .readAccount dst payload => Sys2Proof.Machine.execReadAccount dst payload s
  | .readLog dst payload => Sys2Proof.Machine.execReadLog dst payload s
  | .trimLog dst payload => Sys2Proof.Machine.execTrimLog dst payload s
  | .setLogThreshold dst payload => Sys2Proof.Machine.execSetLogThreshold dst payload s
  | .vectorStep responses => Sys2Proof.Machine.execVectorStep responses s
  | .passEnd => Sys2Proof.Machine.execPassEnd s
  | .rampTimeout n => Sys2Proof.Machine.execRampTimeout n s
  | .moveTimeout n => Sys2Proof.Machine.execMoveTimeout n s
  | .qualification n => Sys2Proof.Machine.execQualification n s
  | .unregulatedCountExpiry n => Sys2Proof.Machine.execUnregulatedCountExpiry n s
  | .trip n => Sys2Proof.Machine.execTrip n s
  | .contactLossCountExpiry n => Sys2Proof.Machine.execContactLossCountExpiry n s
  | .shed f => Sys2Proof.Machine.execShed f s
  | .thermallySettled n => Sys2Proof.Machine.execThermallySettled n s
  | .excursionCountExpiry n => Sys2Proof.Machine.execExcursionCountExpiry n s
  | .runawayCountExpiry n => Sys2Proof.Machine.execRunawayCountExpiry n s
  | .settleTimeout n => Sys2Proof.Machine.execSettleTimeout n s
  | .cleanRunComplete n => Sys2Proof.Machine.execCleanRunComplete n s
  | .linkSilenceExpiry => Sys2Proof.Machine.execLinkSilenceExpiry s
  | .admissionGrantTaken n => Sys2Proof.Machine.execAdmissionGrantTaken n s
  | .qualifiedReportTaken n => Sys2Proof.Machine.execQualifiedReportTaken n s
  | .settledReportTaken n => Sys2Proof.Machine.execSettledReportTaken n s
  | .targetReportTaken n => Sys2Proof.Machine.execTargetReportTaken n s
  | .tripReportTaken n => Sys2Proof.Machine.execTripReportTaken n s
  | .shedReportTaken n => Sys2Proof.Machine.execShedReportTaken n s
  | .failureReportTaken n cause => Sys2Proof.Machine.execFailureReportTaken n cause s

end Sys2Proof.Machine
end

