-- ==== Sys2Proof/WellFormed.lean ====
section
/-!
DEFINITION. Well-formed commands: what can come along the line or from the board. Every command, well formed or not, has a
meaning; these checks say which ones stand for their row of the table.
-/

namespace Sys2Proof

open Sys2Proof.Machine

/-- A request's payload has the length that its length byte can give (R166). -/
def payloadOk (payload : List Byte) : Bool := decide (payload.length ≤ Config.maxPayload)

/-- An attempt of an identity load gives a whole block or none (R177, R178). -/
def LoadAttempt.wf : LoadAttempt → Bool
  | .noAck => true
  | .block bytes => decide (bytes.length = 64)

/-- A sense reading whose sensed values fit the two-byte fields that carry them (section 11.6; log entry 19). -/
def SenseReading.wf (x : SenseReading) : Bool :=
  decide (x.mv ≤ Config.max16) && decide (-32768 ≤ x.ma) && decide (x.ma ≤ 32767)

/-- A sensor reading that fits a signed two-byte temperature, in tenths of a degree (R183; log entry 19). -/
def readingOk (t : Int) : Bool := decide (-32768 ≤ t) && decide (t ≤ 32767)

/-- Another board's reply: its marker and the length that its length byte gives (R166). -/
def replyOk (bytes : List Byte) : Bool :=
  (byteAt bytes 0 == 0x3C#8) && decide (nat8 bytes 5 ≤ Config.maxPayload) && decide (bytes.length = nat8 bytes 5 + 8)

/-- The causes that reach the SCU as failure reports (R17): SETTLE_TIMEOUT is its own, and RAIL_TRIP it makes of a trip report
(R16). -/
def reportedCause : Cause → Bool
  | .railUnreg | .contactLoss | .overTemp | .runaway | .sensorFault | .excursion | .compareFail => true
  | .railTrip | .settleTimeout => false

/-- A well-formed command. -/
def Instr.wf : Instr → Bool
  | .powerOn _ => true
  | .identityLoadEnd first second third => first.wf && second.wf && third.wf
  | .sampleTick readings => readings.toList.all SenseReading.wf
  | .thermalTick readings => readings.toList.all readingOk
  | .secondTick => true
  | .storeUpset _ => true
  | .frameGapTimeout _ => true
  | .framingError taken stopLow => stopLow || !taken.isEmpty
  | .otherReplyPassed bytes => replyOk bytes
  | .crcErrorFrame dst kind payload crc =>
    payloadOk payload && (crc != crc16 ([dst, kind, BitVec.ofNat 8 payload.length] ++ payload))
  | .frameForOthers _ _ payload => payloadOk payload
  | .badKindFrame _ kind payload => payloadOk payload && (requestKindOf kind).isNone
  | .replyTransmitStart => true
  | .replySent => true
  | .identify _ payload => payloadOk payload
  | .readLinkCounters _ payload => payloadOk payload
  | .setGroupTable _ payload => payloadOk payload
  | .setLinkSilence _ payload => payloadOk payload
  | .resetBoard _ payload => payloadOk payload
  | .poll _ payload => payloadOk payload
  | .ackEvents _ payload => payloadOk payload
  | .setEventEnables _ payload => payloadOk payload
  | .armSockets _ payload _ => payloadOk payload
  | .powerDownSockets _ payload => payloadOk payload
  | .pauseSockets _ payload => payloadOk payload
  | .resumeSockets _ payload => payloadOk payload
  | .releaseHold _ payload => payloadOk payload
  | .readSocketStatus _ payload => payloadOk payload
  | .clearSocketAccount _ payload => payloadOk payload
  | .clearAccounts _ payload => payloadOk payload
  | .writeRailProfile _ payload => payloadOk payload
  | .setCeiling _ payload => payloadOk payload
  | .setFeedLimit _ payload => payloadOk payload
  | .calibrateSense _ payload => payloadOk payload
  | .calibrationEnd _ => true
  | .readFeedStatus _ payload => payloadOk payload
  | .writeThermalProfile _ payload => payloadOk payload
  | .setHeaterBudget _ payload => payloadOk payload
  | .loadVectors _ payload => payloadOk payload
  | .readVectorsRaw _ payload => payloadOk payload
  | .verifyStore _ payload => payloadOk payload
  | .readStoreStatus _ payload => payloadOk payload
  | .writeSequenceEntry _ payload => payloadOk payload
  | .readSequenceTable _ payload => payloadOk payload
  | .startSequence _ payload => payloadOk payload
  | .stopSequence _ payload => payloadOk payload
  | .readEngineStatus _ payload => payloadOk payload
  | .writeTestProfile _ payload => payloadOk payload
  | .readCompareStatus _ payload => payloadOk payload
  | .loadFactorPoint _ payload => payloadOk payload
  | .readFactorTable _ payload => payloadOk payload
  | .readAccount _ payload => payloadOk payload
  | .readLog _ payload => payloadOk payload
  | .trimLog _ payload => payloadOk payload
  | .setLogThreshold _ payload => payloadOk payload
  | .vectorStep _ => true
  | .passEnd => true
  | .rampTimeout _ => true
  | .moveTimeout _ => true
  | .qualification _ => true
  | .unregulatedCountExpiry _ => true
  | .trip _ => true
  | .contactLossCountExpiry _ => true
  | .shed _ => true
  | .thermallySettled _ => true
  | .excursionCountExpiry _ => true
  | .runawayCountExpiry _ => true
  | .settleTimeout _ => true
  | .cleanRunComplete _ => true
  | .linkSilenceExpiry => true
  | .admissionGrantTaken _ => true
  | .qualifiedReportTaken _ => true
  | .settledReportTaken _ => true
  | .targetReportTaken _ => true
  | .tripReportTaken _ => true
  | .shedReportTaken _ => true
  | .failureReportTaken _ cause => reportedCause cause

end Sys2Proof
end

