-- ==== Sys2Proof/Safety.lean ====
section
/-!
DEFINITION. What a sound state is, in the terms the statements use: invariants that the spec states of the whole part, which
every command keeps.
-/

namespace Sys2Proof.Machine

/-! ### What the statements say of commands -/

/-- The request a request row carries: its kind, its destination and its payload (R166, R184). -/
def requestOfRow : Instr → Option (RequestKind × Byte × List Byte)
  | .powerOn _ => none
  | .identityLoadEnd _ _ _ => none
  | .sampleTick _ => none
  | .thermalTick _ => none
  | .secondTick => none
  | .storeUpset _ => none
  | .frameGapTimeout _ => none
  | .framingError _ _ => none
  | .otherReplyPassed _ => none
  | .crcErrorFrame _ _ _ _ => none
  | .frameForOthers _ _ _ => none
  | .badKindFrame _ _ _ => none
  | .replyTransmitStart => none
  | .replySent => none
  | .identify dst payload => some (identifyKind, dst, payload)
  | .readLinkCounters dst payload => some (readLinkCountersKind, dst, payload)
  | .setGroupTable dst payload => some (setGroupTableKind, dst, payload)
  | .setLinkSilence dst payload => some (setLinkSilenceKind, dst, payload)
  | .resetBoard dst payload => some (resetBoardKind, dst, payload)
  | .poll dst payload => some (pollKind, dst, payload)
  | .ackEvents dst payload => some (ackEventsKind, dst, payload)
  | .setEventEnables dst payload => some (setEventEnablesKind, dst, payload)
  | .armSockets dst payload _ => some (armSocketsKind, dst, payload)
  | .powerDownSockets dst payload => some (powerDownSocketsKind, dst, payload)
  | .pauseSockets dst payload => some (pauseSocketsKind, dst, payload)
  | .resumeSockets dst payload => some (resumeSocketsKind, dst, payload)
  | .releaseHold dst payload => some (releaseHoldKind, dst, payload)
  | .readSocketStatus dst payload => some (readSocketStatusKind, dst, payload)
  | .clearSocketAccount dst payload => some (clearSocketAccountKind, dst, payload)
  | .clearAccounts dst payload => some (clearAccountsKind, dst, payload)
  | .writeRailProfile dst payload => some (writeRailProfileKind, dst, payload)
  | .setCeiling dst payload => some (setCeilingKind, dst, payload)
  | .setFeedLimit dst payload => some (setFeedLimitKind, dst, payload)
  | .calibrateSense dst payload => some (calibrateSenseKind, dst, payload)
  | .calibrationEnd _ => none
  | .readFeedStatus dst payload => some (readFeedStatusKind, dst, payload)
  | .writeThermalProfile dst payload => some (writeThermalProfileKind, dst, payload)
  | .setHeaterBudget dst payload => some (setHeaterBudgetKind, dst, payload)
  | .loadVectors dst payload => some (loadVectorsKind, dst, payload)
  | .readVectorsRaw dst payload => some (readVectorsRawKind, dst, payload)
  | .verifyStore dst payload => some (verifyStoreKind, dst, payload)
  | .readStoreStatus dst payload => some (readStoreStatusKind, dst, payload)
  | .writeSequenceEntry dst payload => some (writeSequenceEntryKind, dst, payload)
  | .readSequenceTable dst payload => some (readSequenceTableKind, dst, payload)
  | .startSequence dst payload => some (startSequenceKind, dst, payload)
  | .stopSequence dst payload => some (stopSequenceKind, dst, payload)
  | .readEngineStatus dst payload => some (readEngineStatusKind, dst, payload)
  | .writeTestProfile dst payload => some (writeTestProfileKind, dst, payload)
  | .readCompareStatus dst payload => some (readCompareStatusKind, dst, payload)
  | .loadFactorPoint dst payload => some (loadFactorPointKind, dst, payload)
  | .readFactorTable dst payload => some (readFactorTableKind, dst, payload)
  | .readAccount dst payload => some (readAccountKind, dst, payload)
  | .readLog dst payload => some (readLogKind, dst, payload)
  | .trimLog dst payload => some (trimLogKind, dst, payload)
  | .setLogThreshold dst payload => some (setLogThresholdKind, dst, payload)
  | .vectorStep _ => none
  | .passEnd => none
  | .rampTimeout _ => none
  | .moveTimeout _ => none
  | .qualification _ => none
  | .unregulatedCountExpiry _ => none
  | .trip _ => none
  | .contactLossCountExpiry _ => none
  | .shed _ => none
  | .thermallySettled _ => none
  | .excursionCountExpiry _ => none
  | .runawayCountExpiry _ => none
  | .settleTimeout _ => none
  | .cleanRunComplete _ => none
  | .linkSilenceExpiry => none
  | .admissionGrantTaken _ => none
  | .qualifiedReportTaken _ => none
  | .settledReportTaken _ => none
  | .targetReportTaken _ => none
  | .tripReportTaken _ => none
  | .shedReportTaken _ => none
  | .failureReportTaken _ _ => none

/-- The expiry that a row names (log entry 2). -/
def expiryOfRow : Instr → Option Expiry
  | .powerOn _ => none
  | .identityLoadEnd _ _ _ => none
  | .sampleTick _ => none
  | .thermalTick _ => none
  | .secondTick => none
  | .storeUpset _ => none
  | .frameGapTimeout _ => none
  | .framingError _ _ => none
  | .otherReplyPassed _ => none
  | .crcErrorFrame _ _ _ _ => none
  | .frameForOthers _ _ _ => none
  | .badKindFrame _ _ _ => none
  | .replyTransmitStart => none
  | .replySent => none
  | .identify _ _ => none
  | .readLinkCounters _ _ => none
  | .setGroupTable _ _ => none
  | .setLinkSilence _ _ => none
  | .resetBoard _ _ => none
  | .poll _ _ => none
  | .ackEvents _ _ => none
  | .setEventEnables _ _ => none
  | .armSockets _ _ _ => none
  | .powerDownSockets _ _ => none
  | .pauseSockets _ _ => none
  | .resumeSockets _ _ => none
  | .releaseHold _ _ => none
  | .readSocketStatus _ _ => none
  | .clearSocketAccount _ _ => none
  | .clearAccounts _ _ => none
  | .writeRailProfile _ _ => none
  | .setCeiling _ _ => none
  | .setFeedLimit _ _ => none
  | .calibrateSense _ _ => none
  | .calibrationEnd n => some (.calibrationEnd n)
  | .readFeedStatus _ _ => none
  | .writeThermalProfile _ _ => none
  | .setHeaterBudget _ _ => none
  | .loadVectors _ _ => none
  | .readVectorsRaw _ _ => none
  | .verifyStore _ _ => none
  | .readStoreStatus _ _ => none
  | .writeSequenceEntry _ _ => none
  | .readSequenceTable _ _ => none
  | .startSequence _ _ => none
  | .stopSequence _ _ => none
  | .readEngineStatus _ _ => none
  | .writeTestProfile _ _ => none
  | .readCompareStatus _ _ => none
  | .loadFactorPoint _ _ => none
  | .readFactorTable _ _ => none
  | .readAccount _ _ => none
  | .readLog _ _ => none
  | .trimLog _ _ => none
  | .setLogThreshold _ _ => none
  | .vectorStep _ => none
  | .passEnd => some .passEnd
  | .rampTimeout n => some (.rampTimeout n)
  | .moveTimeout n => some (.moveTimeout n)
  | .qualification n => some (.qualification n)
  | .unregulatedCountExpiry n => some (.unregulated n)
  | .trip n => some (.trip n)
  | .contactLossCountExpiry n => some (.contactLoss n)
  | .shed f => some (.shed f)
  | .thermallySettled n => some (.thermallySettled n)
  | .excursionCountExpiry n => some (.excursion n)
  | .runawayCountExpiry n => some (.runaway n)
  | .settleTimeout n => some (.settleTimeout n)
  | .cleanRunComplete n => some (.cleanRun n)
  | .linkSilenceExpiry => some .linkSilence
  | .admissionGrantTaken _ => none
  | .qualifiedReportTaken _ => none
  | .settledReportTaken _ => none
  | .targetReportTaken _ => none
  | .tripReportTaken _ => none
  | .shedReportTaken _ => none
  | .failureReportTaken _ _ => none

/-- The rows that are events on the board and within the part: ticks, vector periods, upsets, expiries, reports taken. -/
def Instr.isEvent (c : Instr) : Bool :=
  match c with
  | .sampleTick _ | .thermalTick _ | .secondTick | .storeUpset _ | .vectorStep _ => true
  | .admissionGrantTaken _ | .qualifiedReportTaken _ | .settledReportTaken _ | .targetReportTaken _ => true
  | .tripReportTaken _ | .shedReportTaken _ | .failureReportTaken _ _ => true
  | other => (expiryOfRow other).isSome

/-- The state in which a request finds the presence lines: those given with ARM_SOCKETS (R5, log entry 15). -/
def State.seen (s : State) : Instr → State
  | .armSockets _ _ present => { s with presence := present }
  | _ => s

/-- The link is open with nothing under way: no expiry due, no load, the receiver in HUNT, no reply of the board's own. -/
structure State.Open (s : State) : Prop where
  due : s.due = []
  phase : s.phase = .running
  receiver : s.link.receiver = .hunt
  reply : s.link.reply = .idle

/-- The link is open, and `dst` is the board's own address (R168). -/
structure State.Hears (s : State) (dst : Byte) : Prop extends s.Open where
  address : s.link.address = some dst
  notBroadcast : dst ≠ 0#8

/-- The state in which an individually addressed request finds the machine: the good frame counted, the silence ended
(R160, R163, R169). -/
def State.heard (s : State) : State := (s.count LinkCounters.addGood).attend

/-- A report about socket `n` waits and may be taken now: of the reports about `n` sent before it, it waits behind those of the TRU
if it is the TRU's own (R74) and behind a grant if it is the SSC's (log entry 3), and behind no other (R20). Once it is taken, no
not-settled notice stands first among those of the TRU about `n`, so that none is taken with it (R70; log entry 27). -/
structure State.Waits (s : State) (n : Sock) (kind : ReportKind) : Prop where
  inTurn : ∃ before after, s.reports = before ++ ⟨n, kind⟩ :: after ∧
    ∀ r ∈ before, r.socket = n → r.kind ≠ kind ∧ (kind.sender = .tru → r.kind.sender ≠ .tru) ∧
      (kind.sender = .ssc → r.kind ≠ .grant)
  noNotice : ∀ r, (s.drop ⟨n, kind⟩).oldest n .tru = some r → r.kind ≠ .notSettled

/-- Such a report waits, and no expiry is due. -/
structure State.Reported (s : State) (n : Sock) (kind : ReportKind) : Prop extends s.Waits n kind where
  due : s.due = []

/-- The report that a row takes (log entry 3). -/
def reportOfRow (c : Instr) : Option Report :=
  match c with
  | .admissionGrantTaken n => some ⟨n, .grant⟩
  | .qualifiedReportTaken n => some ⟨n, .qualified⟩
  | .settledReportTaken n => some ⟨n, .settled⟩
  | .targetReportTaken n => some ⟨n, .target⟩
  | .tripReportTaken n => some ⟨n, .trip⟩
  | .shedReportTaken n => some ⟨n, .shed⟩
  | .failureReportTaken n cause => some ⟨n, .failure cause⟩
  | _ => none

/-- The rows that take a report. -/
def Instr.takesReport (c : Instr) : Bool := (reportOfRow c).isSome

/-- What a sample tick makes due of one rail of an order list, between the state `s` before the tick and the state `t` after it, in
the order in which R37 names the monitors: the timeout of its ramp or move (R39, R40), where it does not qualify at the tick (log
entry 9), its qualification (R41), its unregulated count (R42), and its trip (R44) or, where it does not trip, its contact-loss
count (R45). -/
def State.railDue (s t : State) (n : Sock) : List Expiry :=
  let r := (s.socket n).rail
  let r' := (t.socket n).rail
  let late (limit ticks : Nat) := limit ≤ ticks ∧ r'.qualified = false ∧ r'.qualCount ≠ 20
  (match r.motion with
    | .still => []
    | .ramp ticks limit => if late limit (ticks + 1) then [.rampTimeout n] else []
    | .move ticks limit => if late limit (ticks + 1) then [.moveTimeout n] else []) ++
  (if r'.qualCount = 20 ∧ r'.qualified = false then [.qualification n] else []) ++
  (if r'.unregCount = 100 then [.unregulated n] else []) ++
  (if r'.tripFilter = 3 then [.trip n] else if r'.contactCount = 1000 then [.contactLoss n] else [])

/-- What a sample tick makes due of one feed: its listed rails' in ascending socket order, then its shed (R46; log entry 33). -/
def State.feedDue (s t : State) (f : FeedId) : List Expiry :=
  (((List.finRange 16).filter fun n => feedOf n == f && s.inOrder n).map (s.railDue t)).flatten ++
    (if (t.feed f).overCount = 50 then [.shed f] else [])

/-- One evaluation of admission for the feed of socket `n` (R34, R35), between the state `s` before the event and the state `t` after
the evaluation. `queue` and `order` are the feed's lists and `sent` the reports as the event left them; the event moved `n` out
of RAMP or to the queue, and no other socket. The head is admitted exactly when no other socket of the feed is in RAMP or granted
(log entry 11) and the committed current plus its admission current is within the limit; its rail begins its ramp from 0
toward its commanded target (R29, R38, R39). Nothing else of the feeds changes, and no socket but `n` and the head. -/
def State.EvaluatedTo (s t : State) (n : Sock) (queue order : List Sock) (sent : List Report) : Prop :=
  let f := feedOf n
  let blocked := ∃ k, k ≠ n ∧ feedOf k = f ∧ ((s.socket k).scu.state = .ramp ∨ s.granted k = true)
  let fits (m : Sock) := (order.map s.admission).sum + s.admission m ≤ (s.feed f).limit
  let stays := t.feed f = { s.feed f with queue, order } ∧ t.reports = sent ∧ ∀ k, k ≠ n → t.socket k = s.socket k
  (∀ g, g ≠ f → t.feed g = s.feed g) ∧ (queue = [] → stays) ∧
  ∀ m rest, queue = m :: rest →
    (blocked ∨ ¬fits m → stays) ∧
    (¬blocked → fits m →
      let r := (s.socket m).rail
      let target := min r.profile.setpoint s.ceiling
      t.feed f = { s.feed f with queue := rest, order := order ++ [m] } ∧ t.reports = sent ++ [⟨m, .grant⟩] ∧
        (t.socket m).rail =
          { r with
              commanded := target, output := 0,
              motion := .ramp 0 ((target + r.profile.slew - 1) / r.profile.slew + 200), qualCount := 0, qualified := false,
              unregCount := 0, tripFilter := 0, contactCount := 0 } ∧
        (m ≠ n → t.socket m = { s.socket m with rail := (t.socket m).rail }) ∧
        ∀ k, k ≠ n → k ≠ m → t.socket k = s.socket k)

/-- One release of the link-silence expiry (R21, R162), between the state `s` before it and the state `t` after it: `n` goes from HOLD
to SAFE, counted as released unattended; its rail is off, its target 0 (R2, R36; log entry 6), and its heater (R64); it
leaves its feed's lists, and admission is evaluated (R34, R35). No record is made and no flag is set. -/
structure State.ReleasedOne (s t : State) (n : Sock) : Prop where
  scu : (t.socket n).scu.state = .safe ∧ (t.socket n).scu.firstFail = (s.socket n).scu.firstFail
  account : (t.socket n).account =
    { (s.socket n).account with mirror := .safe, released := satInc 65535 (s.socket n).account.released }
  credit : (t.socket n).credit = (s.socket n).credit
  rail : (t.socket n).rail.commanded = 0 ∧ (t.socket n).rail.output = 0 ∧ (t.socket n).rail.qualified = false ∧
    (t.socket n).rail.motion = .still
  heat : (t.socket n).heat.demand = 0 ∧ (t.socket n).heat.duty = 0 ∧ (t.socket n).heat.accumulator = 0 ∧
    (t.socket n).heat.limited = false
  admission : s.EvaluatedTo t n ((s.feed (feedOf n)).queue.filter (· != n)) ((s.feed (feedOf n)).order.filter (· != n)) s.reports
  powered : t.engine.powered = SocketSet.without s.engine.powered n
  rest : t.log = s.log ∧ t.events = s.events ∧ t.link = s.link ∧ t.due = s.due ∧ t.store = s.store

/-- Of a list of sockets those in HOLD are released one after another and the others passed over (R162); `t` is the state after the
last of them. -/
def State.ReleasedInTurn (t : State) : List Sock → State → Prop
  | [], s => t = s
  | n :: rest, s =>
    ((s.socket n).scu.state = .hold → ∃ u, s.ReleasedOne u n ∧ t.ReleasedInTurn rest u) ∧
    ((s.socket n).scu.state ≠ .hold → t.ReleasedInTurn rest s)

/-- A rate is the highest that every powered socket permits, rate 4 where none is powered (R107). Rate 1 is in every set (R26). -/
def State.IsHighestRate (s : State) (r : Rate) : Prop :=
  (r = .r1 ∨ ∀ n, SocketSet.has s.engine.powered n = true → s.permits n r = true) ∧
  ∀ q : Rate, r.code < q.code → ∃ n, SocketSet.has s.engine.powered n = true ∧ s.permits n q = false

/-- A reply's payload holds fields at the offsets a table of chapter 11 gives them. -/
def Laid (payload : List Byte) (fields : List (Nat × List Byte)) : Prop :=
  ∀ x ∈ fields, (payload.drop x.1).take x.2.length = x.2

/-- Every socket but `n` is in the state it was in. -/
def State.OthersStay (s t : State) (n : Sock) : Prop := ∀ m, m ≠ n → (t.socket m).scu.state = (s.socket m).scu.state

/-- The record of a failure of socket `n`, from the values as they stand when it is taken (R139). -/
def State.failRecord (s : State) (n : Sock) (c : Cause) : FailRecord :=
  let k := s.socket n
  { sequence := s.log.nextSequence, time := s.clock, socket := n, kind := if k.scu.firstFail then .secondary else .primary,
    cause := c, before := k.scu.state, disposition := c.disposition s.link.mode, attendance := s.link.mode,
    credit := k.credit.credit, held := k.heat.held, sensedMv := k.rail.sensedMv, sensedMa := k.rail.sensedMa,
    loopIndex := s.engine.loopIndex, entry := s.engine.current,
    truncated := if c = .compareFail then k.lane.truncated else false,
    captures := if c = .compareFail then k.lane.captures else [] }

/-- What a failure of socket `n` for cause `c` leaves, between the state `s` in which it is taken and the state `t` after it: the
disposition, the first-fail fields fixed or the secondary failure counted (R18), a number consumed and the record stored or dropped
(R139, R140), LOG_THRESHOLD and LOG_FULL with their marks (R142, R143), the flag of the cause's class with the socket (R19), and a
capture list that COMPARE_FAIL has emptied (R139). -/
structure State.Failed (s t : State) (n : Sock) (c : Cause) : Prop where
  state : (t.socket n).scu.state = c.disposition s.link.mode ∧ (t.socket n).account.mirror = c.disposition s.link.mode
  mark : (t.socket n).scu.firstFail = true
  primary : (s.socket n).scu.firstFail = false →
    (t.socket n).account.firstFail = true ∧ (t.socket n).account.firstCause = some c ∧
    (t.socket n).account.firstFailTime = s.clock ∧ (t.socket n).account.firstFailCredit = (s.socket n).credit.credit ∧
    (t.socket n).account.secondaryFails = (s.socket n).account.secondaryFails
  secondary : (s.socket n).scu.firstFail = true →
    (t.socket n).account.firstFail = (s.socket n).account.firstFail ∧
    (t.socket n).account.firstCause = (s.socket n).account.firstCause ∧
    (t.socket n).account.firstFailTime = (s.socket n).account.firstFailTime ∧
    (t.socket n).account.firstFailCredit = (s.socket n).account.firstFailCredit ∧
    (t.socket n).account.secondaryFails = satInc 65535 (s.socket n).account.secondaryFails
  log :
    let present := s.log.records.length
    let crosses := decide (present < 128) && decide (s.log.threshold ≤ present + 1) && s.log.thresholdArmed
    let lost := decide (128 ≤ present) && s.log.fullArmed
    t.log =
      { s.log with
          records := if present < 128 then s.log.records ++ [s.failRecord n c] else s.log.records,
          issued := (s.log.issued + 1) % 4294967296, nextSequence := (s.log.nextSequence + 1) % 65536,
          dropped := if present < 128 then s.log.dropped else (s.log.dropped + 1) % 4294967296,
          thresholdArmed := s.log.thresholdArmed && !crosses, fullArmed := s.log.fullArmed && decide (present < 128) } ∧
    t.flag .logThreshold = { s.flag .logThreshold with isSet := (s.flag .logThreshold).isSet || crosses } ∧
    t.flag .logFull = { s.flag .logFull with isSet := (s.flag .logFull).isSet || lost }
  flag : t.flag c.flag = { s.flag c.flag with isSet := true, sockets := (s.flag c.flag).sockets ||| single n }
  flags : ∀ e, e ≠ c.flag → e ≠ .logThreshold → e ≠ .logFull → t.flag e = s.flag e
  captures : (t.socket n).lane.captures = (if c = .compareFail then [] else (s.socket n).lane.captures) ∧
    (t.socket n).lane.truncated = (if c = .compareFail then false else (s.socket n).lane.truncated)
  credit : (t.socket n).credit = (s.socket n).credit

/-- The SCU's decision for every SETTLE socket whose settled mark is set (R8), between the state `s` before the event and the state
`t` after it: one that may run enters RUN, its mark clear and its account's mirror with it, and no other socket moves. -/
def State.WaitersRun (s t : State) (may : Sock → Bool) : Prop :=
  ∀ n,
    let k := s.socket n
    let k' := t.socket n
    let goes := k.scu.state = .settle ∧ k.scu.settledMark = true ∧ may n = true
    (goes → k'.scu.state = .run ∧ k'.scu.settledMark = false ∧ k'.account.mirror = .run) ∧
    (¬goes → k'.scu.state = k.scu.state ∧ k'.scu.settledMark = k.scu.settledMark ∧ k'.account.mirror = k.account.mirror)

/-- The start of a pass at the CMP (R103, R109): each participant holds the lanes, threshold and tolerance of its test profile and its pass
result is cleared; of any other socket the values held stay. -/
def State.PassStarted (s t : State) : Prop :=
  ∀ n,
    let l := (s.socket n).lane
    let l' := (t.socket n).lane
    (SocketSet.has t.engine.participants n = true → l'.heldLanes = l.profile.lanes ∧ l'.heldThreshold = l.profile.threshold ∧
      l'.heldTolerance = l.profile.tolerance ∧ l'.result.compared = false ∧ l'.result.candidate = none) ∧
    (SocketSet.has t.engine.participants n = false →
      l'.heldLanes = l.heldLanes ∧ l'.heldThreshold = l.heldThreshold ∧ l'.heldTolerance = l.heldTolerance)

/-- What R88 leaves when a GOOD page becomes CORRUPT: its condition alone, STORE_FAULT set, which carries no set, and no other
flag, and a running engine stopped, at once
if the block of the pass in progress touches the page and at the pass end if not. An engine that becomes IDLE fixes the rate, and then
every settled socket that waits in SETTLE runs (R102). -/
structure State.PageLost (s t : State) (p : Page) : Prop where
  conditions : t.store.conditions = s.store.conditions.set p.val .corrupt p.isLt
  content : t.store.mem = s.store.mem ∧ t.store.checks = s.store.checks
  flag : t.flag .storeFault = { s.flag .storeFault with isSet := true }
  flags : ∀ e, e ≠ .storeFault → t.flag e = s.flag e
  log : t.log = s.log
  idle : s.engine.state = .idle → t.engine = s.engine
  atOnce : s.engine.state ≠ .idle → p ∈ s.engine.held.pages →
    t.engine.state = .idle ∧ t.engine.lastStop = .storeFault ∧ t.engine.current = none ∧ t.engine.stimulus = 0#16 ∧
      t.IsHighestRate t.engine.rate ∧ (∀ n, (t.socket n).lane = { (s.socket n).lane with result := {} }) ∧
      s.WaitersRun t fun _ => true
  elsewhere : s.engine.state = .idle ∨ p ∉ s.engine.held.pages → s.WaitersRun t fun _ => false
  atPassEnd : s.engine.state = .run → p ∉ s.engine.held.pages →
    t.engine = { s.engine with state := .stopping .storeFault }
  stopping : ∀ reason, s.engine.state = .stopping reason → p ∉ s.engine.held.pages → t.engine = s.engine

/-! ### Invariants -/

/-- While the board is UNATTENDED no socket is in HOLD (R21), but for one whose release the expiry still has to carry out (R162; log
entry 31). -/
def State.AttendedOk (s : State) : Prop :=
  s.link.mode = .unattended → ∀ n, (s.socket n).scu.state = .hold → .releases ∈ s.due

/-- At most one link-silence expiry is due, whole or with its releases left (R160, R162; log entry 31). -/
def State.SilenceOnce (s : State) : Prop :=
  (s.due.filter fun e => e == .linkSilence || e == .releases).length ≤ 1

/-- While the link is closed, in a load of the identity, no socket is QUEUED or powered (R23, R53, R179). -/
def State.Quiet (s : State) : Prop := s.phase ≠ .running → ∀ n, (s.socket n).scu.state.busy = false

/-- The vector store's memory has its canonical form. -/
def State.MemoryOk (s : State) : Prop := Mem.wf s.store.mem

/-- The fail log (R138, R140, R141): at most 128 records; issued = present + trimmed + dropped as the totals wrap; the next
sequence number counts with the issued total. -/
structure State.LogOk (s : State) : Prop where
  room : s.log.records.length ≤ Config.logRoom
  totals : s.log.issued = (s.log.records.length + s.log.trimmed + s.log.dropped) % 4294967296
  numbers : s.log.nextSequence = s.log.issued % 65536

/-- The sum of the applied duties in force (R66). -/
def State.dutySum (s : State) : Nat := (allSocks.map fun n => (s.socket n).heat.duty).sum

/-- The heaters (R64 to R68): the applied duties fit the budget, and the budget the population; no duty is above its demand
and no demand above 1000; a socket is budget-limited exactly when its duty is below its demand, and the last scaling then found it so; an unheated socket demands
and gets nothing, and its accumulator is 0. -/
structure State.HeatOk (s : State) : Prop where
  quiet : s.Quiet
  fits : s.dutySum ≤ s.budget
  budget : s.budget ≤ s.identity.budgetMax
  duty : ∀ n, (s.socket n).heat.duty ≤ (s.socket n).heat.demand
  demand : ∀ n, (s.socket n).heat.demand ≤ 1000
  remembered : ∀ n, (s.socket n).heat.limited = true → (s.socket n).heat.lastLimited = true
  limited : ∀ n, (s.socket n).heat.limited = decide ((s.socket n).heat.duty < (s.socket n).heat.demand)
  unheated : ∀ n, (s.socket n).scu.state.powered = false →
    (s.socket n).heat.demand = 0 ∧ (s.socket n).heat.accumulator = 0

/-- One feed's lists (R31 to R33, R35): each holds sockets of the feed, none twice; the queue's are QUEUED, the order list's
are QUEUED or powered and in no queue; committed current is within the limit, and the limit within the native one; at most
one socket is in RAMP or granted. -/
structure State.FeedOk (s : State) (f : FeedId) : Prop where
  queueOnce : (s.feed f).queue.Nodup
  orderOnce : (s.feed f).order.Nodup
  queued : ∀ n ∈ (s.feed f).queue, feedOf n = f ∧ (s.socket n).scu.state = .queued
  ordered : ∀ n ∈ (s.feed f).order, feedOf n = f ∧ (s.socket n).scu.state.busy = true ∧ n ∉ (s.feed f).queue
  committed : s.committed f ≤ (s.feed f).limit
  limit : (s.feed f).limit ≤ s.identity.nativeLimit f
  oneRamp : ∀ n m, feedOf n = f → feedOf m = f → ((s.socket n).scu.state = .ramp ∨ s.granted n = true) →
    ((s.socket m).scu.state = .ramp ∨ s.granted m = true) → n = m

/-- The supplies (R29 to R36, R41, R43): both feeds; the ceiling within the native one; every rail of an order list has the target of
R29, every other has target and output 0, no ramp or move, is not qualified and has its counts at 0. -/
structure State.SupplyOk (s : State) : Prop where
  quiet : s.Quiet
  feeds : ∀ f, s.FeedOk f
  ceiling : 400 ≤ s.ceiling ∧ s.ceiling ≤ s.identity.nativeCeiling
  on : ∀ n, s.inOrder n = true → (s.socket n).rail.commanded = s.targetOf n
  off : ∀ n, s.inOrder n = false → (s.socket n).rail.commanded = 0 ∧ (s.socket n).rail.output = 0 ∧
    (s.socket n).rail.motion = .still ∧ (s.socket n).rail.qualified = false ∧ (s.socket n).rail.qualCount = 0 ∧
    (s.socket n).rail.unregCount = 0 ∧ (s.socket n).rail.tripFilter = 0 ∧ (s.socket n).rail.contactCount = 0

/-- The pattern engine (R97, R98, R105, R107): its powered set is that of the SCU; every rate set holds rate 1; while IDLE
the rate is the highest that the powered sockets permit, nothing is applied and nobody takes part; while it runs, every
socket in RUN permits the rate, and every participant is in RUN. -/
structure State.EngineOk (s : State) : Prop where
  quiet : s.Quiet
  powered : ∀ n, SocketSet.has s.engine.powered n = (s.socket n).scu.state.powered
  rateOne : ∀ n, s.permits n .r1 = true
  idleRate : s.engine.state = .idle → s.engine.rate = s.highestRate
  idle : s.engine.state = .idle → s.engine.current = none ∧ s.engine.repeatsLeft = 0 ∧ s.engine.participants = 0#16 ∧
    s.engine.stimulus = 0#16
  running : s.engine.state ≠ .idle → s.engine.current.isSome = true
  permitted : s.engine.state ≠ .idle → ∀ n, (s.socket n).scu.state = .run → s.permits n s.engine.rate = true
  takePart : ∀ n, SocketSet.has s.engine.participants n = true → (s.socket n).scu.state = .run

end Sys2Proof.Machine
end

