-- ==== Sys2Proof/Certificates/Slice0/Obligations.lean ====
section
/-!
DEFINITION. The statements for the provers. Each docstring names the rules a statement formalises, and the log entry where a
clause is the model's own choice.
-/

open Sys2Proof Sys2Proof.Machine

/-! ### The machine -/

/-- A step is the command at the front of the queue, run with the queue's rest; an empty queue idles (log entry 1). -/
def Obligations.StepTakesTheFrontCommand : Prop :=
  (∀ s c rest, s.pending = c :: rest → step s = exec c { s with pending := rest }) ∧
  (∀ s, s.pending = [] → step s = .next s)

/-- Every command is answered by a next state, and leaves the queue of commands alone: an event that is not there does nothing
(log entry 4), and POWER_ON keeps the commands that wait (log entry 5). -/
def Obligations.EveryCommandIsAnswered : Prop :=
  ∀ c s, ∃ t, exec c s = .next t ∧ t.pending = s.pending

/-- Log entry 2: a command that names no expiry and is not POWER_ON finds the expiries already due carried out; a report taken while a
link-silence expiry is due is the one exception (log entry 31). A command that names an expiry carries out those found before it
and then it; if it is not due, nothing happens (log entry 4). So a SETTLE_TIMEOUT comes before the link-silence expiry of its tick
(log entry 42). -/
def Obligations.ExpiriesComeInTheOrderFound : Prop :=
  (∀ c s, expiryOfRow c = none → (∀ straps, c ≠ .powerOn straps) →
    (Instr.takesReport c = true → .linkSilence ∉ s.due ∧ .releases ∉ s.due) → exec c s = exec c s.settled) ∧
  (∀ c e s before after, expiryOfRow c = some e → s.due = before ++ e :: after → e ∉ before →
    exec c s = .next ((before ++ [e]).foldl State.fire { s with due := after })) ∧
  (∀ c e s, expiryOfRow c = some e → e ∉ s.due → (e = .linkSilence → .releases ∉ s.due) → exec c s = .next s)

/-- The machine right after reset meets every invariant stated below. That every rail off has target 0 is log entry 6. -/
def Obligations.ResetIsSound : Prop :=
  State.reset.MemoryOk ∧ State.reset.LogOk ∧ State.reset.HeatOk ∧ State.reset.SupplyOk ∧ State.reset.EngineOk ∧
  State.reset.AttendedOk ∧ State.reset.SilenceOnce

/-- Power-on (R179, R168), every field: the values that R1, R53, R76, R96, R117, R131, R151, R152, R159, R160, R164, R170, R175 and
R180 give, the straps read, the load begun. The commands waiting stay (log entry 5). The model's choices: the sensed values and
the measured currents 0, the vectors held for a pass as an empty entry (log entry 6), ceiling and limits as of an image of all
zero until the load ends, the presence lines as not yet looked at (log entry 15), nothing due and no report sent (log entries 2
and 3), no scaling remembered (log entry 40). -/
def Obligations.PowerOnGivesPowerOnValues : Prop :=
  ∀ straps s, exec (.powerOn straps) s = .next
    { phase := .starting,
      sockets := Vector.replicate 16
        { scu :=
            { state := .absent, firstFail := false, tripCount := 0, cleanRun := 0, settleTimer := 0, settledMark := false,
              unqualifiedSinceRead := false, inWindowThroughout := true, heaterLimitedSinceRead := false,
              failingPassSinceRead := false },
          rail :=
            { profile := { setpoint := 400, slew := 1, admission := 0, trip := 100, under := 0, retries := 0, rates := 1#4 },
              written := false, commanded := 0, output := 0, motion := .still, qualCount := 0, qualified := false,
              unregCount := 0, tripFilter := 0, contactCount := 0, sensedMv := 0, sensedMa := 0, offset := 0,
              faulted := false, calibration := none },
          heat :=
            { profile :=
                { setpoint := 250, low := 20, high := 20, overTemp := 500, runawayMargin := 100, settleTimeout := 600,
                  excursionLimit := 0, kp := 0, ki := 0, edge := .none },
              written := false, held := none, implausible := 0, inWindow := false, accumulator := 0, demand := 0, duty := 0,
              limited := false, lastLimited := false, heatedBefore := false, inWindowCount := 0, outWindowCount := 0, runawayCount := 0 },
          lane :=
            { profile := { lanes := 0#8, threshold := 1, tolerance := 65535, target := 0 }, written := false,
              heldLanes := 0#8, heldThreshold := 1, heldTolerance := 65535,
              result := { compared := false, candidate := none }, comparedPasses := 0, totalFailing := 0,
              consecutiveFailing := 0, captures := [], truncated := false },
          credit := { credit := 0, residue := 0, target := 0 },
          account :=
            { mirror := .absent, firstFail := false, firstCause := none, firstFailTime := 0, firstFailCredit := 0,
              targetReached := false, runSeconds := 0, accruedSeconds := 0, outSeconds := 0, trips := 0, retries := 0,
              sheds := 0, interrupts := 0, secondaryFails := 0, arms := 0, released := 0, peakTemp := -32768, peakMa := 0 } },
      feedA := { limit := 0, queue := [], order := [], overCount := 0, measured := 0 },
      feedB := { limit := 0, queue := [], order := [], overCount := 0, measured := 0 },
      ceiling := 400, budget := 0,
      store :=
        { mem := [], conditions := Vector.replicate 64 .unloaded, checks := Vector.replicate 64 0#16, scrub := 0,
          lastScrubbed := none },
      engine :=
        { state := .idle, current := none, held := {}, repeatsLeft := 0, loopIndex := 0, rate := .r4, powered := 0#16,
          participants := 0#16, lastStop := .none, applied := 0, stimulus := 0#16,
          table := Vector.replicate 32
            { enabled := false, start := 0, length := 1, repeats := 1, link := none, loopHead := false } },
      factors := { active := [⟨-500, 256⟩, ⟨2500, 256⟩], slots := Vector.replicate 16 none },
      log :=
        { records := [], nextSequence := 0, issued := 0, trimmed := 0, dropped := 0, threshold := 96,
          thresholdArmed := true, fullArmed := true },
      events := Vector.replicate 12 { isSet := false, enabled := true, sockets := 0#16 },
      link :=
        { receiver := .hunt, address := if 1 ≤ straps.toNat ∧ straps.toNat ≤ 120 then some straps else none,
          groups := Vector.replicate 8 255#8,
          counters := { good := 0, crcErrors := 0, framing := 0, others := 0, refusals := 0, replies := 0 },
          silenceParam := 12#8, silence := 0, silenceBefore := 0, mode := .attended, reply := .idle },
      identity := { valid := false, image := List.replicate 64 0#8 }, clock := 0, presence := 0#16, due := [], reports := [],
      pending := s.pending }

/-! ### The backplane link -/

/-- The row of a request is its frame on the line (R165, R166, R167, R169): whatever the receiver and the reply slot hold, it
does what the bytes from marker to CRC do, taken one by one. Those are the marker, the destination, the kind, the length, the payload
and the CRC-16 over destination to payload, low byte first; the CRC starts at 0xFFFF and takes each byte from its top bit. Arm Sockets brings the levels of the presence lines with it (log entry
15), and the row is its whole frame, come at once (log entry 17). -/
def Obligations.ARequestRowIsItsBytesOnTheLine : Prop :=
  (∀ c k dst p s, requestOfRow c = some (k, dst, p) → s.due = [] → p.length ≤ Config.maxPayload →
    exec c s = .next ((s.seen c).receiveAll (requestBytes dst k.code p))) ∧
  (∀ dst kind (p : List Byte),
    let covered := [dst, kind, BitVec.ofNat 8 p.length] ++ p
    requestBytes dst kind p = [0xC3#8] ++ covered ++ le16 (crc16 covered).toNat) ∧
  crc16 [] = 0xFFFF#16 ∧
  ∀ bytes (b : Byte),
    let bit (r : BitVec 16) := if r.getLsbD 15 = true then (r <<< 1) ^^^ 0x1021#16 else r <<< 1
    crc16 (bytes ++ [b]) = Nat.repeat bit 8 (crc16 bytes ^^^ (b ++ 0#8))

/-- An individually addressed request of a permitted length reaches its owner and is answered with what the owner returns; of
any other length it is answered with BAD_LENGTH and reaches no owner (R169, R172, R184). Whatever its answer, and before its owner
has it, the frame is counted as good, the silence count is 0 with the count before it kept for Poll, and the mode is ATTENDED
(R156, R160, R163, R175). An owner's answer is a reply pending at once; that of Calibrate Sense waits for the measurement (R51), and
that of Reset Board is OK with the reset to follow (R181). -/
def Obligations.IndividualRequestsReachTheirOwner : Prop :=
  (∀ (s : State) kind status payload n retain,
    let pending (r : Status) (p : List Byte) (reset : Option Bool) :=
      { s with link.reply := .pending (s.assemble kind r p) reset }
    s.answer kind status payload = pending status payload none ∧
      s.respond kind (.now status payload) = pending status payload none ∧
      s.respond kind (.whenMeasured n) = { s with link.reply := .measuring n } ∧
      s.respond kind (.thenReset retain) = pending .ok [] (some retain)) ∧
  (∀ s : State, s.heard =
    { s with
        link :=
          { s.link with
              counters := { s.link.counters with good := min 65535 (s.link.counters.good + 1) },
              silence := 0, silenceBefore := s.link.silence, mode := .attended } }) ∧
  ∀ c k dst p s, requestOfRow c = some (k, dst, p) → s.Hears dst → p.length ≤ Config.maxPayload →
    exec c s = .next (if k.lengthOk p.length then
        (k.carryOut p (s.seen c).heard).1.respond k.code (k.carryOut p (s.seen c).heard).2
      else (s.seen c).heard.answer k.code .badLength [])

/-- A broadcast or group frame is carried out without a reply where its kind and length permit, and is otherwise a group
refusal; it is counted as good, and it ends no silence (R160, R163, R169, R171, R175). The match of a destination: 0 is broadcast for
every board; of any other value, one without an address takes none; the board's own address is individual; 128 to 254 in any of the
eight entries of the group table is a group; the rest is for others (R168, R169, R170). The kinds, their lengths and the five that serve groups are those of R184. -/
def Obligations.GroupRequestsAreNotAnswered : Prop :=
  (∀ (l : Link) (dst : Byte),
    (dst = 0#8 → l.addressing dst = .group) ∧ (dst ≠ 0#8 → l.address = none → l.addressing dst = .others) ∧
    (dst ≠ 0#8 → l.address = some dst → l.addressing dst = .individual) ∧
    ∀ a, dst ≠ 0#8 → l.address = some a → dst ≠ a →
      l.addressing dst =
        if 128 ≤ dst.toNat ∧ dst.toNat ≤ 254 ∧ ∃ i : Fin 8, l.groups.get i = dst then .group else .others) ∧
  (∀ c k dst p s, requestOfRow c = some (k, dst, p) → s.Open → s.link.addressing dst = .group →
    p.length ≤ Config.maxPayload →
    let good := min 65535 (s.link.counters.good + 1)
    let refusals := min 65535 (s.link.counters.refusals + 1)
    exec c s = .next (if k.group && k.lengthOk p.length then (k.carryOut p { s.seen c with link.counters.good := good }).1
      else { s.seen c with link.counters := { s.link.counters with good, refusals } })) ∧
  (∀ c k dst p, requestOfRow c = some (k, dst, p) → requestKindOf k.code = some k ∧
    (k.group = true ↔ k.code ∈ [0x11#8, 0x12#8, 0x13#8, 0x38#8, 0x39#8]) ∧
    ∀ length, k.lengthOk length = true ↔
      (k.code, length) ∈ [(0x01#8, 0), (0x02#8, 0), (0x03#8, 8), (0x04#8, 1), (0x05#8, 1), (0x08#8, 0), (0x09#8, 2),
        (0x0A#8, 2), (0x10#8, 2), (0x11#8, 2), (0x12#8, 2), (0x13#8, 2), (0x14#8, 2), (0x15#8, 1), (0x16#8, 1), (0x17#8, 0),
        (0x20#8, 12), (0x21#8, 2), (0x22#8, 5), (0x23#8, 1), (0x24#8, 1), (0x28#8, 16), (0x29#8, 2), (0x31#8, 3),
        (0x32#8, 2), (0x33#8, 0), (0x34#8, 8), (0x35#8, 0), (0x38#8, 1), (0x39#8, 0), (0x3A#8, 0), (0x3B#8, 9), (0x3D#8, 1),
        (0x40#8, 6), (0x41#8, 0), (0x48#8, 1), (0x49#8, 2), (0x4A#8, 1), (0x4B#8, 1)] ∨
      (k.code = 0x30#8 ∧ ∃ n, 1 ≤ n ∧ n ≤ 48 ∧ length = 2 + 5 * n))

/-- A valid frame for another board is counted and nothing else happens (R169); a valid frame of a kind that the part does not
have is answered with BAD_KIND, or is a group refusal (R169, R171); a complete request with a bad CRC is discarded and counted,
whatever its destination (R167). Each counter named goes up by one and stays at 65535, and the others stand (R175). -/
def Obligations.ForeignUnknownAndBadFrames : Prop :=
  let up (n : Nat) := min 65535 (n + 1)
  (∀ c k dst p s, requestOfRow c = some (k, dst, p) → s.Open → s.link.addressing dst = .others →
    p.length ≤ Config.maxPayload → exec c s = .next { s.seen c with link.counters.others := up s.link.counters.others }) ∧
  (∀ dst kind p s, s.Open → s.link.addressing dst = .others → p.length ≤ Config.maxPayload →
    exec (.frameForOthers dst kind p) s = .next { s with link.counters.others := up s.link.counters.others }) ∧
  (∀ dst kind p s, s.Hears dst → p.length ≤ Config.maxPayload → (requestKindOf kind).isNone = true →
    exec (.badKindFrame dst kind p) s = .next (s.heard.answer kind .badKind [])) ∧
  (∀ dst kind p s, s.Open → s.link.addressing dst = .group → p.length ≤ Config.maxPayload →
    (requestKindOf kind).isNone = true →
    exec (.badKindFrame dst kind p) s = .next
      { s with
          link.counters :=
            { s.link.counters with good := up s.link.counters.good, refusals := up s.link.counters.refusals } }) ∧
  (∀ dst kind p crc s, s.Open → p.length ≤ Config.maxPayload →
    crc ≠ crc16 ([dst, kind, BitVec.ofNat 8 p.length] ++ p) →
    exec (.crcErrorFrame dst kind p crc) s = .next { s with link.counters.crcErrors := up s.link.counters.crcErrors })

/-- A request cut by a gap or by a low stop bit, and one whose length byte is above 250, is a framing error; a reply of another
board cut by either is counted nowhere; one whose length byte is above 250 ends there, in HUNT and counted nowhere; one that comes
whole, whatever bytes it holds, changes nothing (R165, R166). A framing error adds one to its own counter, to 65535 at most (R175). `bytes` are those after the marker, fewer than the frame's. -/
def Obligations.CutAndPassedFrames : Prop :=
  let aborted (s : State) : State :=
    { s with link.counters.framing := min 65535 (s.link.counters.framing + 1) }
  (∀ bytes s, s.Open → (bytes.length < 3 ∨ (nat8 bytes 2 ≤ Config.maxPayload ∧ bytes.length < nat8 bytes 2 + 5)) →
    exec (.frameGapTimeout (0xC3#8 :: bytes)) s = .next (aborted s) ∧
    exec (.framingError (0xC3#8 :: bytes) true) s = .next (aborted s)) ∧
  (∀ dst kind length s, s.Open → Config.maxPayload < length.toNat →
    exec (.framingError [0xC3#8, dst, kind, length] false) s = .next (aborted s)) ∧
  (∀ bytes s, s.Open → (bytes.length < 5 ∨ (nat8 bytes 4 ≤ Config.maxPayload ∧ bytes.length < nat8 bytes 4 + 7)) →
    exec (.frameGapTimeout (0x3C#8 :: bytes)) s = .next s ∧ exec (.framingError (0x3C#8 :: bytes) true) s = .next s) ∧
  (∀ a b c d length s, s.Open → Config.maxPayload < length.toNat →
    exec (.framingError [0x3C#8, a, b, c, d, length] false) s = .next s ∧
    exec (.otherReplyPassed [0x3C#8, a, b, c, d, length]) s = .next s) ∧
  (∀ bytes s, s.Open → replyOk bytes = true → exec (.otherReplyPassed bytes) s = .next s)

/-- A pending reply goes onto the line, and is counted when its last byte is sent; after the reply to Reset Board the reset
acts (R172, R175, R181). A marker taken in HUNT abandons a reply not yet begun, that of a measurement under way included (R51):
the reply is gone, its request's effects stand, and the new frame, a request or any other, does what it does with no reply in the
way; a byte that is no marker leaves the reply, and so does one whose stop bit is low (log entry 37). The abandoned reply of Reset Board makes the reset act at once, and the new frame is
counted nowhere (R173, R175). The frame on the line: marker, address, kind with 0x80 added modulo 256 (log entry 36), status,
attention, length, payload, and the CRC-16 over address to payload, low byte first (R155, R166, R167, R172); it is assembled with the
address in force and the attention byte of the flags as they stand. -/
def Obligations.ARepliesLife : Prop :=
  (∀ r : Reply,
    let covered := [r.address, BitVec.ofNat 8 (r.kind.toNat + 128), r.status.code, r.attention,
      BitVec.ofNat 8 r.payload.length] ++ r.payload
    r.bytes = [0x3C#8] ++ covered ++ le16 (crc16 covered).toNat) ∧
  (∀ (s : State) kind status payload, s.assemble kind status payload =
    { address := (match s.link.address with | some a => a | none => 0#8), kind, status, attention := attention s.events,
      payload }) ∧
  let sent (s : State) : State :=
    { s with
        link :=
          { s.link with
              reply := .idle,
              counters := { s.link.counters with replies := min 65535 (s.link.counters.replies + 1) } } }
  (∀ r reset s, s.due = [] → s.link.reply = .pending r reset →
    exec .replyTransmitStart s = .next (s.withReply (.sending r.bytes reset))) ∧
  (∀ bytes s, s.due = [] → s.link.reply = .sending bytes none →
    exec .replySent s = .next (sent s)) ∧
  (∀ bytes retain s, s.due = [] → s.link.reply = .sending bytes (some retain) →
    exec .replySent s = .next ((sent s).boardReset retain)) ∧
  (∀ s : State, s.due = [] → s.phase = .running → s.link.receiver = .hunt →
    (∃ r, s.link.reply = .pending r none) ∨ (∃ n, s.link.reply = .measuring n) →
    let free := { s with link.reply := .idle }
    (∀ c k dst p, requestOfRow c = some (k, dst, p) → exec c s = exec c free) ∧
    (∀ dst kind p crc, exec (.frameForOthers dst kind p) s = exec (.frameForOthers dst kind p) free ∧
      exec (.badKindFrame dst kind p) s = exec (.badKindFrame dst kind p) free ∧
      exec (.crcErrorFrame dst kind p crc) s = exec (.crcErrorFrame dst kind p crc) free) ∧
    (∀ marker bytes stopLow, marker = 0xC3#8 ∨ marker = 0x3C#8 →
      exec (.frameGapTimeout (marker :: bytes)) s = exec (.frameGapTimeout (marker :: bytes)) free ∧
      exec (.framingError (marker :: bytes) stopLow) s = exec (.framingError (marker :: bytes) stopLow) free ∧
      exec (.otherReplyPassed (marker :: bytes)) s = exec (.otherReplyPassed (marker :: bytes)) free) ∧
    exec (.frameGapTimeout [0xC3#8]) s = .next
      { free with link.counters.framing := min 65535 (s.link.counters.framing + 1) } ∧
    exec (.frameGapTimeout [0x3C#8]) s = .next free ∧
    ∀ bytes stopLow, (∀ b ∈ bytes, b ≠ 0xC3#8 ∧ b ≠ 0x3C#8) → exec (.framingError bytes stopLow) s = .next s) ∧
  (∀ r retain dst kind p s, s.due = [] → s.phase = .running → s.link.receiver = .hunt →
    s.link.reply = .pending r (some retain) → exec (.frameForOthers dst kind p) s = .next (s.boardReset retain))

/-- While the identity is loaded, and while the board's own reply is being sent, no byte is taken from the line: no request row
and no line row changes anything (R165, R175, R179), but that the model takes the presence lines from an Arm Sockets row all the same
(log entry 15). -/
def Obligations.NoByteIsTakenWhileTheLinkIsClosed : Prop :=
  (∀ s : State, s.listening = true ↔ s.phase = .running ∧ ∀ bytes reset, s.link.reply ≠ .sending bytes reset) ∧
  ∀ s, s.due = [] → s.listening = false →
    (∀ c k dst p, requestOfRow c = some (k, dst, p) → exec c s = .next (s.seen c)) ∧
    (∀ bytes stopLow, exec (.frameGapTimeout bytes) s = .next s ∧ exec (.framingError bytes stopLow) s = .next s ∧
      exec (.otherReplyPassed bytes) s = .next s) ∧
    (∀ dst kind p crc, exec (.crcErrorFrame dst kind p crc) s = .next s ∧ exec (.frameForOthers dst kind p) s = .next s ∧
      exec (.badKindFrame dst kind p) s = .next s)

/-! ### Socket requests -/

/-- Arm Sockets of one socket that passes the checks of R5: its arm is counted, its peaks, captures, trip and clean-run counts
start again, it is QUEUED at the tail of its feed's queue, and admission is evaluated for the feed (R34, R35), which admits it at once
where nothing waits before it, no socket ramps or is granted (log entry 11) and its current fits; no other socket's state changes. The presence lines are those
that the row brings (log entry 15). A socket that fails a check is refused with the reason of the first that fails, and
nothing else changes (R4, R5). -/
def Obligations.ArmingOneSocket : Prop :=
  ∀ dst n present s, s.Hears dst →
    ((s.socket n).scu.state = .off → (s.socket n).rail.written = true → (s.socket n).heat.written = true →
      (s.socket n).lane.written = true → (s.socket n).rail.calibration = none → (s.socket n).rail.faulted = false →
      SocketSet.has present n = true → s.admission n ≤ (s.feed (feedOf n)).limit →
      ∃ t, exec (.armSockets dst (le16 (single n).toNat) present) s = .next t ∧
        (t.socket n).scu.state = .queued ∧ (t.socket n).scu.tripCount = 0 ∧ (t.socket n).scu.cleanRun = 0 ∧
        (t.socket n).account.arms = satInc 65535 (s.socket n).account.arms ∧ (t.socket n).account.peakTemp = -32768 ∧
        (t.socket n).account.peakMa = 0 ∧ (t.socket n).account.mirror = .queued ∧ (t.socket n).lane.captures = [] ∧
        (t.socket n).lane.truncated = false ∧ (t.socket n).credit = (s.socket n).credit ∧ s.OthersStay t n ∧
        t.presence = present ∧ t.log = s.log ∧ t.store = s.store ∧
        s.EvaluatedTo t n ((s.feed (feedOf n)).queue.filter (· != n) ++ [n]) ((s.feed (feedOf n)).order.filter (· != n))
          s.reports ∧
        t.link.reply = .pending (t.assemble 0x10#8 .ok (le16 (single n).toNat ++ [0#8, 0#8])) none) ∧
    (∀ reason,
      reason =
        (if (s.socket n).scu.state = .absent then some Status.absent
        else if (s.socket n).scu.state ≠ .off then some .wrongState
        else if ¬((s.socket n).rail.written = true ∧ (s.socket n).heat.written = true ∧ (s.socket n).lane.written = true) then
          some .noProfile
        else if (s.socket n).rail.calibration.isSome then some .calibrating
        else if (s.socket n).rail.faulted then some .senseFault
        else if SocketSet.has present n = false then some .notPresent
        else if (s.feed (feedOf n)).limit < s.admission n then some .overFeed
        else none) →
      ∀ r, reason = some r →
        exec (.armSockets dst (le16 (single n).toNat) present) s =
          .next ({ s with presence := present }.heard.answer 0x10#8 .partly
            ([0#8, 0#8] ++ le16 (single n).toNat ++ [r.code])))

/-- Pause, Resume, Power Down and Release Hold of one socket: the state before decides the state after (R12, R13, R14, R15);
leaving the powered states turns the rail and heater off (R2, R36, R64), the rail's target to 0 (log entry 6), no fail record is
made, the first-fail fields stay, and no other socket's state changes. Admission is then evaluated (R34, R35; log entry 11), but not where a
QUEUED socket leaves from behind the head (R14). A granted QUEUED socket leaves its order list as well (log entry 12). A Pause or Resume leaves
both feeds as they are, also for a socket that has tripped or been shed at the SSC (log entry 41). That the last scaling found the
socket limited stays known (log entry 40). -/
def Obligations.OperatorMovesOneSocket : Prop :=
  ∀ dst n s, s.Hears dst →
    let set := le16 (single n).toNat
    let queue := (s.feed (feedOf n)).queue
    let order := (s.feed (feedOf n)).order
    let answered (kind : Byte) (t : State) :=
      t.link.reply = .pending (t.assemble kind .ok (set ++ [0#8, 0#8])) none ∧ s.OthersStay t n ∧ t.log = s.log ∧
        t.store = s.store ∧ (t.socket n).account = { (s.socket n).account with mirror := (t.socket n).scu.state } ∧
        (t.socket n).scu.firstFail = (s.socket n).scu.firstFail ∧ (t.socket n).credit = (s.socket n).credit
    let off (t : State) := (t.socket n).rail.commanded = 0 ∧ (t.socket n).rail.output = 0 ∧
      (t.socket n).rail.qualified = false ∧ (t.socket n).rail.motion = .still ∧ (t.socket n).heat.demand = 0 ∧
      (t.socket n).heat.duty = 0 ∧ (t.socket n).heat.accumulator = 0 ∧ (t.socket n).heat.limited = false ∧
      (t.socket n).heat.lastLimited = (s.socket n).heat.lastLimited
    let unchanged (t : State) := (∀ f, t.feed f = s.feed f) ∧ t.reports = s.reports ∧ ∀ k, k ≠ n → t.socket k = s.socket k
    ((s.socket n).scu.state = .run ∨ (s.socket n).scu.state = .settle →
      ∃ t, exec (.pauseSockets dst set) s = .next t ∧ (t.socket n).scu.state = .pause ∧
        (t.socket n).scu.settledMark = false ∧ (t.socket n).scu.cleanRun = 0 ∧
        SocketSet.has t.engine.participants n = false ∧ (t.socket n).rail.output = (s.socket n).rail.output ∧
        unchanged t ∧ answered 0x12#8 t) ∧
    ((s.socket n).scu.state = .pause →
      ∃ t, exec (.resumeSockets dst set) s = .next t ∧ (t.socket n).scu.state = .settle ∧
        (t.socket n).scu.settleTimer = 0 ∧ (t.socket n).scu.settledMark = false ∧ (t.socket n).heat.inWindowCount = 0 ∧
        unchanged t ∧ answered 0x13#8 t) ∧
    ((s.socket n).scu.state.busy = true →
      ∃ t, exec (.powerDownSockets dst set) s = .next t ∧
        (t.socket n).scu.state = (if (s.socket n).scu.state = .hold then .safe else .off) ∧ off t ∧
        (n ∈ queue.tail → (∀ g, g ≠ feedOf n → t.feed g = s.feed g) ∧ t.reports = s.reports ∧
          t.feed (feedOf n) =
            { s.feed (feedOf n) with queue := queue.filter (· != n), order := order.filter (· != n) } ∧
          ∀ k, k ≠ n → t.socket k = s.socket k) ∧
        (n ∉ queue.tail → s.EvaluatedTo t n (queue.filter (· != n)) (order.filter (· != n)) s.reports) ∧
        answered 0x11#8 t) ∧
    ((s.socket n).scu.state = .hold →
      ∃ t, exec (.releaseHold dst set) s = .next t ∧ (t.socket n).scu.state = .safe ∧ off t ∧
        s.EvaluatedTo t n (queue.filter (· != n)) (order.filter (· != n)) s.reports ∧ answered 0x14#8 t)

/-- A set request refuses a socket in any state its rule does not name: ABSENT with ABSENT, every other with WRONG_STATE; a
wholly refused set is answered PARTIAL and changes nothing; an empty set is answered OK (R4, R12, R13, R14, R15). -/
def Obligations.SetRequestsRefuseOtherStates : Prop :=
  ∀ dst n s, s.Hears dst →
    let set := le16 (single n).toNat
    let refused (kind : Byte) := State.answer s.heard kind .partly
      ([0#8, 0#8] ++ set ++ [if (s.socket n).scu.state = .absent then 0x15#8 else 0x10#8])
    ((s.socket n).scu.state ≠ .run → (s.socket n).scu.state ≠ .settle →
      exec (.pauseSockets dst set) s = .next (refused 0x12#8)) ∧
    ((s.socket n).scu.state ≠ .pause → exec (.resumeSockets dst set) s = .next (refused 0x13#8)) ∧
    ((s.socket n).scu.state.busy = false → exec (.powerDownSockets dst set) s = .next (refused 0x11#8)) ∧
    ((s.socket n).scu.state ≠ .hold → exec (.releaseHold dst set) s = .next (refused 0x14#8)) ∧
    (∀ present, exec (.armSockets dst [0#8, 0#8] present) s =
      .next ({ s with presence := present }.heard.answer 0x10#8 .ok [0#8, 0#8, 0#8, 0#8])) ∧
    exec (.powerDownSockets dst [0#8, 0#8]) s = .next (s.heard.answer 0x11#8 .ok [0#8, 0#8, 0#8, 0#8]) ∧
    exec (.pauseSockets dst [0#8, 0#8]) s = .next (s.heard.answer 0x12#8 .ok [0#8, 0#8, 0#8, 0#8]) ∧
    exec (.resumeSockets dst [0#8, 0#8]) s = .next (s.heard.answer 0x13#8 .ok [0#8, 0#8, 0#8, 0#8]) ∧
    exec (.releaseHold dst [0#8, 0#8]) s = .next (s.heard.answer 0x14#8 .ok [0#8, 0#8, 0#8, 0#8])

/-- A set request of several sockets (R4): with a socket above all others of the set, it does what the request of the others and then
that of the one socket do, the first reply aside; acted and refused sets are joined, the reasons stand in ascending order, and
the status is OK when no socket is refused, else PARTIAL. With the statements of one socket and of the empty set this gives every
set. -/
def Obligations.SetsAreTakenInOrder : Prop :=
  ∀ dst present (x : SocketSet) n s, s.Hears dst → (∀ m, SocketSet.has x m = true → m < n) →
    ∀ row ∈ ([(fun p => .armSockets dst p present, 0x10#8), (fun p => .powerDownSockets dst p, 0x11#8),
        (fun p => .pauseSockets dst p, 0x12#8), (fun p => .resumeSockets dst p, 0x13#8),
        (fun p => .releaseHold dst p, 0x14#8)] : List ((List Byte → Instr) × Byte)),
      let status (refused : SocketSet) : Status := if refused = 0#16 then .ok else .partly
      let reply (t : State) (acted refused : SocketSet) (reasons : List Byte) :=
        t.link.reply = .pending (t.assemble row.2 (status refused) (le16 acted.toNat ++ le16 refused.toNat ++ reasons)) none
      ∃ (v u t : State) (a₁ r₁ a₂ r₂ : SocketSet) (why₁ why₂ : List Byte),
        exec (row.1 (le16 x.toNat)) s = .next v ∧ reply v a₁ r₁ why₁ ∧ a₁ ||| r₁ = x ∧ a₁ &&& r₁ = 0#16 ∧
        exec (row.1 (le16 (single n).toNat)) { v with link := s.link } = .next u ∧ reply u a₂ r₂ why₂ ∧
        a₂ ||| r₂ = single n ∧ a₂ &&& r₂ = 0#16 ∧
        exec (row.1 (le16 (x ||| single n).toNat)) s = .next t ∧ reply t (a₁ ||| a₂) (r₁ ||| r₂) (why₁ ++ why₂) ∧
        why₁.length = SocketSet.size r₁ ∧ why₂.length = SocketSet.size r₂ ∧ t = { u with link := t.link } ∧
        t.link = { v.link with reply := t.link.reply }

/-- Read Socket Status (R24): the twelve values as they stand, in 13 bytes; the four latched indications are then cleared and
set, for that socket alone; a socket number above 15 is refused with BAD_ARG. -/
def Obligations.ReadSocketStatusClearsItsLatches : Prop :=
  (∀ dst n s, s.Hears dst →
    let k := s.socket n
    ∃ t, exec (.readSocketStatus dst [sockCode n]) s = .next t ∧
      t.link.reply = .pending (t.assemble 0x15#8 .ok
        ([sockCode n, k.scu.state.code] ++ le16 k.rail.sensedMv ++ le16 k.rail.sensedMa ++
          leInt16 (k.heat.held.getD (-32768)) ++ le16 k.heat.demand ++ le16 k.heat.duty ++
          [BitVec.ofNat 8 (bitIf k.rail.qualified 1 + bitIf k.heat.inWindow 2 + bitIf k.scu.unqualifiedSinceRead 4 +
            bitIf k.scu.inWindowThroughout 8 + bitIf k.scu.heaterLimitedSinceRead 16 +
            bitIf k.scu.failingPassSinceRead 32)])) none ∧
      t.socket n =
        { k with
            scu :=
              { k.scu with
                  unqualifiedSinceRead := false, inWindowThroughout := true, heaterLimitedSinceRead := false,
                  failingPassSinceRead := false } } ∧
      ∀ m, m ≠ n → t.socket m = s.socket m) ∧
  (∀ dst b s, s.Hears dst → 15 < b.toNat →
    exec (.readSocketStatus dst [b]) s = .next (s.heard.answer 0x15#8 .badArg []))

/-- Clear Socket Account (R22, R149): in OFF, SAFE or DONE the socket becomes OFF with its account, credit, residue, captures
and compare counters zeroed, its profiles, target and offset kept and the log untouched; ABSENT, QUEUED and powered sockets
are refused; a number above 15 is refused with one of the two statuses that R22 names (R174), which one the spec leaves open (log entry 35). -/
def Obligations.ClearingOneAccount : Prop :=
  ∀ dst n s, s.Hears dst →
    ((s.socket n).scu.state = .off ∨ (s.socket n).scu.state = .safe ∨ (s.socket n).scu.state = .done →
      ∃ t, exec (.clearSocketAccount dst [sockCode n]) s = .next t ∧
        t.link.reply = .pending (t.assemble 0x16#8 .ok []) none ∧ t.log = s.log ∧
        (∀ m, m ≠ n → t.socket m = s.socket m) ∧ (t.socket n).scu.state = .off ∧ (t.socket n).scu.firstFail = false ∧
        (t.socket n).account = { mirror := .off } ∧
        (t.socket n).credit = { credit := 0, residue := 0, target := (s.socket n).credit.target } ∧
        (t.socket n).rail = (s.socket n).rail ∧ (t.socket n).heat = (s.socket n).heat ∧
        (t.socket n).lane.captures = [] ∧ (t.socket n).lane.truncated = false ∧ (t.socket n).lane.comparedPasses = 0 ∧
        (t.socket n).lane.totalFailing = 0 ∧ (t.socket n).lane.consecutiveFailing = 0 ∧
        (t.socket n).lane.profile = (s.socket n).lane.profile ∧ (t.socket n).lane.written = (s.socket n).lane.written ∧
        (t.socket n).account.bin (t.socket n).lane.totalFailing = .notTested) ∧
    ((s.socket n).scu.state = .absent →
      exec (.clearSocketAccount dst [sockCode n]) s = .next (s.heard.answer 0x16#8 .absent [])) ∧
    ((s.socket n).scu.state.busy = true →
      exec (.clearSocketAccount dst [sockCode n]) s = .next (s.heard.answer 0x16#8 .wrongState [])) ∧
    (∀ b : Byte, 15 < b.toNat →
      exec (.clearSocketAccount dst [b]) s = .next (s.heard.answer 0x16#8 .absent []) ∨
      exec (.clearSocketAccount dst [b]) s = .next (s.heard.answer 0x16#8 .wrongState []))

/-- Clear Accounts (R22, R150): refused with BUSY while a socket is QUEUED or powered; otherwise every SAFE and DONE socket
becomes OFF, every account, credit and counter is zeroed, and the log is emptied with its totals and next number at 0, its
threshold kept and both marks set. -/
def Obligations.ClearingAllAccounts : Prop :=
  ∀ dst s, s.Hears dst →
    ((∃ n, (s.socket n).scu.state.busy = true) →
      exec (.clearAccounts dst []) s = .next (s.heard.answer 0x17#8 .busy [])) ∧
    ((∀ n, (s.socket n).scu.state.busy = false) →
      ∃ t, exec (.clearAccounts dst []) s = .next t ∧ t.link.reply = .pending (t.assemble 0x17#8 .ok []) none ∧
        t.log =
          { records := [], nextSequence := 0, issued := 0, trimmed := 0, dropped := 0, threshold := s.log.threshold,
            thresholdArmed := true, fullArmed := true } ∧
        t.events = s.events ∧ ∀ n,
          (t.socket n).scu.state = (if (s.socket n).scu.state = .absent then .absent else .off) ∧
          (t.socket n).scu.firstFail = false ∧ (t.socket n).account = { mirror := (t.socket n).scu.state } ∧
          (t.socket n).credit.credit = 0 ∧ (t.socket n).credit.residue = 0 ∧
          (t.socket n).credit.target = (s.socket n).credit.target ∧ (t.socket n).lane.captures = [] ∧
          (t.socket n).lane.truncated = false ∧ (t.socket n).lane.comparedPasses = 0 ∧
          (t.socket n).lane.totalFailing = 0 ∧ (t.socket n).lane.consecutiveFailing = 0 ∧
          (t.socket n).rail = (s.socket n).rail)

/-! ### Reports taken by the SCU -/

/-- A grant moves a QUEUED socket that is off its queue to RAMP, and otherwise is discarded (R6, R32; log entries 12 and 32), both feeds left as they are (log entry 41). Which report may be taken is log entry 3. A qualification report moves a
socket in RAMP to SETTLE with the settle timer at 0 and the settled mark clear, and admission is evaluated (R34, R35; log entry 11); in any other state
it is discarded (R7). -/
def Obligations.GrantsAndQualificationsTaken : Prop :=
  (∀ n s, s.Reported n .grant →
    (s.granted n = true →
      ∃ t, exec (.admissionGrantTaken n) s = .next t ∧ (t.socket n).scu.state = .ramp ∧
        (t.socket n).account.mirror = .ramp ∧ (∀ m, m ≠ n → t.socket m = s.socket m) ∧
        (t.socket n).rail = { (s.socket n).rail with contactCount := 0 } ∧
        SocketSet.has t.engine.powered n = true ∧ (∀ f, t.feed f = s.feed f) ∧ t.log = s.log ∧
        t.reports = s.reports.erase ⟨n, .grant⟩) ∧
    (s.granted n = false → exec (.admissionGrantTaken n) s = .next (s.drop ⟨n, .grant⟩))) ∧
  (∀ n s, s.Reported n .qualified →
    ((s.socket n).scu.state = .ramp →
      ∃ t, exec (.qualifiedReportTaken n) s = .next t ∧ (t.socket n).scu.state = .settle ∧
        (t.socket n).scu.settleTimer = 0 ∧ (t.socket n).scu.settledMark = false ∧ (t.socket n).heat.inWindowCount = 0 ∧
        s.OthersStay t n ∧ t.log = s.log ∧
        s.EvaluatedTo t n (s.feed (feedOf n)).queue (s.feed (feedOf n)).order (s.reports.erase ⟨n, .qualified⟩)) ∧
    ((s.socket n).scu.state ≠ .ramp → exec (.qualifiedReportTaken n) s = .next (s.drop ⟨n, .qualified⟩)))

/-- A thermally settled report lets a SETTLE socket run when the engine is IDLE or the rate is permitted; otherwise it waits
with its settled mark set; in any other state the report is discarded (R8). Which report may be taken is log entry 3. Both feeds are
left as they are, also where the socket has tripped or been shed at the SSC (log entry 41). -/
def Obligations.ASettledReportTaken : Prop :=
  ∀ n s, s.Reported n .settled →
    ((s.socket n).scu.state = .settle →
      ∃ t, exec (.settledReportTaken n) s = .next t ∧ (∀ m, m ≠ n → t.socket m = s.socket m) ∧
        (∀ f, t.feed f = s.feed f) ∧
        (s.engine.state = .idle ∨ s.permits n s.engine.rate = true → (t.socket n).scu.state = .run) ∧
        (¬(s.engine.state = .idle ∨ s.permits n s.engine.rate = true) →
          t.socket n = { s.socket n with scu := { (s.socket n).scu with settledMark := true } })) ∧
    ((s.socket n).scu.state ≠ .settle → exec (.settledReportTaken n) s = .next (s.drop ⟨n, .settled⟩))

/-- Target reached moves a socket in RUN to DONE: rail and heater off, target-reached set, credit kept, SOCKET_DONE with the
socket, admission evaluated (R34, R35; log entry 11); in any other state the report is discarded (R10, R20). Which
report may be taken is log entry 3. -/
def Obligations.ATargetTaken : Prop :=
  ∀ n s, s.Reported n .target →
    ((s.socket n).scu.state = .run →
      ∃ t, exec (.targetReportTaken n) s = .next t ∧ (t.socket n).scu.state = .done ∧
        (t.socket n).account = { (s.socket n).account with targetReached := true, mirror := .done } ∧
        (t.socket n).credit = (s.socket n).credit ∧ (t.socket n).rail.output = 0 ∧ (t.socket n).heat.duty = 0 ∧
        s.OthersStay t n ∧ t.log = s.log ∧
        s.EvaluatedTo t n ((s.feed (feedOf n)).queue.filter (· != n)) ((s.feed (feedOf n)).order.filter (· != n))
          (s.reports.erase ⟨n, .target⟩) ∧
        t.flag .socketDone =
          { s.flag .socketDone with isSet := true, sockets := (s.flag .socketDone).sockets ||| single n }) ∧
    ((s.socket n).scu.state ≠ .run → exec (.targetReportTaken n) s = .next (s.drop ⟨n, .target⟩))

/-- A trip (R16): a retry, with the count below the trip retries and the socket not in HOLD, re-queues the socket at the head of its feed's
queue, or leaves it in OFF where its admission current no longer fits the limit (R48), and makes no record; else it is the failure RAIL_TRIP, recorded and flagged as that cause (R18, R19). Trips
and the trip count go up either way, in HOLD too (log entry 28), retries for a retry alone, and admission is evaluated (R34, R35; log entry 11); in an unpowered state the report is
discarded. Which report may be taken is log entry 3. -/
def Obligations.ATripTaken : Prop :=
  ∀ n s, s.Reported n .trip →
    let k := s.socket n
    let queue := (s.feed (feedOf n)).queue.filter (· != n)
    let order := (s.feed (feedOf n)).order.filter (· != n)
    let rest := s.reports.erase ⟨n, .trip⟩
    (k.scu.state.powered = true → k.scu.state ≠ .hold → k.scu.tripCount < k.rail.profile.retries →
      ∃ t, exec (.tripReportTaken n) s = .next t ∧ s.OthersStay t n ∧ t.log = s.log ∧ t.events = s.events ∧
        (t.socket n).scu.state = (if s.admission n ≤ (s.feed (feedOf n)).limit then .queued else .off) ∧
        (t.socket n).scu.tripCount = satInc 255 k.scu.tripCount ∧ (t.socket n).scu.cleanRun = 0 ∧
        (t.socket n).account.trips = satInc 65535 k.account.trips ∧
        (t.socket n).account.retries = satInc 65535 k.account.retries ∧
        s.EvaluatedTo t n (if s.admission n ≤ (s.feed (feedOf n)).limit then n :: queue else queue) order rest) ∧
    (k.scu.state.powered = true → k.scu.state = .hold ∨ k.rail.profile.retries ≤ k.scu.tripCount →
      ∃ t, exec (.tripReportTaken n) s = .next t ∧ s.OthersStay t n ∧ s.Failed t n .railTrip ∧
        (t.socket n).scu.state = .safe ∧ (t.socket n).scu.tripCount = satInc 255 k.scu.tripCount ∧
        (t.socket n).account.trips = satInc 65535 k.account.trips ∧
        (t.socket n).account.retries = k.account.retries ∧
        s.EvaluatedTo t n queue order rest) ∧
    (k.scu.state.powered = false → exec (.tripReportTaken n) s = .next (s.drop ⟨n, .trip⟩))

/-- A shed moves a socket in RAMP, SETTLE, RUN or PAUSE to the tail of its feed's queue, or to OFF where its admission current no longer fits
the limit (R48), and one in HOLD to SAFE; the shed is counted, no record is made and admission is
evaluated (R34, R35; log entry 11); in any other state it is discarded (R16). Which report
may be taken is log entry 3. -/
def Obligations.AShedTaken : Prop :=
  ∀ n s, s.Reported n .shed →
    let k := s.socket n
    let queue := (s.feed (feedOf n)).queue.filter (· != n)
    let order := (s.feed (feedOf n)).order.filter (· != n)
    (k.scu.state.powered = true →
      ∃ t, exec (.shedReportTaken n) s = .next t ∧ s.OthersStay t n ∧ t.log = s.log ∧ t.events = s.events ∧
        (t.socket n).scu.state = (if k.scu.state = .hold then .safe
          else if s.admission n ≤ (s.feed (feedOf n)).limit then .queued else .off) ∧
        (t.socket n).account.sheds = satInc 65535 k.account.sheds ∧ (t.socket n).heat.duty = 0 ∧
        (t.socket n).scu.cleanRun = 0 ∧
        s.EvaluatedTo t n
          (if k.scu.state ≠ .hold ∧ s.admission n ≤ (s.feed (feedOf n)).limit then queue ++ [n] else queue) order
          (s.reports.erase ⟨n, .shed⟩)) ∧
    (k.scu.state.powered = false → exec (.shedReportTaken n) s = .next (s.drop ⟨n, .shed⟩))

/-- A failure in a state in which its monitor runs (R17 to R19): the disposition follows the attendance; the first failure is
PRIMARY and fixes cause, time and credit, a later one is SECONDARY and counted; a number is consumed and the record, of the
socket as it stood, is stored or dropped (R139, R140); COMPARE_FAIL takes the capture list with it; the flag of its class is set with
the socket, LOG_THRESHOLD and LOG_FULL as R142 and R143 give; in SAFE rail and heater are off and admission is evaluated (R34,
R35; log entry 11), the rail's target 0 (log entry 6); in HOLD both feeds stand, also where the socket has tripped or been shed at the SSC
(log entry 41). No other socket changes state. Which report may be taken is log entry 3. A report whose monitor does not run is discarded. The table of R17 is spelled out. -/
def Obligations.AFailureTaken : Prop :=
  (∀ (c : Cause) (st : SocketState), c.runsIn st = true ↔
    (c ∈ [.railTrip, .railUnreg, .overTemp, .runaway, .sensorFault] ∧ st ∈ [.ramp, .settle, .run, .pause, .hold]) ∨
    (c ∈ [.contactLoss, .excursion, .compareFail] ∧ st = .run) ∨ (c = .settleTimeout ∧ st = .settle)) ∧
  (∀ (c : Cause) (m : Attendance), c.disposition m =
    if c ∈ [.contactLoss, .settleTimeout, .excursion, .compareFail] ∧ m = .attended then .hold else .safe) ∧
  (∀ c : Cause, c.flag = if c ∈ [.railTrip, .railUnreg, .contactLoss] then .railFault
    else if c = .compareFail then .testFault else .thermalFault) ∧
  (∀ c : Cause, c.reporter = if c ∈ [.railTrip, .railUnreg, .contactLoss] then .ssc else if c = .compareFail then .cmp
    else if c = .settleTimeout then .scu else .tru) ∧
  ∀ n c s, s.Reported n (.failure c) →
    let k := s.socket n
    let disposition := c.disposition s.link.mode
    (c.runsIn k.scu.state = true →
      ∃ t, exec (.failureReportTaken n c) s = .next t ∧ s.OthersStay t n ∧
        s.Failed t n c ∧
        (k.scu.firstFail = false → (t.socket n).account =
          { k.account with mirror := disposition, firstFail := true, firstCause := some c, firstFailTime := s.clock,
                           firstFailCredit := k.credit.credit }) ∧
        (k.scu.firstFail = true → (t.socket n).account =
          { k.account with mirror := disposition, secondaryFails := satInc 65535 k.account.secondaryFails }) ∧
        (disposition = .hold → (t.socket n).rail = { k.rail with contactCount := 0 } ∧ (t.socket n).heat.duty = k.heat.duty ∧
          (∀ f, t.feed f = s.feed f) ∧ t.reports = s.reports.erase ⟨n, .failure c⟩) ∧
        (disposition = .safe → (t.socket n).rail.commanded = 0 ∧ (t.socket n).rail.output = 0 ∧
          (t.socket n).rail.motion = .still ∧ (t.socket n).heat.duty = 0 ∧ (t.socket n).heat.demand = 0 ∧
          s.EvaluatedTo t n ((s.feed (feedOf n)).queue.filter (· != n)) ((s.feed (feedOf n)).order.filter (· != n))
            (s.reports.erase ⟨n, .failure c⟩))) ∧
    (c.runsIn k.scu.state = false →
      exec (.failureReportTaken n c) s = .next (s.drop ⟨n, .failure c⟩))

/-! ### Expiries -/

/-- The expiries that only report (R39 to R42, R45, R70 to R72): each, first among those due, sends its one report, resets what
its rule resets, and leaves every other socket alone. A qualification makes the rail qualified and ends its ramp or move; a socket in no
order list is not qualified by it (R41). What is due is carried out by the command that names it (log entry 2). -/
def Obligations.ReportingExpiries : Prop :=
  ∀ n s rest,
    let sent (c : Instr) (kind : ReportKind) (k : Socket) :=
      ∃ t, exec c s = .next t ∧ t.due = rest ∧ t.reports = s.reports ++ [⟨n, kind⟩] ∧ t.socket n = k ∧
        (∀ m, m ≠ n → t.socket m = s.socket m) ∧ (∀ f, t.feed f = s.feed f) ∧ t.engine = s.engine ∧ t.log = s.log ∧
        t.events = s.events ∧ t.link = s.link ∧ t.store = s.store
    let k := s.socket n
    (s.due = .rampTimeout n :: rest →
      sent (.rampTimeout n) (.failure .railUnreg) { k with rail := { k.rail with motion := .still } }) ∧
    (s.due = .moveTimeout n :: rest →
      sent (.moveTimeout n) (.failure .railUnreg) { k with rail := { k.rail with motion := .still } }) ∧
    (s.due = .qualification n :: rest → s.inOrder n = false → exec (.qualification n) s = .next { s with due := rest }) ∧
    (s.due = .qualification n :: rest → s.inOrder n = true →
      sent (.qualification n) .qualified { k with rail := { k.rail with qualified := true, motion := .still } }) ∧
    (s.due = .unregulated n :: rest →
      sent (.unregulatedCountExpiry n) (.failure .railUnreg) { k with rail := { k.rail with unregCount := 0 } }) ∧
    (s.due = .contactLoss n :: rest →
      sent (.contactLossCountExpiry n) (.failure .contactLoss) { k with rail := { k.rail with contactCount := 0 } }) ∧
    (s.due = .thermallySettled n :: rest → sent (.thermallySettled n) .settled k) ∧
    (s.due = .excursion n :: rest →
      sent (.excursionCountExpiry n) (.failure .excursion) { k with heat := { k.heat with outWindowCount := 0 } }) ∧
    (s.due = .runaway n :: rest →
      sent (.runawayCountExpiry n) (.failure .runaway) { k with heat := { k.heat with runawayCount := 0 } })

/-- A trip and a shed at the SSC (R44, R47): the rail off with its target (log entry 6) and counts at 0, the socket off the order list and its admission
current released, the event reported; the SCU has not moved the socket yet. What is due is carried out by the command that names it (log entry 2). A shed takes the end of the list, sets FEED_SHED
and restarts the over-limit count. -/
def Obligations.TripsAndShedsAtTheSupply : Prop :=
  ∀ n s rest,
    let f := feedOf n
    let released (t : State) := t.due = rest ∧ (∀ m, (t.socket m).scu = (s.socket m).scu) ∧
      (∀ m, m ≠ n → t.socket m = s.socket m) ∧ (t.socket n).rail.output = 0 ∧ (t.socket n).rail.commanded = 0 ∧
      (t.socket n).rail.qualified = false ∧ (t.socket n).rail.motion = .still ∧ (t.socket n).rail.tripFilter = 0 ∧
      (t.socket n).rail.unregCount = 0 ∧ (t.socket n).rail.contactCount = 0 ∧ (t.socket n).rail.qualCount = 0 ∧
      (t.feed f).queue = (s.feed f).queue ∧ t.committed f + s.admission n = s.committed f ∧ t.log = s.log
    (s.due = .trip n :: rest → (s.feed f).order.Nodup → n ∈ (s.feed f).order →
      ∃ t, exec (.trip n) s = .next t ∧ released t ∧ t.reports = s.reports ++ [⟨n, .trip⟩] ∧ t.events = s.events ∧
        (t.feed f).order = (s.feed f).order.erase n) ∧
    (∀ older, s.due = .shed f :: rest → (s.feed f).order = older ++ [n] → n ∉ older →
      ∃ t, exec (.shed f) s = .next t ∧ released t ∧ t.reports = s.reports ++ [⟨n, .shed⟩] ∧
        (t.feed f).order = older ∧ (t.feed f).overCount = 0 ∧
        t.flag .feedShed = { s.flag .feedShed with isSet := true, sockets := (s.flag .feedShed).sockets ||| single n })

/-- Calibrate Sense (R50): a measurement starts from a sum of 0 and the reply waits for its end; an ABSENT socket, one QUEUED or
powered, and one being measured are refused, and a socket number above 15 with BAD_ARG. The end of a measurement (R51): the mean is the sum over 64, truncated toward zero; within 250 mA it becomes the offset and
clears the mark, beyond it sets the mark; the reply, if it is still awaited, carries the mean and the offset in force. The
end is due at a tick (log entry 2), after the tick's sheds (log entry 33). -/
def Obligations.AMeasurementBeginsAndEnds : Prop :=
  (∀ dst n s, s.Hears dst →
    let k := s.socket n
    let refused (r : Status) := exec (.calibrateSense dst [sockCode n]) s = .next (s.heard.answer 0x23#8 r [])
    (k.scu.state = .absent → refused .absent) ∧ (k.scu.state.busy = true → refused .wrongState) ∧
    (k.scu.state ≠ .absent → k.scu.state.busy = false → k.rail.calibration.isSome = true → refused .calibrating) ∧
    (k.scu.state ≠ .absent → k.scu.state.busy = false → k.rail.calibration = none →
      ∃ t, exec (.calibrateSense dst [sockCode n]) s = .next t ∧ t.link.reply = .measuring n ∧
        t.socket n = { k with rail := { k.rail with calibration := some { sum := 0, ticks := 0 } } } ∧
        ∀ m, m ≠ n → t.socket m = s.socket m)) ∧
  (∀ dst b s, s.Hears dst → 15 < b.toNat → exec (.calibrateSense dst [b]) s = .next (s.heard.answer 0x23#8 .badArg [])) ∧
  (∀ n c s rest, s.due = .calibrationEnd n :: rest → (s.socket n).rail.calibration = some c →
    let mean := c.sum.tdiv 64
    let fits := -250 ≤ mean ∧ mean ≤ 250
    ∃ t, exec (.calibrationEnd n) s = .next t ∧ t.due = rest ∧ (t.socket n).rail.calibration = none ∧
      (fits → (t.socket n).rail.offset = mean ∧ (t.socket n).rail.faulted = false) ∧
      (¬fits → (t.socket n).rail.offset = (s.socket n).rail.offset ∧ (t.socket n).rail.faulted = true) ∧
      (s.link.reply = .measuring n → t.link.reply = .pending (t.assemble 0x23#8 (if fits then .ok else .senseFault)
        ([sockCode n] ++ leInt16 mean ++ leInt16 (t.socket n).rail.offset)) none) ∧
      (s.link.reply ≠ .measuring n → t.link = s.link) ∧ (∀ m, m ≠ n → t.socket m = s.socket m))

/-- The SCU's timers (R9, R11, R17): a settle timeout is the failure SETTLE_TIMEOUT of a socket in SETTLE, recorded and flagged as
that cause (R18, R19, R139), to HOLD when attended and, with admission evaluated (log entry 11), to SAFE when not; it is nothing elsewhere; a clean run of 60 s zeroes the trip count and itself. In HOLD both feeds stand,
also where the socket has tripped or been shed at the SSC (log entry 41). What is due is carried out by the command that names it (log entry 2). -/
def Obligations.SettleTimeoutAndCleanRun : Prop :=
  ∀ n s rest,
    (s.due = .settleTimeout n :: rest → (s.socket n).scu.state = .settle →
      ∃ t, exec (.settleTimeout n) s = .next t ∧ t.due = rest ∧ s.OthersStay t n ∧ s.Failed t n .settleTimeout ∧
        (t.socket n).scu.state = (if s.link.mode = .attended then .hold else .safe) ∧
        (s.link.mode = .attended → (∀ f, t.feed f = s.feed f) ∧ t.reports = s.reports) ∧
        (s.link.mode = .unattended → (t.socket n).rail.output = 0 ∧ (t.socket n).heat.duty = 0 ∧
          s.EvaluatedTo t n ((s.feed (feedOf n)).queue.filter (· != n)) ((s.feed (feedOf n)).order.filter (· != n))
            s.reports)) ∧
    (s.due = .settleTimeout n :: rest → (s.socket n).scu.state ≠ .settle →
      exec (.settleTimeout n) s = .next { s with due := rest }) ∧
    (s.due = .cleanRun n :: rest →
      ∃ t, exec (.cleanRunComplete n) s = .next t ∧ t.due = rest ∧ (∀ m, m ≠ n → t.socket m = s.socket m) ∧
        t.socket n = { s.socket n with scu := { (s.socket n).scu with tripCount := 0, cleanRun := 0 } })

/-- The silence timer expires (R21, R162): UNATTENDED, the count at 0, every HOLD socket to SAFE and counted as released, every
other socket where it was, no record; UNATTENDED set with exactly those sockets added. The sockets go in ascending order: each has its
rail, with its target (log entry 6), and its heater off, leaves the order list, and admission is evaluated before the next (R2, R34,
R35, R36, R64; log entry 11). A failure taken while the expiry is under
way finds the board UNATTENDED: its HOLD socket goes to SAFE with a SECONDARY record, and the rest of the expiry, which stays due,
neither counts it nor adds it to the set (log entry 31). What is due is carried out by the command that names it (log entry 2). At most one such expiry is due, which every step keeps
(FirstCausesStayAndNoneIsHeldUnattended). -/
def Obligations.TheLinkSilenceExpires : Prop :=
  let releases (s t : State) := t.log = s.log ∧ (t.flag .unattended).isSet = true ∧
    (∀ e, e ≠ .unattended → t.flag e = s.flag e) ∧
    (∃ u : State, u.ReleasedInTurn allSocks { s with due := t.due, link := t.link } ∧ t = { u with events := t.events }) ∧
    ∀ n, (t.socket n).scu.state = (if (s.socket n).scu.state = .hold then .safe else (s.socket n).scu.state) ∧
      (t.socket n).scu.firstFail = (s.socket n).scu.firstFail ∧
      (t.socket n).account.firstCause = (s.socket n).account.firstCause ∧
      (t.socket n).account.released = (if (s.socket n).scu.state = .hold then
        satInc 65535 (s.socket n).account.released else (s.socket n).account.released) ∧
      SocketSet.has (t.flag .unattended).sockets n =
        (SocketSet.has (s.flag .unattended).sockets n || (s.socket n).scu.state == .hold)
  (∀ s rest, s.due = .linkSilence :: rest →
    ∃ t, exec .linkSilenceExpiry s = .next t ∧ t.due = rest ∧ releases s t ∧
      t.link = { s.link with mode := .unattended, silence := 0 }) ∧
  (∀ n c s rest, s.due = .linkSilence :: rest → s.Waits n (.failure c) → (s.socket n).scu.state = .hold →
    c.runsIn .hold = true →
    ∃ t, exec (.failureReportTaken n c) s = .next t ∧ t.due = .releases :: rest ∧ t.link.mode = .unattended ∧
      t.link.silence = 0 ∧ s.OthersStay t n ∧ (t.socket n).scu.state = .safe ∧
      (t.socket n).account.released = (s.socket n).account.released ∧ t.flag .unattended = s.flag .unattended ∧
      (s.log.records.length < 128 → ∃ r, t.log.records = s.log.records ++ [r] ∧ r.socket = n ∧ r.cause = c ∧
        r.before = .hold ∧ r.disposition = .safe ∧ r.attendance = .unattended ∧
        r.kind = if (s.socket n).scu.firstFail then .secondary else .primary)) ∧
  (∀ s rest, s.due = .releases :: rest → .linkSilence ∉ rest →
    ∃ t, exec .linkSilenceExpiry s = .next t ∧ t.due = rest ∧ t.link = s.link ∧ releases s t)

/-- A pass end (R104, R102, R100): the participants' passes are counted and nobody else's (R111, R113, R114), a failing one noticed (R25),
COMPARE_FAIL reported under the values held for the pass (R112), the entry held and the values held for the next pass (R100, R103, R109), and the rate fixed again (R107); then every settled socket that waits in
SETTLE enters RUN, where the engine is IDLE or the new rate is permitted, and no other socket moves (R8, R102); STOPPING becomes IDLE with its cause; RUN with repeats left goes on with one less; with none left it follows the link: to nothing, or to a disabled entry,
SEQUENCE_END; to an entry over a page not GOOD, STORE_FAULT; else to the entry, whose loop head counts. What is due is carried out by the command
that names it (log entry 2). Both feeds stand, also where a socket that enters RUN has tripped or been shed at the SSC (log entry 41). -/
def Obligations.APassEnds : Prop :=
  StopReason.stopRequest.cause = .stopRequest ∧ StopReason.storeFault.cause = .storeFault ∧
  ∀ s rest, s.due = .passEnd :: rest → s.engine.state ≠ .idle →
    ∃ t, exec .passEnd s = .next t ∧ t.due = rest ∧ t.log = s.log ∧ t.store = s.store ∧ (∀ f, t.feed f = s.feed f) ∧
      (t.engine.state = .idle → (s.WaitersRun t fun _ => true) ∧
        ∀ n, (t.socket n).lane.result.compared = false ∧ (t.socket n).lane.result.candidate = none) ∧
      (t.engine.state ≠ .idle → s.WaitersRun t fun n => s.permits n t.engine.rate) ∧
      (∀ n, (t.socket n).credit = (s.socket n).credit ∧ ((t.socket n).scu.state = (s.socket n).scu.state →
        (t.socket n).rail = (s.socket n).rail ∧ (t.socket n).heat = (s.socket n).heat ∧
        (t.socket n).account = (s.socket n).account)) ∧
      (∀ n,
        let l := (s.socket n).lane
        let l' := (t.socket n).lane
        let same := l'.comparedPasses = l.comparedPasses ∧ l'.totalFailing = l.totalFailing ∧
          l'.consecutiveFailing = l.consecutiveFailing ∧ l'.captures = l.captures ∧ l'.truncated = l.truncated
        let part := SocketSet.has s.engine.participants n
        let reported := ⟨n, .failure .compareFail⟩ ∈ s.reports
        l'.profile = l.profile ∧ l'.written = l.written ∧ (part = false ∨ l.result.compared = false → same) ∧
        (part = true → l.result.compared = true → l.result.candidate = none →
          l'.comparedPasses = min 4294967295 (l.comparedPasses + 1) ∧ l'.totalFailing = l.totalFailing ∧
          l'.consecutiveFailing = 0 ∧ l'.captures = l.captures ∧ l'.truncated = l.truncated) ∧
        (∀ c, part = true → l.result.compared = true → l.result.candidate = some c →
          l'.comparedPasses = min 4294967295 (l.comparedPasses + 1) ∧ l'.totalFailing = min 65535 (l.totalFailing + 1) ∧
          l'.consecutiveFailing = min 65535 (l.consecutiveFailing + 1) ∧
          l'.captures = (if l.captures.length < 8 then l.captures ++ [c]
            else l.captures.drop (l.captures.length - 7) ++ [c]) ∧
          l'.truncated = (l.truncated || decide (8 ≤ l.captures.length))) ∧
        (t.socket n).scu.failingPassSinceRead = ((s.socket n).scu.failingPassSinceRead ||
          (part && l.result.compared && l.result.candidate.isSome)) ∧
        (⟨n, .failure .compareFail⟩ ∈ t.reports ↔ reported ∨ (part = true ∧ (l.heldThreshold ≤ l'.consecutiveFailing ∨
          (l.heldTolerance < 65535 ∧ l.heldTolerance < l'.totalFailing))))) ∧
      (let idle (cause : StopCause) := t.engine.state = .idle ∧ t.engine.lastStop = cause ∧ t.engine.current = none ∧
          t.engine.repeatsLeft = 0 ∧ t.engine.participants = 0#16 ∧ t.engine.stimulus = 0#16 ∧
          t.engine.loopIndex = s.engine.loopIndex ∧ t.IsHighestRate t.engine.rate
        let goesOn := t.engine.state = .run ∧ t.engine.applied = 0 ∧ s.IsHighestRate t.engine.rate ∧ s.PassStarted t ∧
          ∀ n, SocketSet.has t.engine.participants n = ((t.socket n).scu.state == .run) ∧
            (SocketSet.has s.engine.participants n = false → SocketSet.has t.engine.participants n = false →
              (t.socket n).lane = (s.socket n).lane)
        (∀ reason, s.engine.state = .stopping reason → idle reason.cause ∧ t.events = s.events) ∧
        (s.engine.state = .run → 1 < s.engine.repeatsLeft →
          goesOn ∧ t.engine.repeatsLeft = s.engine.repeatsLeft - 1 ∧ t.engine.current = s.engine.current ∧
            t.engine.held = s.engine.held ∧
            t.engine.loopIndex = s.engine.loopIndex ∧ t.events = s.events) ∧
        (s.engine.state = .run → s.engine.repeatsLeft ≤ 1 →
          (s.engine.held.link = none → idle .sequenceEnd ∧ (t.flag .sequenceEnd).isSet = true) ∧
          (∀ e, s.engine.held.link = some e →
            let entry := s.engine.table.get e
            (entry.enabled = false → idle .sequenceEnd ∧ (t.flag .sequenceEnd).isSet = true) ∧
            (entry.enabled = true → (∃ p ∈ entry.pages, s.store.condition p ≠ .good) →
              idle .storeFault ∧ (t.flag .storeFault).isSet = true) ∧
            (entry.enabled = true → (∀ p ∈ entry.pages, s.store.condition p = .good) →
              goesOn ∧ t.engine.current = some e ∧ t.engine.held = entry ∧ t.engine.repeatsLeft = entry.repeats ∧ t.events = s.events ∧
                t.engine.loopIndex =
                  (if entry.loopHead then satInc 4294967295 s.engine.loopIndex else s.engine.loopIndex)))))

/-! ### Ticks, vectors and upsets -/

/-- A sample tick (R33, R37 to R46, R50): every position is sensed; the rails of the order lists, and no others, are stepped and
monitored, and an expiry of any other rail is not due; a count or timer that reaches its limit makes its expiry due; a rail that qualifies at the tick does not time out at it (log
entry 9). What is due stands in order: the rails of feed A in ascending order and its shed, those of feed B and its shed, the ends
of measurements (log entry 33). A feed's measured current sums its order list less the sockets that trip at the tick (R46; log entry 10);
unqualified-since-read is set where a powered socket's rail is not qualified, the tick's own qualification and its trip counted
and its shed not (R25; log entry 20). No socket's state and no list changes: what the tick makes due is carried out after it (log entry 2).
Sample ticks go on in a reload (log entry 26). -/
def Obligations.ASampleTick : Prop :=
  (∀ m : Motion, m.isMove = true ↔ ∃ k limit, m = .move k limit) ∧
  ∀ readings s, s.due = [] → s.phase ≠ .starting →
    ∃ t, exec (.sampleTick readings) s = .next t ∧ t.reports = s.reports ∧ t.events = s.events ∧ t.log = s.log ∧
      t.engine = s.engine ∧ t.link = s.link ∧ t.clock = s.clock ∧
      t.due = s.feedDue t .a ++ s.feedDue t .b ++
        ((List.finRange 16).filter fun n => (t.socket n).rail.calibration.any fun c => c.ticks == 64).map .calibrationEnd ∧
      (∀ f, (t.feed f).queue = (s.feed f).queue ∧ (t.feed f).order = (s.feed f).order ∧
        (t.feed f).measured = (((s.feed f).order.filter fun n => decide ((t.socket n).rail.tripFilter ≠ 3)).map fun n =>
          (t.socket n).rail.sensedMa).sum ∧
        (t.feed f).overCount = (if (s.feed f).limit < (t.feed f).measured then min 50 ((s.feed f).overCount + 1) else 0)) ∧
      ∀ n,
        let r := (s.socket n).rail
        let r' := (t.socket n).rail
        let band := max 20 (r.commanded * 2 / 100)
        let good := decide (r'.sensedMv ≤ r.commanded + band ∧ r.commanded ≤ r'.sensedMv + band)
        (t.socket n).scu.state = (s.socket n).scu.state ∧ (t.socket n).heat = (s.socket n).heat ∧
        (t.socket n).credit = (s.socket n).credit ∧ (t.socket n).lane = (s.socket n).lane ∧
        r'.sensedMv = (readings.get n).mv ∧ r'.sensedMa = (max 0 (min 25500 ((readings.get n).ma - r.offset))).toNat ∧
        r'.offset = r.offset ∧ r'.commanded = r.commanded ∧
        (t.socket n).scu.unqualifiedSinceRead = ((s.socket n).scu.unqualifiedSinceRead ||
          ((s.socket n).scu.state.powered &&
            !((r'.qualified || (s.inOrder n && r'.qualCount == 20)) && !(s.inOrder n && r'.tripFilter == 3)))) ∧
        r'.calibration = (r.calibration.map fun c =>
          if c.ticks < 64 then { sum := c.sum + (readings.get n).ma, ticks := c.ticks + 1 } else c) ∧
        (s.inOrder n = false → r'.output = r.output ∧ r'.qualified = r.qualified ∧ r'.qualCount = r.qualCount ∧
          r'.tripFilter = r.tripFilter ∧ r'.motion = r.motion ∧ r'.unregCount = r.unregCount ∧
          r'.contactCount = r.contactCount ∧ (t.socket n).account.peakMa = (s.socket n).account.peakMa) ∧
        (s.inOrder n = true →
          r'.output = (if r.output < r.commanded then min r.commanded (r.output + r.profile.slew)
            else max r.commanded (r.output - r.profile.slew)) ∧
          r'.qualCount = (if good then min 20 (r.qualCount + 1) else 0) ∧ r'.qualified = (r.qualified && good) ∧
          r'.tripFilter = (if min r.profile.trip s.identity.tripMax < r'.sensedMa then min 3 (r.tripFilter + 1) else 0) ∧
          (t.socket n).account.peakMa = max (s.socket n).account.peakMa r'.sensedMa ∧
          r'.unregCount = (if (s.socket n).scu.state ∈ [.settle, .run, .pause, .hold] ∧ r.motion.isMove = false ∧ good = false then
            min 100 (r.unregCount + 1) else 0) ∧
          r'.contactCount = (if (s.socket n).scu.state = .run ∧ r'.sensedMa < r.profile.under then
            min 1000 (r.contactCount + 1) else 0) ∧
          (r.motion = .still → r'.motion = .still) ∧
          (∀ k limit, r.motion = .ramp k limit → r'.motion = .ramp (k + 1) limit) ∧
          ∀ k limit, r.motion = .move k limit → r'.motion = .move (k + 1) limit)

/-- The scaling of demands to a budget (R66, R67): demands that fit are the duties; otherwise each duty is the demand's truncated
share, and the leftover, always fewer than the demands above 0, goes out one per-mille each to them in ascending order. The
duties then sum exactly to the budget and none is above its demand. -/
def Obligations.ScalingIsExact : Prop :=
  (∀ s : State, s.demands = (List.finRange 16).map fun n => (s.socket n).heat.demand) ∧
  ∀ budget demands,
    let share (d : Nat) := d * budget / demands.sum
    let left := budget - (demands.map share).sum
    let above (l : List Nat) := (l.filter fun d => decide (0 < d)).length
    let duties := scaleDuties budget demands
    (demands.sum ≤ budget → duties = demands) ∧
    (budget < demands.sum → left < above demands ∧ duties.sum = budget ∧ duties.length = demands.length ∧
      ∀ (i : Nat) (d : Nat), demands[i]? = some d →
        (0 < d → share d < d) ∧ share d + (if 0 < d ∧ above (demands.take i) < left then 1 else 0) ≤ d ∧
        duties[i]? = some (share d + (if 0 < d ∧ above (demands.take i) < left then 1 else 0)))

/-- A thermal tick (R56 to R58, R61 to R64, R66, R68): readings of populated sockets are held when plausible; the verdict follows the
held temperature; heaters get the shares of the budget that ScalingIsExact gives (R66, R67), which
sum to the lesser of budget and demands, none above its demand; a socket not heated
demands and gets nothing. What the scaling found is remembered (log entry 40). No socket's state, feed or credit changes. -/
def Obligations.AThermalTick : Prop :=
  ∀ readings s, s.due = [] → s.phase = .running →
    ∃ t, exec (.thermalTick readings) s = .next t ∧ t.log = s.log ∧ (∀ f, t.feed f = s.feed f) ∧ t.budget = s.budget ∧
      t.engine = s.engine ∧ t.link = s.link ∧ t.dutySum = min s.budget t.demands.sum ∧
      (allSocks.map fun n => (t.socket n).heat.duty) = scaleDuties s.budget t.demands ∧
      ∀ n,
        let h := (s.socket n).heat
        let h' := (t.socket n).heat
        let raw := readings.get n
        let plain := -500 ≤ raw ∧ raw ≤ 2500 ∧ ∀ held, h.held = some held → raw - held ≤ 200 ∧ held - raw ≤ 200
        (t.socket n).scu.state = (s.socket n).scu.state ∧ (t.socket n).credit = (s.socket n).credit ∧
        (t.socket n).rail = (s.socket n).rail ∧ h'.profile = h.profile ∧ h'.duty ≤ h'.demand ∧
        h'.limited = decide (h'.duty < h'.demand) ∧ h'.lastLimited = h'.limited ∧ h'.demand ≤ 1000 ∧
        ((s.socket n).scu.state = .absent → h'.held = h.held ∧ h'.inWindow = h.inWindow) ∧
        ((s.socket n).scu.state ≠ .absent → plain → h'.held = some raw ∧ h'.implausible = 0) ∧
        ((s.socket n).scu.state ≠ .absent → ¬plain → h'.held = h.held ∧ h'.implausible = min 3 (h.implausible + 1)) ∧
        ((s.socket n).scu.state ≠ .absent → (h'.inWindow = true ↔
          ∃ held, h'.held = some held ∧ h.profile.setpoint - h.profile.low ≤ held ∧ held ≤ h.profile.setpoint + h.profile.high)) ∧
        ((s.socket n).scu.state.powered = false → h'.demand = 0 ∧ h'.duty = 0 ∧ h'.accumulator = 0) ∧
        ((s.socket n).scu.state.powered = true → h'.held = none → h'.demand = 0 ∧ h'.accumulator = h.accumulator) ∧
        (∀ held, (s.socket n).scu.state.powered = true → h'.held = some held →
          let e := h.profile.setpoint - held
          let p := (h.profile.kp * e).tdiv 16
          let tried := max (-256000) (min 256000 (h.accumulator + h.profile.ki * e))
          let wanted := p + tried.tdiv 256
          let discard := (1000 < wanted ∧ 0 < e) ∨ (wanted < 0 ∧ e < 0) ∨ (0 < e ∧ h.limited = true)
          h'.accumulator = (if discard then h.accumulator else tried) ∧
          (h'.demand : Int) = max 0 (min 1000 (p + h'.accumulator.tdiv 256)))

/-- The TRU's monitors at a thermal tick (R25, R58 to R60, R68, R70 to R73): the three counts and what they make due, the
OVER_TEMP and SENSOR_FAULT reports, in the order of R74 for each socket, the notice that a socket is no longer settled, the peak held
temperature, the latched indications, and WINDOW_EDGE (log entry 23) and HEATER_LIMITED with the sockets they gain. HEATER_LIMITED is set where
the last scaling found no socket limited, those that have left the heated states since included (log entry 40).
What is due is carried out in its order (log entry 2). The notice stands behind the reports of its tick (R74): it clears the settled mark at once, or after
the reports of the TRU about the socket that wait (log entry 27). A report of the TRU with a notice behind it is taken as if alone, and
the notice with it, which clears the mark; a report about another socket leaves the notice and the socket's record, its mark too, as they
are. -/
def Obligations.AThermalTickWatches : Prop :=
  (∀ n (s : State), (∀ r ∈ s.reports, r.socket = n → r.kind.sender ≠ .tru) → ∃ t, s.fire (.notSettled n) = t ∧
    (t.socket n).scu.settledMark = false ∧ t.reports = s.reports ∧ ∀ m, m ≠ n → t.socket m = s.socket m) ∧
  (∀ n (s : State), (∃ r ∈ s.reports, r.socket = n ∧ r.kind.sender = .tru) →
    s.fire (.notSettled n) = { s with reports := s.reports ++ [⟨n, .notSettled⟩] }) ∧
  (∀ n s, s.due = [] → s.reports = [⟨n, .settled⟩, ⟨n, .notSettled⟩] →
    ∃ t, exec (.settledReportTaken n) s = .next t ∧ t.reports = [] ∧ (t.socket n).scu.settledMark = false) ∧
  (∀ c n kind s before between after u, reportOfRow c = some ⟨n, kind⟩ → kind.sender = .tru → s.due = [] →
    s.reports = before ++ ⟨n, kind⟩ :: (between ++ ⟨n, .notSettled⟩ :: after) →
    (∀ r ∈ before ++ between, r.socket = n → r.kind.sender ≠ .tru) →
    exec c { s with reports := before ++ ⟨n, kind⟩ :: (between ++ after) } = .next u →
    ∃ t, exec c s = .next t ∧ t = { u with sockets := t.sockets } ∧ (∀ m, m ≠ n → t.socket m = u.socket m) ∧
      t.socket n = { u.socket n with scu := { (u.socket n).scu with settledMark := false } }) ∧
  (∀ c r s, reportOfRow c = some r → s.due = [] →
    ∃ t, exec c s = .next t ∧ ∀ m, m ≠ r.socket → (t.socket m).scu = (s.socket m).scu ∧
      (t.reports.filter fun x => x.socket == m && x.kind.sender == .tru) =
        (s.reports.filter fun x => x.socket == m && x.kind.sender == .tru)) ∧
  ∀ readings s, s.due = [] → s.phase = .running →
    ∃ t, exec (.thermalTick readings) s = .next t ∧
      let edge (n : Sock) :=
        let h := (s.socket n).heat
        let h' := (t.socket n).heat
        (s.socket n).scu.state.powered && h.heatedBefore && ((h'.inWindow && !h.inWindow &&
            (h.profile.edge == .enter || h.profile.edge == .both)) ||
          (!h'.inWindow && h.inWindow && (h.profile.edge == .leave || h.profile.edge == .both)))
      let begins := (∀ n, (s.socket n).heat.lastLimited = false) ∧
        ∃ n, (t.socket n).heat.limited = true;
      (begins → (t.flag .heaterLimited).isSet = true ∧ ∀ n, SocketSet.has (t.flag .heaterLimited).sockets n =
        (SocketSet.has (s.flag .heaterLimited).sockets n || (t.socket n).heat.limited)) ∧
      (¬begins → t.flag .heaterLimited = s.flag .heaterLimited) ∧
      ((t.flag .windowEdge).isSet = true ↔ (s.flag .windowEdge).isSet = true ∨ ∃ n, edge n = true) ∧
      (∀ e, e ≠ .heaterLimited → e ≠ .windowEdge → t.flag e = s.flag e) ∧
      (∀ e ∈ t.due, ∃ n, e ∈ [.runaway n, .excursion n, .thermallySettled n, .notSettled n]) ∧
      ∀ n,
        let st := (s.socket n).scu.state
        let h := (s.socket n).heat
        let h' := (t.socket n).heat
        h'.inWindowCount = (if st = .settle ∧ h'.inWindow = true then min 8 (h.inWindowCount + 1) else 0) ∧
        h'.outWindowCount = (if st = .run ∧ h.profile.excursionLimit ≠ 0 ∧ h'.inWindow = false then
          min 28800 (h.outWindowCount + 1) else 0) ∧
        (∀ now before, st.powered = true → h'.held = some now → h.held = some before → h'.runawayCount =
          (if h'.demand = 0 ∧ h.profile.setpoint + h.profile.runawayMargin < now ∧ before ≤ now then
            min 16 (h.runawayCount + 1) else 0)) ∧
        (st.powered = false ∨ h.held = none ∨ h'.held = none → h'.runawayCount = 0) ∧
        (t.due.filter fun e => e ∈ [.runaway n, .excursion n, .thermallySettled n, .notSettled n]) =
          (if h'.runawayCount = 16 then [.runaway n] else []) ++
          (if h'.outWindowCount ≠ 0 ∧ 8 * h.profile.excursionLimit ≤ h'.outWindowCount then [.excursion n] else []) ++
          (if h'.inWindowCount = 8 ∧ h.inWindowCount ≠ 8 then [.thermallySettled n] else []) ++
          (if st = .settle ∧ h'.inWindow = false ∧ (h.inWindowCount = 8 ∨ (s.socket n).scu.settledMark = true) then
            [.notSettled n] else []) ∧
        (t.reports.filter fun r => r.socket == n) = (s.reports.filter fun r => r.socket == n) ++
          (if st.powered = true ∧ (h'.held.any fun held => decide (h.profile.overTemp ≤ held)) = true then
            [⟨n, .failure .overTemp⟩] else []) ++
          (if st.powered = true ∧ h'.implausible = 3 then [⟨n, .failure .sensorFault⟩] else []) ∧
        (t.socket n).scu.settledMark = (s.socket n).scu.settledMark ∧
        (∀ held, st.powered = true → h'.held = some held →
          (t.socket n).account.peakTemp = max (s.socket n).account.peakTemp held) ∧
        (st.powered = false ∨ h'.held = none → (t.socket n).account = (s.socket n).account) ∧
        (t.socket n).scu.inWindowThroughout =
          ((s.socket n).scu.inWindowThroughout && (!st.powered || h'.inWindow)) ∧
        (t.socket n).scu.heaterLimitedSinceRead = ((s.socket n).scu.heaterLimitedSinceRead || h'.limited) ∧
        h'.heatedBefore = st.powered ∧
        SocketSet.has (t.flag .windowEdge).sockets n = (SocketSet.has (s.flag .windowEdge).sockets n || edge n)

/-- A second tick (R9, R11, R124 to R128, R160, R180): the clock counts; a socket in RUN that is eligible accrues by the factor of its held
temperature and the residue carries, the factor by R123: that of an end point outside the table, else interpolated and
truncated toward zero; every second in RUN is counted; no other socket's credit or counts change; a target met by a socket in RUN
is reported, and no other report is sent; the settle timer and the clean-run count run, and make their expiries due. What is due
stands in order, the timers of the sockets in ascending order before the link silence (log entry 42), and is carried out after the tick (log
entry 2). The accrual and the timers of a tick come before its scrub, which may stop the engine (log entry 8), and a SETTLE socket with its
timeout reached may then run (log entry 34). Second ticks go on in a reload (log entry 26). -/
def Obligations.ASecondTick : Prop :=
  ∀ s, s.due = [] → s.phase ≠ .starting →
    ∃ t, exec .secondTick s = .next t ∧ t.clock = (s.clock + 1) % 4294967296 ∧ t.log = s.log ∧
      (s.link.mode = .unattended → t.link = s.link) ∧
      (s.link.mode = .attended → t.link = { s.link with silence := min 7200 (s.link.silence + 1) }) ∧
      (∀ f, t.feed f = s.feed f) ∧
      t.reports = s.reports ++
        ((List.finRange 16).filter fun n => (s.socket n).scu.state == .run && (t.socket n).credit.target != 0 &&
          decide ((t.socket n).credit.target ≤ (t.socket n).credit.credit)).map (fun n => ⟨n, .target⟩) ∧
      (let timers (n : Sock) : List Expiry :=
          (if (s.socket n).scu.state = .settle ∧ (s.socket n).heat.profile.settleTimeout ≤ (t.socket n).scu.settleTimer then
            [.settleTimeout n] else []) ++
          (if (s.socket n).scu.state = .run ∧ (t.socket n).scu.cleanRun = 60 then [.cleanRun n] else [])
        let limit := if s.link.silenceParam = 0#8 then 7200 else 5 * s.link.silenceParam.toNat
        t.due = ((List.finRange 16).map timers).flatten ++
          (if s.link.mode = .attended ∧ limit ≤ t.link.silence then [.linkSilence] else [])) ∧
      ∀ n,
        let k := s.socket n
        let k' := t.socket n
        let inRun := k.scu.state = .run
        let eligible := inRun ∧ s.engine.state ≠ .idle ∧ k.rail.qualified = true ∧ k.heat.inWindow = true
        let sum := k.credit.residue + s.tickFactor n
        let points := s.factors.active
        (∀ held, k.heat.held = some held →
          (∀ p ∈ points.head?, held ≤ p.temp → s.tickFactor n = p.factor) ∧
          (∀ p ∈ points.head?, p.temp < held →
            (∀ last ∈ points.getLast?, (∀ q ∈ points, q.temp ≤ held) → s.tickFactor n = last.factor) ∧
            ∀ before a b after, points = before ++ a :: b :: after → (∀ q ∈ before, q.temp ≤ held) → a.temp ≤ held →
              held < b.temp → (s.tickFactor n : Int) =
                max 0 (a.factor + (((b.factor : Int) - a.factor) * (held - a.temp)).tdiv (b.temp - a.temp)))) ∧
        (eligible → k'.credit.credit = min 4294967295 (k.credit.credit + sum / 256) ∧ k'.credit.residue = sum % 256) ∧
        (¬eligible → k'.credit = k.credit) ∧ k'.credit.target = k.credit.target ∧
        (¬inRun → k'.account.runSeconds = k.account.runSeconds ∧ k'.account.accruedSeconds = k.account.accruedSeconds ∧
          k'.account.outSeconds = k.account.outSeconds) ∧
        (inRun → k'.account.runSeconds = satInc 4294967295 k.account.runSeconds ∧
          (eligible → k'.account.accruedSeconds = satInc 4294967295 k.account.accruedSeconds) ∧
          (¬eligible → k'.account.accruedSeconds = k.account.accruedSeconds) ∧
          k'.account.outSeconds = (if k.heat.inWindow = true then k.account.outSeconds
            else satInc 4294967295 k.account.outSeconds)) ∧
        k'.scu.settleTimer =
          (if k.scu.state = .settle then satInc 65535 k.scu.settleTimer else k.scu.settleTimer) ∧
        k'.scu.cleanRun = (if k.scu.state = .run then satInc 60 k.scu.cleanRun else k.scu.cleanRun)

/-- One vector period (R78, R98, R103, R110): the vector's drive pattern is on the lines from the step on (log entry 43), each participant is compared and nobody else,
and the last vector of the block makes the pass end due (log entry 2). With no pass in progress nothing is applied (log entry
4). The vector of index i is the five bytes from 5 i, which all read as zero while its page is UNLOADED: the drive pattern low byte
first, the expected response, the care mask, and the compare flag in bit 0 of the last (R78, R79, R81). An upset changes stored content and no condition (R82), on an UNLOADED page too (log
entry 22), and any bit of a flag byte (log entry 39). -/
def Obligations.VectorsAndUpsets : Prop :=
  (∀ e responses s, s.due = [] → s.engine.current = some e →
    let index := s.engine.held.start + s.engine.applied
    let byte (k : Nat) : Byte :=
      if s.store.condition (Fin.ofNat 64 (index / 64)) = .unloaded then 0#8 else Mem.read s.store.mem (5 * index + k)
    let expected := byte 2
    let compared := (byte 4).getLsbD 0
    ∃ t, exec (.vectorStep responses) s = .next t ∧
      t.engine =
        { s.engine with
            stimulus := byte 1 ++ byte 0,
            applied := s.engine.applied + 1 } ∧
      (.passEnd ∈ t.due ↔ s.engine.applied + 1 = s.engine.held.length) ∧ t.store = s.store ∧ t.reports = s.reports ∧
      ∀ n,
        let l := (s.socket n).lane
        let l' := (t.socket n).lane
        let mask := byte 3 &&& l.heldLanes
        (t.socket n).scu = (s.socket n).scu ∧ l'.comparedPasses = l.comparedPasses ∧ l'.captures = l.captures ∧
        (SocketSet.has s.engine.participants n = false → l' = l) ∧
        (SocketSet.has s.engine.participants n = true → (compared = false ∨ mask = 0#8) → l' = l) ∧
        (SocketSet.has s.engine.participants n = true → compared = true → mask ≠ 0#8 →
          l'.result.compared = true ∧
          (l.result.candidate.isSome = true → l'.result.candidate = l.result.candidate) ∧
          (l.result.candidate = none → l'.result.candidate =
            (if (responses.get n ^^^ expected) &&& mask = 0#8 then none
            else some
              { loopIndex := s.engine.loopIndex, entry := e, vector := index, observed := responses.get n, expected, mask })))) ∧
  (∀ responses s, s.due = [] → s.engine.current = none → exec (.vectorStep responses) s = .next s) ∧
  (∀ a v s, s.due = [] → s.MemoryOk →
    ∃ t, exec (.storeUpset (.vectorByte a v)) s = .next t ∧ t.store.conditions = s.store.conditions ∧
      t.store.checks = s.store.checks ∧ t.sockets = s.sockets ∧ t.engine = s.engine ∧ t.events = s.events ∧
      ∀ x, Mem.read t.store.mem x = (if x = a.val then v else Mem.read s.store.mem x)) ∧
  (∀ p w s, s.due = [] →
    ∃ t, exec (.storeUpset (.checkWord p w)) s = .next t ∧ t.store.conditions = s.store.conditions ∧
      t.store.mem = s.store.mem ∧ t.events = s.events ∧
      ∀ q, t.store.checks.get q = (if q = p then w else s.store.checks.get q))

/-! ### Profiles, ceiling, limits and budget -/

/-- Write Rail, Thermal and Test Profile (R26, R54, R108, R109): a profile that passes its checks is stored and marked written,
and the reply carries it as stored; one that fails, and a socket number above 15, is refused with BAD_ARG; a QUEUED or powered socket refuses a rail profile,
whatever its fields hold (log entry 14).
Nothing else changes, but that the CAU's target follows a test profile. -/
def Obligations.ProfilesAreStored : Prop :=
  (∀ dst b p s, s.Hears dst → 15 < b.toNat →
    (p.length = 11 → exec (.writeRailProfile dst (b :: p)) s = .next (s.heard.answer 0x20#8 .badArg [])) ∧
    (p.length = 15 → exec (.writeThermalProfile dst (b :: p)) s = .next (s.heard.answer 0x28#8 .badArg [])) ∧
    (p.length = 8 → exec (.writeTestProfile dst (b :: p)) s = .next (s.heard.answer 0x3B#8 .badArg []))) ∧
  ∀ dst n p s, s.Hears dst →
    let k := s.socket n
    let arg := sockCode n :: p
    let stores (c : Instr) (kind : Byte) (k' : Socket) (sent : List Byte) :=
      ∃ t, exec c s = .next t ∧ t.socket n = k' ∧ (∀ m, m ≠ n → t.socket m = s.socket m) ∧ (∀ f, t.feed f = s.feed f) ∧
        t.engine = s.engine ∧ t.events = s.events ∧ t.log = s.log ∧
        t.link.reply = .pending (t.assemble kind .ok sent) none
    let bad (c : Instr) (kind : Byte) := exec c s = .next (s.heard.answer kind .badArg [])
    (p.length = 11 → k.scu.state.busy = true →
      exec (.writeRailProfile dst arg) s = .next (s.heard.answer 0x20#8 .wrongState [])) ∧
    (p.length = 11 → k.scu.state.busy = false →
      (readRailProfile s.identity.tripMax p = none → bad (.writeRailProfile dst arg) 0x20#8) ∧
      (∀ r, readRailProfile s.identity.tripMax p = some r → stores (.writeRailProfile dst arg) 0x20#8
        { k with rail := { k.rail with profile := r, written := true } } (writeRailBytes r))) ∧
    (p.length = 15 →
      (readThermalProfile p = none → bad (.writeThermalProfile dst arg) 0x28#8) ∧
      (∀ r, readThermalProfile p = some r → stores (.writeThermalProfile dst arg) 0x28#8
        { k with heat := { k.heat with profile := r, written := true } } (writeThermalBytes r))) ∧
    (p.length = 8 →
      (readTestProfile p = none → bad (.writeTestProfile dst arg) 0x3B#8) ∧
      (∀ r, readTestProfile p = some r → stores (.writeTestProfile dst arg) 0x3B#8
        { k with
            lane := { k.lane with profile := r, written := true },
            credit := { k.credit with target := r.target } } (writeTestBytes r)))

/-- What a reply sends of a profile, an entry or a link is what a request would carry to store it (R26, R54, R93, R108, section
11.4): every rail profile within its limits, with rate 1 and no trip current above the maximum; every thermal and test profile;
every sequence entry, its length and repeat count in their encoded form. Conversely bytes are read exactly when they lie within the limits of their rule, and what is read is what they give; a rail profile's trip current is clamped and its rate 1
added, and the undefined bits of an entry's first byte are not looked at (R183). That Kp and Ki are unsigned bytes is the model's
reading of R54 against R183 (log entry 38). -/
def Obligations.ProfilesReadBackAsSent : Prop :=
  (∀ m (r : RailProfile), m ≤ 25000 → 400 ≤ r.setpoint → r.setpoint ≤ 5000 → 1 ≤ r.slew → r.slew ≤ 250 → r.admission ≤ 25000 →
    100 ≤ r.trip → r.trip ≤ m → r.under ≤ 25000 → r.under < r.trip → r.retries ≤ 7 → r.rates.getLsbD 0 = true →
    readRailProfile m (writeRailBytes r) = some r ∧ (writeRailBytes r).length = 11) ∧
  (∀ r : ThermalProfile, -400 ≤ r.setpoint → r.setpoint ≤ 2000 → 1 ≤ r.low → r.low ≤ 200 → 1 ≤ r.high → r.high ≤ 200 →
    r.setpoint + r.high ≤ r.overTemp → r.overTemp ≤ 2500 → 10 ≤ r.runawayMargin → r.runawayMargin ≤ 500 →
    10 ≤ r.settleTimeout → r.settleTimeout ≤ 65535 → r.excursionLimit ≤ 3600 → r.kp ≤ 255 → r.ki ≤ 255 →
    readThermalProfile (writeThermalBytes r) = some r ∧ (writeThermalBytes r).length = 15) ∧
  (∀ r : TestProfile, 1 ≤ r.threshold → r.threshold ≤ 16 → r.tolerance ≤ 65535 → r.target ≤ 4294967295 →
    readTestProfile (writeTestBytes r) = some r ∧ (writeTestBytes r).length = 8) ∧
  (∀ e : SeqEntry, e.start ≤ 4095 → 1 ≤ e.length → e.length ≤ 256 → e.start + e.length ≤ 4096 → 1 ≤ e.repeats →
    e.repeats ≤ 65536 → readEntry (writeEntryBytes e) = some e ∧ (writeEntryBytes e).length = 7) ∧
  (∀ m p r, readRailProfile m p = some r →
    400 ≤ r.setpoint ∧ r.setpoint ≤ 5000 ∧ 1 ≤ r.slew ∧ r.slew ≤ 250 ∧ r.admission ≤ 25000 ∧ 100 ≤ nat16 p 5 ∧
      r.under ≤ 25000 ∧ r.under < r.trip ∧ r.retries ≤ 7 ∧ nat8 p 10 < 16 ∧ r.setpoint = nat16 p 0 ∧ r.slew = nat8 p 2 ∧
      r.admission = nat16 p 3 ∧ r.trip = min (nat16 p 5) m ∧ r.under = nat16 p 7 ∧ r.retries = nat8 p 9 ∧
      ∀ i : Fin 4, r.rates.getLsbD i.val = (i == 0 || (byteAt p 10).getLsbD i.val)) ∧
  (∀ p r, readThermalProfile p = some r →
    -400 ≤ r.setpoint ∧ r.setpoint ≤ 2000 ∧ 1 ≤ r.low ∧ r.low ≤ 200 ∧ 1 ≤ r.high ∧ r.high ≤ 200 ∧
      r.setpoint + r.high ≤ r.overTemp ∧ r.overTemp ≤ 2500 ∧ 10 ≤ r.runawayMargin ∧ r.runawayMargin ≤ 500 ∧
      10 ≤ r.settleTimeout ∧ r.excursionLimit ≤ 3600 ∧ r.setpoint = int16 p 0 ∧ r.low = nat8 p 2 ∧ r.high = nat8 p 3 ∧
      r.overTemp = int16 p 4 ∧ r.runawayMargin = nat16 p 6 ∧ r.settleTimeout = nat16 p 8 ∧ r.excursionLimit = nat16 p 10 ∧
      r.kp = nat8 p 12 ∧ r.ki = nat8 p 13 ∧ r.edge.code = byteAt p 14) ∧
  (∀ p r, readTestProfile p = some r → 1 ≤ r.threshold ∧ r.threshold ≤ 16 ∧ r.lanes = byteAt p 0 ∧ r.threshold = nat8 p 1 ∧
    r.tolerance = nat16 p 2 ∧ r.target = nat32 p 4) ∧
  (∀ p e, readEntry p = some e →
    e.start ≤ 4095 ∧ 1 ≤ e.length ∧ e.length ≤ 256 ∧ e.start + e.length ≤ 4096 ∧ 1 ≤ e.repeats ∧ e.repeats ≤ 65536 ∧
      e.enabled = (byteAt p 0).getLsbD 0 ∧ e.loopHead = (byteAt p 0).getLsbD 1 ∧ e.start = nat16 p 1 ∧
      e.length % 256 = nat8 p 3 ∧ e.repeats % 65536 = nat16 p 4 ∧ orNone e.link = byteAt p 6 ∧
      (byteAt p 6 = 255#8 ∨ (byteAt p 6).toNat ≤ 31)) ∧
  (∀ m p, (readRailProfile m p).isSome = true ↔
    400 ≤ nat16 p 0 ∧ nat16 p 0 ≤ 5000 ∧ 1 ≤ nat8 p 2 ∧ nat8 p 2 ≤ 250 ∧ nat16 p 3 ≤ 25000 ∧ 100 ≤ nat16 p 5 ∧
      nat16 p 7 ≤ 25000 ∧ nat16 p 7 < min (nat16 p 5) m ∧ nat8 p 9 ≤ 7 ∧ nat8 p 10 < 16) ∧
  (∀ p, (readThermalProfile p).isSome = true ↔
    -400 ≤ int16 p 0 ∧ int16 p 0 ≤ 2000 ∧ 1 ≤ nat8 p 2 ∧ nat8 p 2 ≤ 200 ∧ 1 ≤ nat8 p 3 ∧ nat8 p 3 ≤ 200 ∧
      int16 p 0 + nat8 p 3 ≤ int16 p 4 ∧ int16 p 4 ≤ 2500 ∧ 10 ≤ nat16 p 6 ∧ nat16 p 6 ≤ 500 ∧ 10 ≤ nat16 p 8 ∧
      nat16 p 10 ≤ 3600 ∧ nat8 p 14 ≤ 3) ∧
  (∀ p, (readTestProfile p).isSome = true ↔ 1 ≤ nat8 p 1 ∧ nat8 p 1 ≤ 16) ∧
  (∀ p, (readEntry p).isSome = true ↔
    nat16 p 1 ≤ 4095 ∧ nat16 p 1 + (if nat8 p 3 = 0 then 256 else nat8 p 3) ≤ 4096 ∧
      (nat8 p 6 ≤ 31 ∨ nat8 p 6 = 255))

/-- Set Ceiling (R28, R29, R39, R40): the value clamped to 400 and the native ceiling; each rail of an order list whose target
changes is retargeted, a settled one by a move timed from now and a ramping one by its ramp timed again, and the reply names
exactly those; no other rail, no state and no list changes. A retargeted ramp is no longer qualified (log entry 18). -/
def Obligations.SetCeilingRetargets : Prop :=
  (∀ st : SocketState, st.regulated = true ↔ st ∈ [.settle, .run, .pause, .hold]) ∧
  ∀ dst mv s, s.Hears dst → mv ≤ 65535 →
    ∃ t set, exec (.setCeiling dst (le16 mv)) s = .next t ∧ t.ceiling = max 400 (min s.identity.nativeCeiling mv) ∧
      (∀ f, t.feed f = s.feed f) ∧ t.engine = s.engine ∧ t.events = s.events ∧ t.log = s.log ∧
      t.link.reply = .pending (t.assemble 0x21#8 .ok (le16 t.ceiling ++ le16 set.toNat)) none ∧
      ∀ n,
        let r := (s.socket n).rail
        let target := min r.profile.setpoint t.ceiling
        let changes := s.inOrder n = true ∧ r.commanded ≠ target
        let limit := (((r.output - target) + (target - r.output)) + r.profile.slew - 1) / r.profile.slew + 200
        (SocketSet.has set n = true ↔ changes) ∧ (¬changes → t.socket n = s.socket n) ∧
        (changes → (s.socket n).scu.state.regulated = true → t.socket n =
          { s.socket n with
              rail :=
                { r with commanded := target, motion := .move 0 limit, qualCount := 0, qualified := false, unregCount := 0 } }) ∧
        (changes → (s.socket n).scu.state.regulated = false → t.socket n =
          { s.socket n with
              rail := { r with commanded := target, motion := .ramp 0 limit, qualCount := 0, qualified := false } })

/-- Set Feed Limit (R48, R30): the limit clamped to the native one; sockets are shed from the end of the order list until the
committed current fits and no further, each but those from HOLD to the tail of the queue, and queued sockets that can never be admitted
go to OFF; admission is then evaluated once, where a granted socket whose grant is not yet taken stops it as a ramp does (R35 names the ramp
alone; log entry 11); the over-limit count is 0 after a change of the limit or a shed (R30, R46); the reply names both sets; the other feed
and its sockets are untouched and no record is made. A granted socket takes its grant before it is shed (log entry 13). In a
state whose supplies are sound. A byte that names no feed is refused. -/
def Obligations.SetFeedLimitShedsToFit : Prop :=
  (∀ dst f value s, s.Hears dst → s.SupplyOk → value ≤ 4294967295 →
    ∃ t shed withdrawn kept newest, exec (.setFeedLimit dst (feedCode f :: le32 value)) s = .next t ∧
      let limit := min (s.identity.nativeLimit f) value
      let current (l : List Sock) := (l.map s.admission).sum
      let waiting := ((s.feed f).queue ++ newest.reverse.filter fun n => (s.socket n).scu.state != .hold).filter fun n =>
        decide (s.admission n ≤ limit)
      let sent := newest.foldl (fun l n => if s.granted n then l.erase ⟨n, .grant⟩ else l) s.reports
      let blocked := ∃ k, feedOf k = f ∧ k ∉ newest ∧ ((s.socket k).scu.state = .ramp ∨ s.granted k = true)
      (s.feed f).order = kept ++ newest ∧ current kept ≤ limit ∧
      (∀ older rest, (s.feed f).order = older ++ rest → rest.length < newest.length → limit < current older) ∧
      (∀ n, SocketSet.has shed n = true ↔ n ∈ newest) ∧
      (∀ n, SocketSet.has withdrawn n = true ↔ limit < s.admission n ∧
        (n ∈ (s.feed f).queue ∨ (n ∈ newest ∧ (s.socket n).scu.state ≠ .hold))) ∧
      (∀ m rest, waiting = m :: rest → ¬blocked → current kept + s.admission m ≤ limit →
        (t.feed f).queue = rest ∧ (t.feed f).order = kept ++ [m] ∧ t.reports = sent ++ [⟨m, .grant⟩]) ∧
      ((∀ m rest, waiting = m :: rest → blocked ∨ limit < current kept + s.admission m) →
        (t.feed f).queue = waiting ∧ (t.feed f).order = kept ∧ t.reports = sent) ∧
      (t.feed f).overCount = (if limit = (s.feed f).limit ∧ newest = [] then (s.feed f).overCount else 0) ∧
      (t.feed f).measured = (s.feed f).measured ∧ (t.feed f).limit = limit ∧ t.committed f ≤ (t.feed f).limit ∧
      (∀ n ∈ (t.feed f).queue, t.admission n ≤ (t.feed f).limit) ∧ (∀ g, g ≠ f → t.feed g = s.feed g) ∧
      (∀ n, feedOf n ≠ f → t.socket n = s.socket n) ∧ t.log = s.log ∧
      (t.flag .feedShed).sockets = (s.flag .feedShed).sockets ||| shed ∧
      ((t.flag .feedShed).isSet = ((s.flag .feedShed).isSet || shed != 0#16)) ∧
      t.link.reply = .pending (t.assemble 0x22#8 .ok
        ([feedCode f] ++ le32 (t.feed f).limit ++ le16 shed.toNat ++ le16 withdrawn.toNat)) none ∧
      ∀ n,
        (SocketSet.has shed n = true → n ∈ (s.feed f).order ∧
          (t.socket n).account.sheds = satInc 65535 (s.socket n).account.sheds ∧
          (t.socket n).scu.state = (if (s.socket n).scu.state = .hold then .safe
            else if (t.feed f).limit < s.admission n then .off else .queued)) ∧
        (SocketSet.has withdrawn n = true → (t.socket n).scu.state = .off ∧ (t.feed f).limit < s.admission n) ∧
        (SocketSet.has shed n = false → SocketSet.has withdrawn n = false →
          (t.socket n).scu.state = (s.socket n).scu.state)) ∧
  (∀ dst b rest s, s.Hears dst → 1 < b.toNat → rest.length = 4 →
    exec (.setFeedLimit dst (b :: rest)) s = .next (s.heard.answer 0x22#8 .badArg []))

/-- Set Heater Budget (R65 to R69): the value clamped to the population's, and the demands in force scaled to it at once, to
the shares that ScalingIsExact gives; the marks follow, and with them heater-limited-since-read; HEATER_LIMITED is set with the limited
sockets where the last scaling found none limited and this one does (log entry 40); no demand and no accumulator changes, and no other flag;
above 16000 the value is refused with BAD_ARG. -/
def Obligations.TheHeaterBudgetRescales : Prop :=
  ∀ dst value s, s.Hears dst → value ≤ 65535 →
    (16000 < value → exec (.setHeaterBudget dst (le16 value)) s = .next (s.heard.answer 0x29#8 .badArg [])) ∧
    (value ≤ 16000 → ∃ t, exec (.setHeaterBudget dst (le16 value)) s = .next t ∧
      t.budget = min value (1000 * SocketSet.size s.identity.population) ∧ t.dutySum = min t.budget s.demands.sum ∧
      (allSocks.map fun n => (t.socket n).heat.duty) = scaleDuties t.budget s.demands ∧
      t.link.reply = .pending (t.assemble 0x29#8 .ok
        (le16 t.budget ++ le16 s.demands.sum ++ le16 t.dutySum ++ le16 t.limitedSet.toNat)) none ∧
      (∀ f, t.feed f = s.feed f) ∧ t.engine = s.engine ∧ t.log = s.log ∧
      (∀ e, e ≠ .heaterLimited → t.flag e = s.flag e) ∧
      (let begins := (∀ n, (s.socket n).heat.lastLimited = false) ∧ ∃ n, (t.socket n).heat.limited = true;
        (begins → t.flag .heaterLimited =
          { s.flag .heaterLimited with isSet := true, sockets := (s.flag .heaterLimited).sockets ||| t.limitedSet }) ∧
        (¬begins → t.flag .heaterLimited = s.flag .heaterLimited)) ∧
      ∀ n, (t.socket n).rail = (s.socket n).rail ∧
        (t.socket n).scu =
          { (s.socket n).scu with
              heaterLimitedSinceRead := (s.socket n).scu.heaterLimitedSinceRead || (t.socket n).heat.limited } ∧
        (t.socket n).credit = (s.socket n).credit ∧ (t.socket n).account = (s.socket n).account ∧
        (t.socket n).heat.duty ≤ (s.socket n).heat.demand ∧
        SocketSet.has t.limitedSet n = (t.socket n).heat.limited ∧
        (t.socket n).heat.limited = decide ((t.socket n).heat.duty < (s.socket n).heat.demand) ∧
        (t.socket n).heat =
          { (s.socket n).heat with
              duty := (t.socket n).heat.duty, limited := (t.socket n).heat.limited, lastLimited := (t.socket n).heat.limited })

/-! ### The vector store and the engine -/

/-- Load Vectors (R79, R81, R83, R84): refused with BUSY unless the engine is IDLE, and with BAD_ARG past the last vector;
otherwise the vectors stand in the store with bits 1 to 7 of their flag bytes 0, the rest of an UNLOADED page touched is
zero, every touched page is GOOD with a check word that matches, and every other byte, page and check word is as it was. -/
def Obligations.VectorsAreLoaded : Prop :=
  ∀ dst start count bytes s, s.Hears dst → s.MemoryOk → start ≤ 65535 → 1 ≤ count → count ≤ 48 → bytes.length = 5 * count →
    let last := (start + count - 1) / 64
    let touches (q : Nat) := start / 64 ≤ q ∧ q ≤ last
    (s.engine.state ≠ .idle →
      exec (.loadVectors dst (le16 start ++ bytes)) s = .next (s.heard.answer 0x30#8 .busy [])) ∧
    (s.engine.state = .idle → 4096 < start + count →
      exec (.loadVectors dst (le16 start ++ bytes)) s = .next (s.heard.answer 0x30#8 .badArg [])) ∧
    (s.engine.state = .idle → start + count ≤ 4096 →
      ∃ t, exec (.loadVectors dst (le16 start ++ bytes)) s = .next t ∧ t.sockets = s.sockets ∧ t.engine = s.engine ∧
        t.events = s.events ∧ t.log = s.log ∧ t.store.scrub = s.store.scrub ∧
        t.store.lastScrubbed = s.store.lastScrubbed ∧
        (∀ x, Mem.read t.store.mem x =
          (if 5 * start ≤ x ∧ x < 5 * (start + count) then
            (if x % 5 = 4 then bytes.getD (x - 5 * start) 0#8 &&& 1#8 else bytes.getD (x - 5 * start) 0#8)
          else if start / 64 ≤ x / 320 ∧ x / 320 ≤ last ∧ s.store.condition (Fin.ofNat 64 (x / 320)) = .unloaded then 0#8
          else Mem.read s.store.mem x)) ∧
        (∀ q, touches q.val → t.store.condition q = .good ∧ t.store.checks.get q = t.store.pageCrc q) ∧
        (∀ q, ¬touches q.val → t.store.condition q = s.store.condition q ∧ t.store.checks.get q = s.store.checks.get q) ∧
        t.link.reply = .pending (t.assemble 0x30#8 .ok ([BitVec.ofNat 8 (start / 64), BitVec.ofNat 8 last] ++
          (((List.finRange 64).filter fun q => decide (touches q.val)).map fun q =>
            le16 (t.store.checks.get q).toNat).flatten)) none)

/-- Verify Store and the scrub (R79, R80, R86 to R89). A verify takes its range in ascending order and ends at the first page that
is CORRUPT or whose check mismatches; a mismatch has the effects of R88, a page already CORRUPT changes nothing. The scrub of a
second tick, while the engine is not IDLE, takes the first GOOD page from its pointer. A check mismatches where a GOOD page's check word
is not the CRC-16 over its 320 bytes. The scrub comes after the accrual and the timers of its tick (log entry 8), and a settled SETTLE socket
whose timeout is reached at that tick runs all the same where the scrub stops the engine, its timeout being carried out after the tick (log entries 2
and 34). The scrub goes on in a reload (log entry 26). -/
def Obligations.PagesAreChecked : Prop :=
  (∀ (t : Store) (p : Page), t.pageCrc p = crc16 ((List.range 320).map fun k => Mem.read t.mem (320 * p.val + k)) ∧
    (t.pageFails p = true ↔ t.condition p = .good ∧ t.pageCrc p ≠ t.checks.get p)) ∧
  (∀ dst (first count : Byte) s, s.Hears dst →
    let many := if count.toNat = 0 then 64 else count.toNat
    let fails (p : Page) := s.store.condition p = .corrupt ∨ s.store.pageFails p = true
    let within (p : Page) := first.toNat ≤ p.val ∧ p.val < first.toNat + many
    (64 < first.toNat + many →
      exec (.verifyStore dst [first, count]) s = .next (s.heard.answer 0x32#8 .badArg [])) ∧
    (first.toNat + many ≤ 64 → (∀ p, within p → ¬fails p) →
      exec (.verifyStore dst [first, count]) s = .next (s.heard.answer 0x32#8 .ok [0#8, 255#8])) ∧
    (∀ p, first.toNat + many ≤ 64 → within p → fails p → (∀ q, within q → q < p → ¬fails q) →
      let sent := [BitVec.ofNat 8 (first.toNat + many - p.val), BitVec.ofNat 8 p.val]
      (s.store.condition p = .corrupt →
        exec (.verifyStore dst [first, count]) s = .next (s.heard.answer 0x32#8 .ok sent)) ∧
      (s.store.pageFails p = true → ∃ t, exec (.verifyStore dst [first, count]) s = .next t ∧ s.PageLost t p ∧
        t.store.scrub = s.store.scrub ∧ t.link.reply = .pending (t.assemble 0x32#8 .ok sent) none))) ∧
  (∀ s, s.due = [] → s.phase ≠ .starting →
    ∃ t, exec .secondTick s = .next t ∧
      (s.engine.state = .idle → t.store = s.store ∧ t.engine = s.engine ∧ t.events = s.events) ∧
      (s.engine.state ≠ .idle → (∀ p, s.store.condition p ≠ .good) → t.store = s.store ∧ t.events = s.events) ∧
      (∀ k : Page, s.engine.state ≠ .idle → s.store.condition (s.store.scrub + k) = .good →
        (∀ j, j < k → s.store.condition (s.store.scrub + j) ≠ .good) →
        t.store.scrub = s.store.scrub + k + 1 ∧ t.store.lastScrubbed = some (s.store.scrub + k) ∧
        (s.store.pageFails (s.store.scrub + k) = false → t.engine = s.engine ∧ t.events = s.events ∧
          t.store.conditions = s.store.conditions) ∧
        (s.store.pageFails (s.store.scrub + k) = true → s.PageLost t (s.store.scrub + k))))

/-- Write Sequence Entry (R93, R94): an entry that passes its checks is written, and no other; one that fails them is refused
with BAD_ARG, and the entry now executing with BUSY. Start Sequence (R99, R100, R103): an entry number above 31, BUSY unless
IDLE, a disabled entry; else the engine arrives, and runs with the sockets in RUN taking part under their test profiles (R103, R109), or is IDLE with STORE_FAULT over
a page not GOOD, the rate fixed and every settled socket that waits in SETTLE in RUN (R8, R102). Stop Sequence (R101): RUN becomes STOPPING, and nothing else changes. The pages an entry touches run from the
page of its first vector to that of its last (R79, R92). -/
def Obligations.EntriesAndTheEngine : Prop :=
  (∀ (e : SeqEntry) (p : Page), p ∈ e.pages ↔ e.start / 64 ≤ p.val ∧ p.val ≤ (e.start + e.length - 1) / 64) ∧
  (∀ dst (b : Byte) p s, s.Hears dst → p.length = 7 →
    (31 < b.toNat ∨ readEntry p = none →
      exec (.writeSequenceEntry dst (b :: p)) s = .next (s.heard.answer 0x34#8 .badArg [])) ∧
    (∀ e : EntryNo, ∀ entry, b.toNat = e.val → readEntry p = some entry →
      (s.engine.state ≠ .idle → s.engine.current = some e →
        exec (.writeSequenceEntry dst (b :: p)) s = .next (s.heard.answer 0x34#8 .busy [])) ∧
      (¬(s.engine.state ≠ .idle ∧ s.engine.current = some e) →
        ∃ t, exec (.writeSequenceEntry dst (b :: p)) s = .next t ∧
          t.engine = { s.engine with table := s.engine.table.set e.val entry e.isLt } ∧ t.sockets = s.sockets ∧
          t.store = s.store ∧ t.link.reply = .pending (t.assemble 0x34#8 .ok (writeEntryBytes entry)) none))) ∧
  (∀ dst (b : Byte) s, s.Hears dst →
    let refused (r : Status) := exec (.startSequence dst [b]) s = .next (s.heard.answer 0x38#8 r [])
    (31 < b.toNat → refused .badArg) ∧ (b.toNat ≤ 31 → s.engine.state ≠ .idle → refused .busy) ∧
    (∀ e : EntryNo, b.toNat = e.val → s.engine.state = .idle →
      let entry := s.engine.table.get e
      (entry.enabled = false → refused .badArg) ∧
      (entry.enabled = true → (∃ p ∈ entry.pages, s.store.condition p ≠ .good) →
        ∃ t, exec (.startSequence dst [b]) s = .next t ∧ t.engine.state = .idle ∧ t.engine.lastStop = .storeFault ∧
          t.engine.current = none ∧ t.engine.loopIndex = s.engine.loopIndex ∧ (t.flag .storeFault).isSet = true ∧
          t.IsHighestRate t.engine.rate ∧ (s.WaitersRun t fun _ => true) ∧
          t.link.reply = .pending (t.assemble 0x38#8 .ok
            ([0#8, 255#8] ++ le32 s.engine.loopIndex ++ [3#8])) none) ∧
      (entry.enabled = true → (∀ p ∈ entry.pages, s.store.condition p = .good) →
        ∃ t, exec (.startSequence dst [b]) s = .next t ∧ t.engine.state = .run ∧ t.engine.current = some e ∧
          t.engine.held = entry ∧ t.engine.repeatsLeft = entry.repeats ∧ t.engine.applied = 0 ∧
          t.engine.rate = s.engine.rate ∧ t.events = s.events ∧ t.store = s.store ∧
          t.engine.loopIndex = (if entry.loopHead then satInc 4294967295 s.engine.loopIndex else s.engine.loopIndex) ∧
          s.PassStarted t ∧
          (∀ n, (t.socket n).scu = (s.socket n).scu ∧ (t.socket n).lane.profile = (s.socket n).lane.profile ∧
            SocketSet.has t.engine.participants n = ((s.socket n).scu.state == .run) ∧
            ((s.socket n).scu.state ≠ .run → (t.socket n).lane = (s.socket n).lane)) ∧
          t.link.reply = .pending (t.assemble 0x38#8 .ok
            ([1#8, b] ++ le32 t.engine.loopIndex ++ [s.engine.lastStop.code])) none))) ∧
  (∀ dst s, s.Hears dst →
    ∃ t, exec (.stopSequence dst []) s = .next t ∧ t.sockets = s.sockets ∧ t.events = s.events ∧
      t.engine = (if s.engine.state = .run then { s.engine with state := .stopping .stopRequest } else s.engine) ∧
      t.link.reply = .pending (t.assemble 0x39#8 .ok [if s.engine.state = .idle then 0#8 else 2#8]) none)

/-- Load Factor Point (R120, R121): a point out of range is refused and nothing changes; a point without the final flag is
written to its slot; with it the pending table is committed, all points or none, and emptied: one point alone, an unwritten
slot, or a temperature not above the one before fails the commit, and the reply names the lowest such index. A final flag
above 1 is refused with the point (log entry 30). -/
def Obligations.FactorPointsCommitAllOrNothing : Prop :=
  (∀ dst (b last : Byte) temp factor s, s.Hears dst → -32768 ≤ temp → temp ≤ 32767 → factor ≤ 65535 →
    15 < b.toNat ∨ temp < -500 ∨ 2500 < temp ∨ 1 < last.toNat →
    exec (.loadFactorPoint dst ([b] ++ leInt16 temp ++ le16 factor ++ [last])) s =
      .next (s.heard.answer 0x40#8 .badArg [])) ∧
  (∀ dst (slot : Sock) temp factor s, s.Hears dst → -500 ≤ temp → temp ≤ 2500 → factor ≤ 65535 →
    let request (last : Byte) := Instr.loadFactorPoint dst ([sockCode slot] ++ leInt16 temp ++ le16 factor ++ [last])
    let slots := s.factors.slots.set slot.val (some ⟨temp, factor⟩) slot.isLt
    let count := BitVec.ofNat 8 (slot.val + 1)
    let failsAt (k : Nat) := ∃ t, exec (request 1#8) s = .next t ∧ t.factors.active = s.factors.active ∧
      t.factors.slots = Vector.replicate 16 none ∧
      t.link.reply = .pending (t.assemble 0x40#8 .badArg [count, BitVec.ofNat 8 k]) none
    (∃ t written, exec (request 0#8) s = .next t ∧ t.factors = { active := s.factors.active, slots := slots } ∧
      t.link.reply = .pending (t.assemble 0x40#8 .ok ([sockCode slot] ++ le16 written.toNat)) none ∧
      ∀ i, SocketSet.has written i = (slots.get i).isSome) ∧
    (∀ points : List FactorPoint, points.length = slot.val + 1 → 2 ≤ points.length →
      (∀ i : Sock, i ≤ slot → slots.get i = points[i.val]?) → points.Pairwise (fun a c => a.temp < c.temp) →
      ∃ t, exec (request 1#8) s = .next t ∧ t.factors = { active := points, slots := Vector.replicate 16 none } ∧
        t.link.reply = .pending (t.assemble 0x40#8 .ok [count]) none) ∧
    (slot.val = 0 → failsAt 1) ∧
    (∀ k : Sock, k ≤ slot → slots.get k = none → (∀ i, i < k → slots.get i ≠ none) → failsAt k.val) ∧
    (∀ k j : Sock, j.val + 1 = k.val → k ≤ slot → (∀ i : Sock, i ≤ slot → slots.get i ≠ none) →
      (∃ a c, slots.get j = some a ∧ slots.get k = some c ∧ c.temp ≤ a.temp) →
      (∀ i h : Sock, h.val + 1 = i.val → i < k → ∃ a c, slots.get h = some a ∧ slots.get i = some c ∧ a.temp < c.temp) →
      failsAt k.val))

/-! ### Log, events and link -/

/-- Trim Log (R146): the count, clamped to the records present, is removed from the oldest end and added to the trimmed total; the
marks are set again below their levels; the reply carries the number removed and the summary. Set Log Threshold (R147): 0 and
above 128 are refused with BAD_ARG; otherwise the threshold is in force and its mark judged against the records present, and no
flag is set. Neither touches an account. -/
def Obligations.TheLogIsTrimmedAndItsThresholdSet : Prop :=
  ∀ dst (b : Byte) s, s.Hears dst →
    let gone := min b.toNat s.log.records.length
    let summary (l : FailLog) := [BitVec.ofNat 8 l.records.length, BitVec.ofNat 8 l.threshold] ++ le16 l.nextSequence ++
      le32 l.issued ++ le32 l.trimmed ++ le32 l.dropped
    (∃ t, exec (.trimLog dst [b]) s = .next t ∧ t.sockets = s.sockets ∧ t.events = s.events ∧
      t.log =
        { s.log with
            records := s.log.records.drop gone, trimmed := (s.log.trimmed + gone) % 4294967296,
            thresholdArmed := s.log.thresholdArmed || decide (s.log.records.length - gone < s.log.threshold),
            fullArmed := s.log.fullArmed || decide (s.log.records.length - gone < 128) } ∧
      t.link.reply = .pending (t.assemble 0x4A#8 .ok (BitVec.ofNat 8 gone :: summary t.log)) none) ∧
    (b.toNat = 0 ∨ 128 < b.toNat →
      exec (.setLogThreshold dst [b]) s = .next (s.heard.answer 0x4B#8 .badArg [])) ∧
    (1 ≤ b.toNat → b.toNat ≤ 128 →
      ∃ t, exec (.setLogThreshold dst [b]) s = .next t ∧ t.sockets = s.sockets ∧ t.events = s.events ∧
        t.log =
          { s.log with threshold := b.toNat, thresholdArmed := decide (s.log.records.length < b.toNat) } ∧
        t.link.reply = .pending (t.assemble 0x4B#8 .ok (summary t.log)) none)

/-- Ack Events (R157): each flag named is cleared and its set emptied, and no other; the reply gives what they held, and its
attention byte is formed after the clearing. Set Event Enables (R154): the flags named are enabled and no other. A set that
names anything else is refused. The attention byte shows bit 7 and the least class set and enabled, or 0 (R155). The twelve flags stand in class order (R152). -/
def Obligations.EventsAreAcknowledgedAndEnabled : Prop :=
  (∀ s : State, [EventFlag.railFault, .thermalFault, .testFault, .feedShed, .storeFault, .sequenceEnd, .socketDone, .windowEdge,
    .heaterLimited, .logThreshold, .logFull, .unattended].map s.flag = s.events.toList) ∧
  (∀ dst (x : BitVec 16) s, s.Hears dst →
    let named := (List.finRange 12).filter fun i => x.getLsbD i.val
    (4096 ≤ x.toNat →
      exec (.ackEvents dst (le16 x.toNat)) s = .next (s.heard.answer 0x09#8 .badArg []) ∧
      exec (.setEventEnables dst (le16 x.toNat)) s = .next (s.heard.answer 0x0A#8 .badArg [])) ∧
    (x.toNat < 4096 →
      (∃ t, ∃ found : BitVec 16, exec (.ackEvents dst (le16 x.toNat)) s = .next t ∧ t.sockets = s.sockets ∧ t.log = s.log ∧
        (∀ i, t.events.get i = (if x.getLsbD i.val then
            { s.events.get i with isSet := false, sockets := 0#16 } else s.events.get i)) ∧
        found.toNat < 4096 ∧
        (∀ i : Fin 12, found.getLsbD i.val = (x.getLsbD i.val && (s.events.get i).isSet)) ∧
        t.link.reply = .pending (t.assemble 0x09#8 .ok (le16 found.toNat ++
          (named.map fun i => le16 (s.events.get i).sockets.toNat).flatten)) none) ∧
      (∃ t, exec (.setEventEnables dst (le16 x.toNat)) s = .next t ∧ t.sockets = s.sockets ∧ t.log = s.log ∧
        (∀ i, t.events.get i = { s.events.get i with enabled := x.getLsbD i.val }) ∧
        t.link.reply = .pending (t.assemble 0x0A#8 .ok (le16 x.toNat)) none))) ∧
  (∀ s : State, (∀ i, ((s.events.get i).isSet && (s.events.get i).enabled) = false) → attention s.events = 0#8) ∧
  (∀ (s : State) (i : Fin 12), (s.events.get i).isSet = true → (s.events.get i).enabled = true →
    (∀ j, j < i → ((s.events.get j).isSet && (s.events.get j).enabled) = false) →
    attention s.events = BitVec.ofNat 8 (128 + (i.val + 1)))

/-- Set Group Table (R170): all eight entries or, when one is below 128, none. Set Link Silence (R161): any parameter, answered
with the timeout of R160. Reset Board (R181): a retain byte above 1 is refused; else the reset waits for its reply to be sent,
and nothing has changed until then. -/
def Obligations.TheLinkIsSet : Prop :=
  ∀ dst s, s.Hears dst →
    (∀ p, p.length = 8 → (∃ b ∈ p, b.toNat < 128) →
      exec (.setGroupTable dst p) s = .next (s.heard.answer 0x03#8 .badArg [])) ∧
    (∀ p, p.length = 8 → (∀ b ∈ p, 128 ≤ b.toNat) →
      ∃ t, exec (.setGroupTable dst p) s = .next t ∧ t.link.groups.toList = p ∧ t.sockets = s.sockets ∧
        t.link.reply = .pending (t.assemble 0x03#8 .ok p) none) ∧
    (∀ b : Byte, ∃ t, exec (.setLinkSilence dst [b]) s = .next t ∧ t.link.silenceParam = b ∧ t.link.silence = 0 ∧
      t.link.mode = .attended ∧ t.sockets = s.sockets ∧
      t.link.reply = .pending (t.assemble 0x04#8 .ok
        (b :: le16 (if b.toNat = 0 then 7200 else 5 * b.toNat))) none) ∧
    (∀ b : Byte, 1 < b.toNat → exec (.resetBoard dst [b]) s = .next (s.heard.answer 0x05#8 .badArg [])) ∧
    (∀ b : Byte, b.toNat ≤ 1 → exec (.resetBoard dst [b]) s =
      .next (s.heard.withReply (.pending (s.heard.assemble 0x05#8 .ok []) (some (b == 1#8)))))

/-- The layouts of chapter 11: the codes of section 11.3 and of the statuses, the bin of R136, and where each field of the accounts,
the records, the log summary and the status replies stands (sections 11.4 to 11.7), with the lengths of the replies that vary. The model's choices: a flag byte of the store is sent as it stands, upset bits 1 to 7 included
(log entry 39), a value too large for its field is sent by its low bits (log entry 19), and the revision is a constant without a value (log entry 7). Integers go low byte first, signed ones in two's
complement; bit n of a socket set stands for socket n; 255 is none (R183). -/
def Obligations.RepliesHaveTheirLayouts : Prop :=
  (∀ n, le16 n = [BitVec.ofNat 8 n, BitVec.ofNat 8 (n / 256)] ∧
    le32 n = [BitVec.ofNat 8 n, BitVec.ofNat 8 (n / 256), BitVec.ofNat 8 (n / 65536), BitVec.ofNat 8 (n / 16777216)]) ∧
  (∀ z : Int, leInt16 z = le16 (z % 65536).toNat) ∧
  (∀ n : Sock, sockCode n = BitVec.ofNat 8 n.val ∧ ∀ m, SocketSet.has (single n) m = decide (m = n)) ∧
  (∀ (x : SocketSet) (n m : Sock), SocketSet.has x n = x.getLsbD n.val ∧
    SocketSet.has (SocketSet.without x n) m = (SocketSet.has x m && decide (m ≠ n)) ∧
    SocketSet.size x = ((List.finRange 16).filter fun k => x.getLsbD k.val).length) ∧
  feedCode .a = 0#8 ∧ feedCode .b = 1#8 ∧
  [SocketState.absent, .off, .queued, .ramp, .settle, .run, .pause, .hold, .safe, .done].map SocketState.code =
    [0#8, 1#8, 2#8, 3#8, 4#8, 5#8, 6#8, 7#8, 8#8, 9#8] ∧
  [Cause.railTrip, .railUnreg, .contactLoss, .overTemp, .runaway, .sensorFault, .settleTimeout, .excursion,
    .compareFail].map Cause.code = [1#8, 2#8, 3#8, 4#8, 5#8, 6#8, 7#8, 8#8, 9#8] ∧
  [Bin.notTested, .incomplete, .pass, .passIntermittent, .failPower, .failThermal, .failTest].map Bin.code =
    [0#8, 1#8, 2#8, 3#8, 4#8, 5#8, 6#8] ∧
  [Status.ok, .partly, .badKind, .badLength, .badArg, .busy, .wrongState, .notPresent, .senseFault, .noProfile, .overFeed,
    .absent, .calibrating].map Status.code =
    [0x00#8, 0x01#8, 0x02#8, 0x03#8, 0x04#8, 0x05#8, 0x10#8, 0x11#8, 0x12#8, 0x13#8, 0x14#8, 0x15#8, 0x16#8] ∧
  [StopCause.none, .stopRequest, .sequenceEnd, .storeFault, .reset].map StopCause.code = [0#8, 1#8, 2#8, 3#8, 4#8] ∧
  [EdgeSelection.none, .enter, .leave, .both].map EdgeSelection.code = [0#8, 1#8, 2#8, 3#8] ∧
  [PageCondition.unloaded, .good, .corrupt].map PageCondition.code = [0#8, 1#8, 2#8] ∧
  [Attendance.attended, .unattended].map Attendance.code = [0#8, 1#8] ∧
  [EngineState.idle, .run, .stopping .stopRequest, .stopping .storeFault].map EngineState.code = [0#8, 1#8, 2#8, 2#8] ∧
  (∀ (a : Account) (failing : Nat),
    let power := [some Cause.railTrip, some .railUnreg, some .contactLoss]
    let thermal := [some Cause.overTemp, some .runaway, some .sensorFault, some .settleTimeout, some .excursion]
    a.bin failing = if a.firstFail = true ∧ a.firstCause ∈ power then .failPower
      else if a.firstFail = true ∧ a.firstCause ∈ thermal then .failThermal
      else if a.firstFail = true ∧ a.firstCause = some .compareFail then .failTest
      else if a.targetReached = true ∧ failing = 0 then .pass
      else if a.targetReached = true then .passIntermittent
      else if 0 < a.arms then .incomplete else .notTested) ∧
  (∀ (s : State) n,
    let k := s.socket n
    let a := k.account
    Laid (s.accountBytes n)
      [(0, [sockCode n]), (1, [a.mirror.code]), (2, [BitVec.ofNat 8 (bitIf a.firstFail 1 + bitIf a.targetReached 2)]),
        (3, [match a.firstCause with | some c => c.code | none => 0#8]), (4, le32 a.firstFailTime), (8, le32 a.firstFailCredit),
        (12, le32 k.credit.credit), (16, [BitVec.ofNat 8 k.credit.residue]), (17, le32 a.runSeconds),
        (21, le32 a.accruedSeconds), (25, le32 a.outSeconds), (29, le32 k.lane.comparedPasses),
        (33, le16 k.lane.totalFailing), (35, le16 k.lane.consecutiveFailing), (37, le16 a.trips), (39, le16 a.retries),
        (41, le16 a.sheds), (43, le16 a.interrupts), (45, le16 a.secondaryFails), (47, le16 a.arms), (49, le16 a.released),
        (51, leInt16 a.peakTemp), (53, le16 a.peakMa), (55, [(a.bin k.lane.totalFailing).code])]) ∧
  (∀ c : Capture, writeCaptureBytes c = le32 c.loopIndex ++ [BitVec.ofNat 8 c.entry.val] ++ le16 c.vector ++
    [c.observed, c.expected, c.mask]) ∧
  (∀ r : FailRecord, (writeRecordBytes r).length = 29 + 10 * r.captures.length ∧
    (writeRecordBytes r).drop 29 = (r.captures.map writeCaptureBytes).flatten ∧
    Laid (writeRecordBytes r)
      [(0, le16 r.sequence), (2, le32 r.time), (6, [sockCode r.socket]), (7, [if r.kind = .primary then 0#8 else 1#8]),
        (8, [r.cause.code]), (9, [r.before.code]), (10, [r.disposition.code]),
        (11, [if r.attendance = .attended then 0#8 else 1#8]), (12, le32 r.credit),
        (16, leInt16 (match r.held with | some t => t | none => -32768)), (18, le16 r.sensedMv), (20, le16 r.sensedMa),
        (22, le32 r.loopIndex), (26, [match r.entry with | some e => BitVec.ofNat 8 e.val | none => 255#8]),
        (27, [BitVec.ofNat 8 r.captures.length]), (28, [if r.truncated then 1#8 else 0#8])]) ∧
  (∀ l : FailLog, (writeSummaryBytes l).length = 16 ∧
    Laid (writeSummaryBytes l)
      [(0, [BitVec.ofNat 8 l.records.length]), (1, [BitVec.ofNat 8 l.threshold]), (2, le16 l.nextSequence),
        (4, le32 l.issued), (8, le32 l.trimmed), (12, le32 l.dropped)] ∧
    ∀ offset most, ∃ sent after, l.records.drop offset = sent ++ after ∧ sent.length ≤ most ∧
      ((sent.map writeRecordBytes).flatten).length ≤ 231 ∧
      (∀ r rest, after = r :: rest → sent.length < most →
        231 < ((sent.map writeRecordBytes).flatten).length + (writeRecordBytes r).length) ∧
      l.readBytes offset most = writeSummaryBytes l ++ [BitVec.ofNat 8 offset, BitVec.ofNat 8 sent.length,
        BitVec.ofNat 8 after.length] ++ (sent.map writeRecordBytes).flatten) ∧
  (∀ (s : State) f,
    let g := s.feed f
    let rest := (s.feedBytes f).drop 20
    (s.feedBytes f).length = 21 + g.queue.length + g.order.length ∧
    Laid (s.feedBytes f)
      [(0, [feedCode f]), (1, le32 (s.identity.nativeLimit f)), (5, le32 g.limit), (9, le32 (s.committed f)),
        (13, le32 g.measured), (17, [BitVec.ofNat 8 g.overCount]), (19, [BitVec.ofNat 8 g.queue.length])] ∧
    (∀ n, feedOf n = f → (s.socket n).scu.state = .ramp →
      (∀ m, m < n → feedOf m = f → (s.socket m).scu.state ≠ .ramp) → byteAt (s.feedBytes f) 18 = sockCode n) ∧
    ((∀ n, feedOf n = f → (s.socket n).scu.state ≠ .ramp) → byteAt (s.feedBytes f) 18 = 255#8) ∧
    rest = g.queue.map sockCode ++ [BitVec.ofNat 8 g.order.length] ++ g.order.map sockCode) ∧
  (∀ g : Engine, Laid g.statusBytes
    [(0, [match g.state with | .idle => 0#8 | .run => 1#8 | .stopping _ => 2#8]), (1, [orNone g.current]),
      (2, le32 g.repeatsLeft), (6, le32 g.loopIndex), (10, [match g.rate with | .r1 => 1#8 | .r2 => 2#8 | .r3 => 3#8 | .r4 => 4#8]),
      (11, le16 g.powered.toNat), (13, le16 g.participants.toNat), (15, [g.lastStop.code])]) ∧
  (∀ (s : State) n,
    let l := (s.socket n).lane
    (s.compareBytes n).drop 19 = (l.captures.map writeCaptureBytes).flatten ∧
    Laid (s.compareBytes n)
      [(0, [sockCode n]), (1, [l.profile.lanes, BitVec.ofNat 8 l.profile.threshold]), (3, le16 l.profile.tolerance),
        (5, le32 l.profile.target), (9, le32 l.comparedPasses), (13, le16 l.totalFailing), (15, le16 l.consecutiveFailing),
        (17, [BitVec.ofNat 8 (bitIf (SocketSet.has s.engine.participants n) 1 + bitIf l.truncated 2)]),
        (18, [BitVec.ofNat 8 l.captures.length])]) ∧
  (∀ t : Store,
    let holding (c : PageCondition) := BitVec.ofNat 8 ((List.finRange 64).filter fun p => t.condition p == c).length
    (∀ p : Page, byteAt t.statusBytes p.val =
      (match t.condition p with | .unloaded => 0#8 | .good => 1#8 | .corrupt => 2#8)) ∧
    Laid t.statusBytes [(64, [holding .unloaded, holding .good, holding .corrupt]), (67, [BitVec.ofNat 8 t.scrub.val]),
      (68, [orNone t.lastScrubbed])] ∧
    ∀ start count, 1 ≤ count → count ≤ 40 → start + count ≤ 4096 →
      let first := start / 64
      let last := (start + count - 1) / 64
      let page (q : Nat) := [BitVec.ofNat 8 q, (t.condition (Fin.ofNat 64 q)).code] ++
        le16 (if t.condition (Fin.ofNat 64 q) = .unloaded then 0#16 else t.checks.get (Fin.ofNat 64 q)).toNat
      (t.rawBytes start count).length = 4 + 5 * count + 4 * (last + 1 - first) ∧
      Laid (t.rawBytes start count) [(0, le16 start), (2, [BitVec.ofNat 8 count]),
        (3 + 5 * count, [BitVec.ofNat 8 (last + 1 - first)] ++ page first), (4 + 5 * count + 4 * (last - first), page last)] ∧
      ∀ i x, i < count → x < 5 → byteAt (t.rawBytes start count) (3 + 5 * i + x) =
        (if t.condition (Fin.ofNat 64 ((start + i) / 64)) = .unloaded then 0#8
        else Mem.read t.mem (5 * (start + i) + x))) ∧
  (∀ g : Engine, ((g.table.toList.map writeEntryBytes).flatten).length = 224 ∧
    ∀ e : EntryNo, Laid ((g.table.toList.map writeEntryBytes).flatten) [(7 * e.val, writeEntryBytes (g.table.get e))]) ∧
  (∀ f : Factors, ∃ written : List FactorPoint, f.slots.toList.reduceOption = written ∧
    f.bytes = [BitVec.ofNat 8 f.active.length] ++ (f.active.map fun p => leInt16 p.temp ++ le16 p.factor).flatten ++
      le16 f.writtenSet.toNat ++ (written.map fun p => leInt16 p.temp ++ le16 p.factor).flatten ∧
    ∀ i, SocketSet.has f.writtenSet i = (f.slots.get i).isSome) ∧
  (∀ s : State,
    let bits (x : FlagState → Bool) (set : BitVec 16) := set.toNat < 4096 ∧ ∀ i : Fin 12, set.getLsbD i.val = x (s.events.get i)
    ∀ sets enables : BitVec 16, bits FlagState.isSet sets → bits FlagState.enabled enables →
      Laid s.pollBytes [(0, le16 sets.toNat), (2, le16 enables.toNat), (28, [if s.link.mode = .attended then 0#8 else 1#8]),
        (29, [s.link.silenceParam]), (30, le16 (silenceTimeout s.link.silenceParam)), (32, le16 s.link.silence),
        (34, le16 s.link.silenceBefore)] ∧
      ∀ i : Fin 12, Laid s.pollBytes [(4 + 2 * i.val, le16 (s.events.get i).sockets.toNat)]) ∧
  (∀ s : State,
    let c := s.link.counters
    Laid s.linkCounterBytes [(0, le16 c.good), (2, le16 c.crcErrors), (4, le16 c.framing), (6, le16 c.others),
      (8, le16 c.refusals), (10, le16 c.replies), (12, [match s.link.address with | some a => a | none => 0#8]),
      (13, s.link.groups.toList)]) ∧
  (∀ s : State,
    let i := s.identity
    Laid s.identifyBytes [(0, [0x2E#8]), (1, le16 4816), (3, [Config.revision]), (4, [if i.valid then 1#8 else 0#8]),
      (5, [byteAt i.image 0]), (6, le32 (nat32 i.image 1)), (10, le16 (nat16 i.image 5)),
      (12, le16 (max 400 (min 5000 (nat16 i.image 7)))), (14, le16 (max 100 (min 25000 (nat16 i.image 9)))),
      (16, le32 (min 200000 (nat32 i.image 11))), (20, le32 (min 200000 (nat32 i.image 15))),
      (24, le16 (nat16 i.image 19)), (26, le32 s.clock), (30, [BitVec.ofNat 8 (SocketSet.size i.population)])])

/-- The requests that only read (R52, R85, R90, R95, R115, R116, R122, R137, R145, R156, R175, R176): each is answered with its
layout, which RepliesHaveTheirLayouts spells out, and changes nothing but the link's own counts; an argument out of range is refused. -/
def Obligations.ReadsChangeNothing : Prop :=
  ∀ dst s, s.Hears dst →
    let reads (c : Instr) (kind : Byte) (p : List Byte) := exec c s = .next (s.heard.answer kind .ok p)
    let refused (c : Instr) (kind : Byte) := exec c s = .next (s.heard.answer kind .badArg [])
    reads (.identify dst []) 0x01#8 s.heard.identifyBytes ∧ s.heard.identifyBytes.length = 31 ∧
    reads (.readLinkCounters dst []) 0x02#8 s.heard.linkCounterBytes ∧ s.heard.linkCounterBytes.length = 21 ∧
    reads (.poll dst []) 0x08#8 s.heard.pollBytes ∧ s.heard.pollBytes.length = 36 ∧
    (∀ f, reads (.readFeedStatus dst [feedCode f]) 0x24#8 (s.feedBytes f)) ∧
    (∀ b : Byte, 1 < b.toNat → refused (.readFeedStatus dst [b]) 0x24#8) ∧
    (∀ start (count : Byte), start ≤ 65535 →
      (1 ≤ count.toNat → count.toNat ≤ 40 → start + count.toNat ≤ 4096 →
        reads (.readVectorsRaw dst (le16 start ++ [count])) 0x31#8 (s.store.rawBytes start count.toNat)) ∧
      (count.toNat = 0 ∨ 40 < count.toNat ∨ 4096 < start + count.toNat →
        refused (.readVectorsRaw dst (le16 start ++ [count])) 0x31#8)) ∧
    reads (.readStoreStatus dst []) 0x33#8 s.store.statusBytes ∧ s.store.statusBytes.length = 69 ∧
    reads (.readSequenceTable dst []) 0x35#8 (s.engine.table.toList.map writeEntryBytes).flatten ∧
    reads (.readEngineStatus dst []) 0x3A#8 s.engine.statusBytes ∧ s.engine.statusBytes.length = 16 ∧
    (∀ n, reads (.readCompareStatus dst [sockCode n]) 0x3D#8 (s.compareBytes n) ∧
      (s.compareBytes n).length = 19 + 10 * (s.socket n).lane.captures.length) ∧
    reads (.readFactorTable dst []) 0x41#8 s.factors.bytes ∧
    (∀ n, reads (.readAccount dst [sockCode n]) 0x48#8 (s.accountBytes n) ∧ (s.accountBytes n).length = 56) ∧
    (∀ b : Byte, 15 < b.toNat → refused (.readCompareStatus dst [b]) 0x3D#8 ∧ refused (.readAccount dst [b]) 0x48#8) ∧
    (∀ offset most : Byte,
      (offset.toNat ≤ 127 → reads (.readLog dst [offset, most]) 0x49#8 (s.log.readBytes offset.toNat most.toNat) ∧
        (s.log.readBytes offset.toNat most.toNat).length ≤ 250) ∧
      (127 < offset.toNat → refused (.readLog dst [offset, most]) 0x49#8))

/-- What a command leaves alone. A tick, a vector period, an upset, an expiry or a report taken changes no setting: identity, phase,
ceiling, limits, budget, factor and sequence tables, enables, the link's address, groups and parameter, and the profiles, marks
and targets of every socket. A request changes only what its own rule gives it: each setting has its one request, the log and
the credit theirs, and clock, identity, held temperatures, sensed values and offsets none (R22, R26, R28, R30, R54, R65, R83,
R86, R93, R108, R120, R146, R147, R149, R150, R154, R161, R170). -/
def Obligations.EachSettingHasItsOneCommand : Prop :=
  (∀ c s t, Instr.isEvent c = true → exec c s = .next t →
    t.identity = s.identity ∧ t.phase = s.phase ∧ t.ceiling = s.ceiling ∧ t.budget = s.budget ∧ t.factors = s.factors ∧
      t.engine.table = s.engine.table ∧ t.presence = s.presence ∧ t.link.address = s.link.address ∧
      t.link.groups = s.link.groups ∧ t.link.silenceParam = s.link.silenceParam ∧ t.pending = s.pending ∧
      (∀ f, (t.feed f).limit = (s.feed f).limit) ∧ (∀ e, (t.flag e).enabled = (s.flag e).enabled) ∧
      ∀ n, (t.socket n).rail.profile = (s.socket n).rail.profile ∧ (t.socket n).rail.written = (s.socket n).rail.written ∧
        (t.socket n).heat.profile = (s.socket n).heat.profile ∧ (t.socket n).heat.written = (s.socket n).heat.written ∧
        (t.socket n).lane.profile = (s.socket n).lane.profile ∧ (t.socket n).lane.written = (s.socket n).lane.written ∧
        (t.socket n).credit.target = (s.socket n).credit.target) ∧
  (∀ c k dst p s t, requestOfRow c = some (k, dst, p) → s.Hears dst → exec c s = .next t →
    t.clock = s.clock ∧ t.identity = s.identity ∧ t.phase = s.phase ∧ t.due = [] ∧ t.pending = s.pending ∧
      t.link.address = s.link.address ∧
      (k.code ≠ 0x03#8 → t.link.groups = s.link.groups) ∧ (k.code ≠ 0x04#8 → t.link.silenceParam = s.link.silenceParam) ∧
      (k.code ≠ 0x0A#8 → ∀ e, (t.flag e).enabled = (s.flag e).enabled) ∧
      (k.code ≠ 0x21#8 → t.ceiling = s.ceiling) ∧ (k.code ≠ 0x22#8 → ∀ f, (t.feed f).limit = (s.feed f).limit) ∧
      (k.code ≠ 0x29#8 → t.budget = s.budget) ∧ (k.code ≠ 0x30#8 → t.store.mem = s.store.mem ∧ t.store.checks = s.store.checks) ∧
      (k.code ≠ 0x30#8 → k.code ≠ 0x32#8 → t.store = s.store) ∧ (k.code ≠ 0x34#8 → t.engine.table = s.engine.table) ∧
      (k.code ≠ 0x40#8 → t.factors = s.factors) ∧
      (k.code ≠ 0x17#8 → k.code ≠ 0x4A#8 → k.code ≠ 0x4B#8 → t.log = s.log) ∧
      ∀ n, (t.socket n).rail.sensedMv = (s.socket n).rail.sensedMv ∧ (t.socket n).rail.sensedMa = (s.socket n).rail.sensedMa ∧
        (t.socket n).rail.offset = (s.socket n).rail.offset ∧ (t.socket n).heat.held = (s.socket n).heat.held ∧
        (k.code ≠ 0x16#8 → k.code ≠ 0x17#8 → (t.socket n).credit.credit = (s.socket n).credit.credit ∧
          (t.socket n).credit.residue = (s.socket n).credit.residue ∧
          (t.socket n).account.firstCause = (s.socket n).account.firstCause ∧
          (t.socket n).account.runSeconds = (s.socket n).account.runSeconds ∧
          (t.socket n).lane.comparedPasses = (s.socket n).lane.comparedPasses) ∧
        (k.code ≠ 0x20#8 → (t.socket n).rail.profile = (s.socket n).rail.profile) ∧
        (k.code ≠ 0x28#8 → (t.socket n).heat.profile = (s.socket n).heat.profile) ∧
        (k.code ≠ 0x3B#8 → (t.socket n).lane.profile = (s.socket n).lane.profile ∧
          (t.socket n).credit.target = (s.socket n).credit.target))

/-! ### Board Reset and the identity -/

/-- A Board Reset, as the reply to Reset Board leaves the line (R23, R30, R53, R76, R96, R117, R131, R151, R159, R164, R170, R175,
R181, R182): sockets to the states of R23 with interruptions counted and the account's mirror with them, the rest of each account kept, and the latched
indications of R1, credit, first-fail flags and offsets kept, lists empty,
the flags clear with their enables kept, ATTENDED, the counters 0; with retain the profiles, targets, tables and store are kept,
and the board ceiling and the feed limits, which the end of the reload clamps (R28, R30; TheIdentityLoadEnds),
and without it they are as after power-on, the written marks with them, and the log's threshold is 96 with its mark judged
anew; the full-armed mark stands (R151). Every rail is off, not qualified, its ramp or move abandoned and its counts at 0, its target 0 (log entry
6). No scaling before the reset is remembered (log entry 40). The reports in flight stay (log entry 3), and the identity
stands until it is reloaded (log entry 25). -/
def Obligations.ABoardResetActs : Prop :=
  ∀ bytes retain s, s.due = [] → s.link.reply = .sending bytes (some retain) →
    ∃ t, exec .replySent s = .next t ∧ t.phase = .reloading retain ∧ t.reports = s.reports ∧ t.clock = s.clock ∧
      t.link.reply = .idle ∧ t.link.mode = .attended ∧ t.link.silence = 0 ∧ t.link.counters = {} ∧
      t.link.address = s.link.address ∧ t.identity = s.identity ∧
      t.log =
        { s.log with
            threshold := if retain then s.log.threshold else 96,
            thresholdArmed := if retain then s.log.thresholdArmed else decide (s.log.records.length < 96) } ∧
      t.engine.current = none ∧ t.engine.repeatsLeft = 0 ∧ t.engine.participants = 0#16 ∧ t.engine.powered = 0#16 ∧
      t.engine.stimulus = 0#16 ∧
      t.engine.state = .idle ∧ t.engine.rate = .r4 ∧ t.engine.loopIndex = 0 ∧
      t.engine.lastStop = (if s.engine.state = .idle then s.engine.lastStop else .reset) ∧
      t.store.scrub = 0 ∧ t.store.lastScrubbed = none ∧ (∀ i, t.factors.slots.get i = none) ∧
      (∀ f, (t.feed f).queue = [] ∧ (t.feed f).order = [] ∧ (t.feed f).overCount = 0) ∧
      (∀ e, (t.flag e).isSet = false ∧ (t.flag e).sockets = 0#16 ∧ (t.flag e).enabled = (s.flag e).enabled) ∧
      (retain = true → t.engine.table = s.engine.table ∧ t.factors.active = s.factors.active ∧
        t.link.groups = s.link.groups ∧ t.link.silenceParam = s.link.silenceParam ∧ t.budget = s.budget ∧
        t.ceiling = s.ceiling ∧ (∀ f, (t.feed f).limit = (s.feed f).limit) ∧ t.store.mem = s.store.mem ∧ t.store.conditions = s.store.conditions ∧ t.store.checks = s.store.checks) ∧
      (retain = false → (∀ e, t.engine.table.get e = {}) ∧ t.factors.active = [⟨-500, 256⟩, ⟨2500, 256⟩] ∧
        (∀ i, t.link.groups.get i = 255#8) ∧ t.link.silenceParam = 12#8 ∧ t.budget = 0 ∧
        (∀ p, t.store.condition p = .unloaded)) ∧
      ∀ n,
        let k := s.socket n
        let k' := t.socket n
        k'.scu.state = (if k.scu.state.busy = true ∧ k.scu.state ≠ .hold then .off
          else if k.scu.state = .hold then .safe else k.scu.state) ∧
        k'.scu.firstFail = k.scu.firstFail ∧ k'.scu.tripCount = 0 ∧ k'.scu.cleanRun = 0 ∧ k'.scu.settleTimer = 0 ∧
        k'.scu.settledMark = false ∧ k'.scu.unqualifiedSinceRead = false ∧ k'.scu.inWindowThroughout = true ∧
        k'.scu.heaterLimitedSinceRead = false ∧ k'.scu.failingPassSinceRead = false ∧
        k'.credit.credit = k.credit.credit ∧ k'.credit.residue = k.credit.residue ∧
        k'.account =
          { k.account with
              mirror := k'.scu.state,
              interrupts := if k.scu.state.busy then satInc 65535 k.account.interrupts else k.account.interrupts } ∧
        k'.rail.output = 0 ∧ k'.rail.commanded = 0 ∧ k'.rail.motion = .still ∧ k'.rail.qualified = false ∧
        k'.rail.qualCount = 0 ∧ k'.rail.unregCount = 0 ∧ k'.rail.tripFilter = 0 ∧ k'.rail.contactCount = 0 ∧
        k'.rail.calibration = none ∧ k'.rail.offset = k.rail.offset ∧
        k'.rail.faulted = k.rail.faulted ∧ k'.heat.duty = 0 ∧ k'.heat.held = none ∧
        k'.heat = { profile := k'.heat.profile, written := k'.heat.written } ∧
        k'.lane.captures = k.lane.captures ∧ k'.lane.totalFailing = k.lane.totalFailing ∧
        k'.lane.truncated = k.lane.truncated ∧ k'.lane.comparedPasses = k.lane.comparedPasses ∧
        k'.lane.consecutiveFailing = k.lane.consecutiveFailing ∧
        (retain = true → k'.rail.profile = k.rail.profile ∧ k'.rail.written = k.rail.written ∧
          k'.heat.profile = k.heat.profile ∧ k'.heat.written = k.heat.written ∧ k'.lane.profile = k.lane.profile ∧
          k'.lane.written = k.lane.written ∧ k'.credit.target = k.credit.target) ∧
        (retain = false → k'.rail.profile = {} ∧ k'.rail.written = false ∧ k'.heat.profile = {} ∧
          k'.heat.written = false ∧ k'.lane.profile = {} ∧ k'.lane.written = false ∧ k'.credit.target = 0)

/-- The end of an identity load (R3, R28, R30, R65, R177, R178, R182): the first attempt of three that passes gives the image, or
the identity is at FAULT with an image of all zero; unfitted positions are ABSENT, fitted ABSENT ones become OFF and every other
socket keeps its state; the natives, brought into their ranges from the image (R27), bound ceiling, limits and budget, and the link opens in HUNT. Nothing else of
the board changes, and nothing of a socket that keeps its state; one that moves has the new state in its account's mirror (R151), its
rail and heater off, and keeps its profiles, marks, target, counters and credit. A block of other than 64 bytes does not pass (log entry 29). -/
def Obligations.TheIdentityLoadEnds : Prop :=
  (∀ i : Identity, i.population = set16 i.image 5 ∧ i.nativeCeiling = max 400 (min 5000 (nat16 i.image 7)) ∧
    i.tripMax = max 100 (min 25000 (nat16 i.image 9)) ∧ i.nativeLimit .a = min 200000 (nat32 i.image 11) ∧
    i.nativeLimit .b = min 200000 (nat32 i.image 15)) ∧
  ∀ first second third s, s.due = [] → s.phase ≠ .running →
    let good (b : List Byte) := b.length = 64 ∧ crc16 (b.take 62) = set16 b 62 ∧ byteAt b 0 = 0x01#8
    let fails (a : LoadAttempt) := ∀ b, a = .block b → ¬good b
    ∃ t, exec (.identityLoadEnd first second third) s = .next t ∧
      t =
        { s with
            phase := .running, sockets := t.sockets, feedA := { s.feedA with limit := t.feedA.limit },
            feedB := { s.feedB with limit := t.feedB.limit }, ceiling := t.ceiling, budget := t.budget,
            link := { s.link with receiver := .hunt }, identity := t.identity } ∧
      (∀ b, first = .block b → good b → t.identity = { valid := true, image := b }) ∧
      (∀ b, fails first → second = .block b → good b → t.identity = { valid := true, image := b }) ∧
      (∀ b, fails first → fails second → third = .block b → good b → t.identity = { valid := true, image := b }) ∧
      (fails first → fails second → fails third →
        t.identity = { valid := false, image := List.replicate 64 0#8 }) ∧
      t.budget = min s.budget (1000 * SocketSet.size t.identity.population) ∧
      t.ceiling = (if s.phase = .reloading true then min s.ceiling t.identity.nativeCeiling
        else t.identity.nativeCeiling) ∧
      (∀ f, (t.feed f).limit = (if s.phase = .reloading true then min (s.feed f).limit (t.identity.nativeLimit f)
        else t.identity.nativeLimit f)) ∧
      ∀ n,
        (t.socket n).scu.state = (if SocketSet.has t.identity.population n = false then .absent
          else if (s.socket n).scu.state = .absent then .off else (s.socket n).scu.state) ∧
        ((t.socket n).scu.state = (s.socket n).scu.state → t.socket n = s.socket n) ∧
        ((t.socket n).scu.state ≠ (s.socket n).scu.state →
          (t.socket n).scu = { (s.socket n).scu with state := (t.socket n).scu.state, cleanRun := 0, settledMark := false } ∧
          (t.socket n).account = { (s.socket n).account with mirror := (t.socket n).scu.state } ∧
          (t.socket n).credit = (s.socket n).credit ∧ (t.socket n).lane = { (s.socket n).lane with result := {} } ∧
          (t.socket n).rail =
            { (s.socket n).rail with
                commanded := 0, output := 0, motion := .still, qualCount := 0, qualified := false, unregCount := 0,
                tripFilter := 0, contactCount := 0 } ∧
          (t.socket n).heat =
            { (s.socket n).heat with
                accumulator := 0, demand := 0, duty := 0, limited := false, inWindowCount := 0, outWindowCount := 0,
                runawayCount := 0 })

/-! ### What every step keeps -/

/-- Every step keeps the vector store's memory in its canonical form, and the fail log's account of itself: the issued total is
the records present, trimmed and dropped, and the records never exceed 128 (R138, R140, R141). -/
def Obligations.EveryStepKeepsStoreAndLog : Prop :=
  ∀ s t, step s = .next t → (s.MemoryOk → t.MemoryOk) ∧ (s.LogOk → t.LogOk)

/-- Every step keeps the heaters sound: the applied duties in force fit the budget in force, which fits the population; no duty is
above its demand; a socket not heated demands and gets nothing (R64 to R69); a socket limited is remembered as such (log entry 40). -/
def Obligations.EveryStepKeepsTheHeatersSound : Prop := ∀ s t, s.HeatOk → step s = .next t → t.HeatOk

/-- Every step keeps the supplies sound: committed current within each limit, at most one socket of a feed in RAMP or granted, every
list of the right sockets, every listed rail at its target and every other off, not qualified and with its counts at 0 (R29 to R36, R41, R43). That a grant not yet taken counts
as a ramp is the model's reading (log entry 11), and that a rail off has target 0 its choice (log entry 6). The terms: which states
are powered and which QUEUED or powered (R2, R22), which feed serves a socket (R30), committed current (R31), a socket granted, and a
target (R29). -/
def Obligations.EveryStepKeepsTheSuppliesSound : Prop :=
  (∀ st : SocketState, (st.powered = true ↔ st ∈ [.ramp, .settle, .run, .pause, .hold]) ∧
    (st.busy = true ↔ st ∈ [.queued, .ramp, .settle, .run, .pause, .hold])) ∧
  (∀ n : Sock, feedOf n = if n.val < 8 then .a else .b) ∧
  (∀ (s : State) (n : Sock), s.admission n = (s.socket n).rail.profile.admission ∧
    (s.inOrder n = true ↔ n ∈ (s.feed (feedOf n)).order) ∧
    (s.granted n = true ↔ (s.socket n).scu.state = .queued ∧ n ∉ (s.feed (feedOf n)).queue) ∧
    s.targetOf n = min (s.socket n).rail.profile.setpoint s.ceiling) ∧
  (∀ (s : State) (f : FeedId), s.committed f = ((s.feed f).order.map fun n => (s.socket n).rail.profile.admission).sum) ∧
  ∀ s t, s.SupplyOk → step s = .next t → t.SupplyOk

/-- Every step keeps the engine sound: its powered set is the SCU's; while it runs every socket in RUN permits its rate; its
participants are in RUN; IDLE applies nothing and stands at the highest rate permitted (R97, R98, R105 to R107). A socket permits rate r
where bit r - 1 of its profile's rate set is set (R106, R183). -/
def Obligations.EveryStepKeepsTheEngineSound : Prop :=
  (∀ (s : State) (n : Sock),
    let rates := (s.socket n).rail.profile.rates
    s.permits n .r1 = rates.getLsbD 0 ∧ s.permits n .r2 = rates.getLsbD 1 ∧ s.permits n .r3 = rates.getLsbD 2 ∧
      s.permits n .r4 = rates.getLsbD 3) ∧
  [Rate.r1, .r2, .r3, .r4].map Rate.code = [1#8, 2#8, 3#8, 4#8] ∧
  ∀ s t, s.EngineOk → step s = .next t → t.EngineOk

/-- Credit grows at second ticks alone, and only for a socket in RUN with the engine not IDLE, its rail qualified and its DUT in
window (R118, R124, R125), once the expiries already due are carried out (log entry 2). -/
def Obligations.CreditGrowsOnlyWhenEligible : Prop :=
  ∀ c s t n, exec c s = .next t → (s.socket n).credit.credit < (t.socket n).credit.credit →
    c = .secondTick ∧ (s.settled.socket n).scu.state = .run ∧ s.settled.engine.state ≠ .idle ∧
      (s.settled.socket n).rail.qualified = true ∧ (s.settled.socket n).heat.inWindow = true

/-- Whatever is commanded, the first cause, its time and its credit stay as long as the first-fail flag stands (R18), and while
the board is UNATTENDED no socket is in HOLD (R21), but for one whose release is still under way (R162; log entry 31). At most one
link-silence expiry is due, whole or with its releases left. -/
def Obligations.FirstCausesStayAndNoneIsHeldUnattended : Prop :=
  (∀ c s t n, exec c s = .next t → (s.socket n).scu.firstFail = true → (t.socket n).scu.firstFail = true →
    (t.socket n).account.firstCause = (s.socket n).account.firstCause ∧
    (t.socket n).account.firstFailTime = (s.socket n).account.firstFailTime ∧
    (t.socket n).account.firstFailCredit = (s.socket n).account.firstFailCredit) ∧
  (∀ c s t, exec c s = .next t → s.AttendedOk → t.AttendedOk) ∧
  (∀ c s t, exec c s = .next t → s.SilenceOnce → t.SilenceOnce)
end

