-- ==== Sys2Proof/Laws/State.lean ====
section
/-!
SUPPORT. What each named update of the state leaves alone, one lemma per field, and what it changes.
-/

namespace Sys2Proof.Machine

variable (s : State)

/-! ### setSocket -/

@[simp] theorem State.setSocket_phase (n : Sock) (k : Socket) : (s.setSocket n k).phase = s.phase := rfl
@[simp] theorem State.setSocket_feedA (n : Sock) (k : Socket) : (s.setSocket n k).feedA = s.feedA := rfl
@[simp] theorem State.setSocket_feedB (n : Sock) (k : Socket) : (s.setSocket n k).feedB = s.feedB := rfl
@[simp] theorem State.setSocket_ceiling (n : Sock) (k : Socket) : (s.setSocket n k).ceiling = s.ceiling := rfl
@[simp] theorem State.setSocket_budget (n : Sock) (k : Socket) : (s.setSocket n k).budget = s.budget := rfl
@[simp] theorem State.setSocket_store (n : Sock) (k : Socket) : (s.setSocket n k).store = s.store := rfl
@[simp] theorem State.setSocket_engine (n : Sock) (k : Socket) : (s.setSocket n k).engine = s.engine := rfl
@[simp] theorem State.setSocket_factors (n : Sock) (k : Socket) : (s.setSocket n k).factors = s.factors := rfl
@[simp] theorem State.setSocket_log (n : Sock) (k : Socket) : (s.setSocket n k).log = s.log := rfl
@[simp] theorem State.setSocket_events (n : Sock) (k : Socket) : (s.setSocket n k).events = s.events := rfl
@[simp] theorem State.setSocket_link (n : Sock) (k : Socket) : (s.setSocket n k).link = s.link := rfl
@[simp] theorem State.setSocket_identity (n : Sock) (k : Socket) : (s.setSocket n k).identity = s.identity := rfl
@[simp] theorem State.setSocket_clock (n : Sock) (k : Socket) : (s.setSocket n k).clock = s.clock := rfl
@[simp] theorem State.setSocket_presence (n : Sock) (k : Socket) : (s.setSocket n k).presence = s.presence := rfl
@[simp] theorem State.setSocket_due (n : Sock) (k : Socket) : (s.setSocket n k).due = s.due := rfl
@[simp] theorem State.setSocket_reports (n : Sock) (k : Socket) : (s.setSocket n k).reports = s.reports := rfl
@[simp] theorem State.setSocket_pending (n : Sock) (k : Socket) : (s.setSocket n k).pending = s.pending := rfl

/-! ### modSocket -/

@[simp] theorem State.modSocket_phase (n : Sock) (f : Socket → Socket) : (s.modSocket n f).phase = s.phase := rfl
@[simp] theorem State.modSocket_feedA (n : Sock) (f : Socket → Socket) : (s.modSocket n f).feedA = s.feedA := rfl
@[simp] theorem State.modSocket_feedB (n : Sock) (f : Socket → Socket) : (s.modSocket n f).feedB = s.feedB := rfl
@[simp] theorem State.modSocket_ceiling (n : Sock) (f : Socket → Socket) : (s.modSocket n f).ceiling = s.ceiling := rfl
@[simp] theorem State.modSocket_budget (n : Sock) (f : Socket → Socket) : (s.modSocket n f).budget = s.budget := rfl
@[simp] theorem State.modSocket_store (n : Sock) (f : Socket → Socket) : (s.modSocket n f).store = s.store := rfl
@[simp] theorem State.modSocket_engine (n : Sock) (f : Socket → Socket) : (s.modSocket n f).engine = s.engine := rfl
@[simp] theorem State.modSocket_factors (n : Sock) (f : Socket → Socket) : (s.modSocket n f).factors = s.factors := rfl
@[simp] theorem State.modSocket_log (n : Sock) (f : Socket → Socket) : (s.modSocket n f).log = s.log := rfl
@[simp] theorem State.modSocket_events (n : Sock) (f : Socket → Socket) : (s.modSocket n f).events = s.events := rfl
@[simp] theorem State.modSocket_link (n : Sock) (f : Socket → Socket) : (s.modSocket n f).link = s.link := rfl
@[simp] theorem State.modSocket_identity (n : Sock) (f : Socket → Socket) : (s.modSocket n f).identity = s.identity := rfl
@[simp] theorem State.modSocket_clock (n : Sock) (f : Socket → Socket) : (s.modSocket n f).clock = s.clock := rfl
@[simp] theorem State.modSocket_presence (n : Sock) (f : Socket → Socket) : (s.modSocket n f).presence = s.presence := rfl
@[simp] theorem State.modSocket_due (n : Sock) (f : Socket → Socket) : (s.modSocket n f).due = s.due := rfl
@[simp] theorem State.modSocket_reports (n : Sock) (f : Socket → Socket) : (s.modSocket n f).reports = s.reports := rfl
@[simp] theorem State.modSocket_pending (n : Sock) (f : Socket → Socket) : (s.modSocket n f).pending = s.pending := rfl

/-! ### mapSockets -/

@[simp] theorem State.mapSockets_phase (f : Sock → Socket → Socket) : (s.mapSockets f).phase = s.phase := rfl
@[simp] theorem State.mapSockets_feedA (f : Sock → Socket → Socket) : (s.mapSockets f).feedA = s.feedA := rfl
@[simp] theorem State.mapSockets_feedB (f : Sock → Socket → Socket) : (s.mapSockets f).feedB = s.feedB := rfl
@[simp] theorem State.mapSockets_ceiling (f : Sock → Socket → Socket) : (s.mapSockets f).ceiling = s.ceiling := rfl
@[simp] theorem State.mapSockets_budget (f : Sock → Socket → Socket) : (s.mapSockets f).budget = s.budget := rfl
@[simp] theorem State.mapSockets_store (f : Sock → Socket → Socket) : (s.mapSockets f).store = s.store := rfl
@[simp] theorem State.mapSockets_engine (f : Sock → Socket → Socket) : (s.mapSockets f).engine = s.engine := rfl
@[simp] theorem State.mapSockets_factors (f : Sock → Socket → Socket) : (s.mapSockets f).factors = s.factors := rfl
@[simp] theorem State.mapSockets_log (f : Sock → Socket → Socket) : (s.mapSockets f).log = s.log := rfl
@[simp] theorem State.mapSockets_events (f : Sock → Socket → Socket) : (s.mapSockets f).events = s.events := rfl
@[simp] theorem State.mapSockets_link (f : Sock → Socket → Socket) : (s.mapSockets f).link = s.link := rfl
@[simp] theorem State.mapSockets_identity (f : Sock → Socket → Socket) : (s.mapSockets f).identity = s.identity := rfl
@[simp] theorem State.mapSockets_clock (f : Sock → Socket → Socket) : (s.mapSockets f).clock = s.clock := rfl
@[simp] theorem State.mapSockets_presence (f : Sock → Socket → Socket) : (s.mapSockets f).presence = s.presence := rfl
@[simp] theorem State.mapSockets_due (f : Sock → Socket → Socket) : (s.mapSockets f).due = s.due := rfl
@[simp] theorem State.mapSockets_reports (f : Sock → Socket → Socket) : (s.mapSockets f).reports = s.reports := rfl
@[simp] theorem State.mapSockets_pending (f : Sock → Socket → Socket) : (s.mapSockets f).pending = s.pending := rfl

/-! ### modScu -/

@[simp] theorem State.modScu_phase (n : Sock) (f : Record → Record) : (s.modScu n f).phase = s.phase := rfl
@[simp] theorem State.modScu_feedA (n : Sock) (f : Record → Record) : (s.modScu n f).feedA = s.feedA := rfl
@[simp] theorem State.modScu_feedB (n : Sock) (f : Record → Record) : (s.modScu n f).feedB = s.feedB := rfl
@[simp] theorem State.modScu_ceiling (n : Sock) (f : Record → Record) : (s.modScu n f).ceiling = s.ceiling := rfl
@[simp] theorem State.modScu_budget (n : Sock) (f : Record → Record) : (s.modScu n f).budget = s.budget := rfl
@[simp] theorem State.modScu_store (n : Sock) (f : Record → Record) : (s.modScu n f).store = s.store := rfl
@[simp] theorem State.modScu_engine (n : Sock) (f : Record → Record) : (s.modScu n f).engine = s.engine := rfl
@[simp] theorem State.modScu_factors (n : Sock) (f : Record → Record) : (s.modScu n f).factors = s.factors := rfl
@[simp] theorem State.modScu_log (n : Sock) (f : Record → Record) : (s.modScu n f).log = s.log := rfl
@[simp] theorem State.modScu_events (n : Sock) (f : Record → Record) : (s.modScu n f).events = s.events := rfl
@[simp] theorem State.modScu_link (n : Sock) (f : Record → Record) : (s.modScu n f).link = s.link := rfl
@[simp] theorem State.modScu_identity (n : Sock) (f : Record → Record) : (s.modScu n f).identity = s.identity := rfl
@[simp] theorem State.modScu_clock (n : Sock) (f : Record → Record) : (s.modScu n f).clock = s.clock := rfl
@[simp] theorem State.modScu_presence (n : Sock) (f : Record → Record) : (s.modScu n f).presence = s.presence := rfl
@[simp] theorem State.modScu_due (n : Sock) (f : Record → Record) : (s.modScu n f).due = s.due := rfl
@[simp] theorem State.modScu_reports (n : Sock) (f : Record → Record) : (s.modScu n f).reports = s.reports := rfl
@[simp] theorem State.modScu_pending (n : Sock) (f : Record → Record) : (s.modScu n f).pending = s.pending := rfl

/-! ### modRail -/

@[simp] theorem State.modRail_phase (n : Sock) (f : Rail → Rail) : (s.modRail n f).phase = s.phase := rfl
@[simp] theorem State.modRail_feedA (n : Sock) (f : Rail → Rail) : (s.modRail n f).feedA = s.feedA := rfl
@[simp] theorem State.modRail_feedB (n : Sock) (f : Rail → Rail) : (s.modRail n f).feedB = s.feedB := rfl
@[simp] theorem State.modRail_ceiling (n : Sock) (f : Rail → Rail) : (s.modRail n f).ceiling = s.ceiling := rfl
@[simp] theorem State.modRail_budget (n : Sock) (f : Rail → Rail) : (s.modRail n f).budget = s.budget := rfl
@[simp] theorem State.modRail_store (n : Sock) (f : Rail → Rail) : (s.modRail n f).store = s.store := rfl
@[simp] theorem State.modRail_engine (n : Sock) (f : Rail → Rail) : (s.modRail n f).engine = s.engine := rfl
@[simp] theorem State.modRail_factors (n : Sock) (f : Rail → Rail) : (s.modRail n f).factors = s.factors := rfl
@[simp] theorem State.modRail_log (n : Sock) (f : Rail → Rail) : (s.modRail n f).log = s.log := rfl
@[simp] theorem State.modRail_events (n : Sock) (f : Rail → Rail) : (s.modRail n f).events = s.events := rfl
@[simp] theorem State.modRail_link (n : Sock) (f : Rail → Rail) : (s.modRail n f).link = s.link := rfl
@[simp] theorem State.modRail_identity (n : Sock) (f : Rail → Rail) : (s.modRail n f).identity = s.identity := rfl
@[simp] theorem State.modRail_clock (n : Sock) (f : Rail → Rail) : (s.modRail n f).clock = s.clock := rfl
@[simp] theorem State.modRail_presence (n : Sock) (f : Rail → Rail) : (s.modRail n f).presence = s.presence := rfl
@[simp] theorem State.modRail_due (n : Sock) (f : Rail → Rail) : (s.modRail n f).due = s.due := rfl
@[simp] theorem State.modRail_reports (n : Sock) (f : Rail → Rail) : (s.modRail n f).reports = s.reports := rfl
@[simp] theorem State.modRail_pending (n : Sock) (f : Rail → Rail) : (s.modRail n f).pending = s.pending := rfl

/-! ### modHeat -/

@[simp] theorem State.modHeat_phase (n : Sock) (f : Heat → Heat) : (s.modHeat n f).phase = s.phase := rfl
@[simp] theorem State.modHeat_feedA (n : Sock) (f : Heat → Heat) : (s.modHeat n f).feedA = s.feedA := rfl
@[simp] theorem State.modHeat_feedB (n : Sock) (f : Heat → Heat) : (s.modHeat n f).feedB = s.feedB := rfl
@[simp] theorem State.modHeat_ceiling (n : Sock) (f : Heat → Heat) : (s.modHeat n f).ceiling = s.ceiling := rfl
@[simp] theorem State.modHeat_budget (n : Sock) (f : Heat → Heat) : (s.modHeat n f).budget = s.budget := rfl
@[simp] theorem State.modHeat_store (n : Sock) (f : Heat → Heat) : (s.modHeat n f).store = s.store := rfl
@[simp] theorem State.modHeat_engine (n : Sock) (f : Heat → Heat) : (s.modHeat n f).engine = s.engine := rfl
@[simp] theorem State.modHeat_factors (n : Sock) (f : Heat → Heat) : (s.modHeat n f).factors = s.factors := rfl
@[simp] theorem State.modHeat_log (n : Sock) (f : Heat → Heat) : (s.modHeat n f).log = s.log := rfl
@[simp] theorem State.modHeat_events (n : Sock) (f : Heat → Heat) : (s.modHeat n f).events = s.events := rfl
@[simp] theorem State.modHeat_link (n : Sock) (f : Heat → Heat) : (s.modHeat n f).link = s.link := rfl
@[simp] theorem State.modHeat_identity (n : Sock) (f : Heat → Heat) : (s.modHeat n f).identity = s.identity := rfl
@[simp] theorem State.modHeat_clock (n : Sock) (f : Heat → Heat) : (s.modHeat n f).clock = s.clock := rfl
@[simp] theorem State.modHeat_presence (n : Sock) (f : Heat → Heat) : (s.modHeat n f).presence = s.presence := rfl
@[simp] theorem State.modHeat_due (n : Sock) (f : Heat → Heat) : (s.modHeat n f).due = s.due := rfl
@[simp] theorem State.modHeat_reports (n : Sock) (f : Heat → Heat) : (s.modHeat n f).reports = s.reports := rfl
@[simp] theorem State.modHeat_pending (n : Sock) (f : Heat → Heat) : (s.modHeat n f).pending = s.pending := rfl

/-! ### modLane -/

@[simp] theorem State.modLane_phase (n : Sock) (f : Lane → Lane) : (s.modLane n f).phase = s.phase := rfl
@[simp] theorem State.modLane_feedA (n : Sock) (f : Lane → Lane) : (s.modLane n f).feedA = s.feedA := rfl
@[simp] theorem State.modLane_feedB (n : Sock) (f : Lane → Lane) : (s.modLane n f).feedB = s.feedB := rfl
@[simp] theorem State.modLane_ceiling (n : Sock) (f : Lane → Lane) : (s.modLane n f).ceiling = s.ceiling := rfl
@[simp] theorem State.modLane_budget (n : Sock) (f : Lane → Lane) : (s.modLane n f).budget = s.budget := rfl
@[simp] theorem State.modLane_store (n : Sock) (f : Lane → Lane) : (s.modLane n f).store = s.store := rfl
@[simp] theorem State.modLane_engine (n : Sock) (f : Lane → Lane) : (s.modLane n f).engine = s.engine := rfl
@[simp] theorem State.modLane_factors (n : Sock) (f : Lane → Lane) : (s.modLane n f).factors = s.factors := rfl
@[simp] theorem State.modLane_log (n : Sock) (f : Lane → Lane) : (s.modLane n f).log = s.log := rfl
@[simp] theorem State.modLane_events (n : Sock) (f : Lane → Lane) : (s.modLane n f).events = s.events := rfl
@[simp] theorem State.modLane_link (n : Sock) (f : Lane → Lane) : (s.modLane n f).link = s.link := rfl
@[simp] theorem State.modLane_identity (n : Sock) (f : Lane → Lane) : (s.modLane n f).identity = s.identity := rfl
@[simp] theorem State.modLane_clock (n : Sock) (f : Lane → Lane) : (s.modLane n f).clock = s.clock := rfl
@[simp] theorem State.modLane_presence (n : Sock) (f : Lane → Lane) : (s.modLane n f).presence = s.presence := rfl
@[simp] theorem State.modLane_due (n : Sock) (f : Lane → Lane) : (s.modLane n f).due = s.due := rfl
@[simp] theorem State.modLane_reports (n : Sock) (f : Lane → Lane) : (s.modLane n f).reports = s.reports := rfl
@[simp] theorem State.modLane_pending (n : Sock) (f : Lane → Lane) : (s.modLane n f).pending = s.pending := rfl

/-! ### modAccount -/

@[simp] theorem State.modAccount_phase (n : Sock) (f : Account → Account) : (s.modAccount n f).phase = s.phase := rfl
@[simp] theorem State.modAccount_feedA (n : Sock) (f : Account → Account) : (s.modAccount n f).feedA = s.feedA := rfl
@[simp] theorem State.modAccount_feedB (n : Sock) (f : Account → Account) : (s.modAccount n f).feedB = s.feedB := rfl
@[simp] theorem State.modAccount_ceiling (n : Sock) (f : Account → Account) : (s.modAccount n f).ceiling = s.ceiling := rfl
@[simp] theorem State.modAccount_budget (n : Sock) (f : Account → Account) : (s.modAccount n f).budget = s.budget := rfl
@[simp] theorem State.modAccount_store (n : Sock) (f : Account → Account) : (s.modAccount n f).store = s.store := rfl
@[simp] theorem State.modAccount_engine (n : Sock) (f : Account → Account) : (s.modAccount n f).engine = s.engine := rfl
@[simp] theorem State.modAccount_factors (n : Sock) (f : Account → Account) : (s.modAccount n f).factors = s.factors := rfl
@[simp] theorem State.modAccount_log (n : Sock) (f : Account → Account) : (s.modAccount n f).log = s.log := rfl
@[simp] theorem State.modAccount_events (n : Sock) (f : Account → Account) : (s.modAccount n f).events = s.events := rfl
@[simp] theorem State.modAccount_link (n : Sock) (f : Account → Account) : (s.modAccount n f).link = s.link := rfl
@[simp] theorem State.modAccount_identity (n : Sock) (f : Account → Account) : (s.modAccount n f).identity = s.identity := rfl
@[simp] theorem State.modAccount_clock (n : Sock) (f : Account → Account) : (s.modAccount n f).clock = s.clock := rfl
@[simp] theorem State.modAccount_presence (n : Sock) (f : Account → Account) : (s.modAccount n f).presence = s.presence := rfl
@[simp] theorem State.modAccount_due (n : Sock) (f : Account → Account) : (s.modAccount n f).due = s.due := rfl
@[simp] theorem State.modAccount_reports (n : Sock) (f : Account → Account) : (s.modAccount n f).reports = s.reports := rfl
@[simp] theorem State.modAccount_pending (n : Sock) (f : Account → Account) : (s.modAccount n f).pending = s.pending := rfl

/-! ### raise -/

@[simp] theorem State.raise_phase (e : EventFlag) (x : SocketSet) : (s.raise e x).phase = s.phase := rfl
@[simp] theorem State.raise_sockets (e : EventFlag) (x : SocketSet) : (s.raise e x).sockets = s.sockets := rfl
@[simp] theorem State.raise_feedA (e : EventFlag) (x : SocketSet) : (s.raise e x).feedA = s.feedA := rfl
@[simp] theorem State.raise_feedB (e : EventFlag) (x : SocketSet) : (s.raise e x).feedB = s.feedB := rfl
@[simp] theorem State.raise_ceiling (e : EventFlag) (x : SocketSet) : (s.raise e x).ceiling = s.ceiling := rfl
@[simp] theorem State.raise_budget (e : EventFlag) (x : SocketSet) : (s.raise e x).budget = s.budget := rfl
@[simp] theorem State.raise_store (e : EventFlag) (x : SocketSet) : (s.raise e x).store = s.store := rfl
@[simp] theorem State.raise_engine (e : EventFlag) (x : SocketSet) : (s.raise e x).engine = s.engine := rfl
@[simp] theorem State.raise_factors (e : EventFlag) (x : SocketSet) : (s.raise e x).factors = s.factors := rfl
@[simp] theorem State.raise_log (e : EventFlag) (x : SocketSet) : (s.raise e x).log = s.log := rfl
@[simp] theorem State.raise_link (e : EventFlag) (x : SocketSet) : (s.raise e x).link = s.link := rfl
@[simp] theorem State.raise_identity (e : EventFlag) (x : SocketSet) : (s.raise e x).identity = s.identity := rfl
@[simp] theorem State.raise_clock (e : EventFlag) (x : SocketSet) : (s.raise e x).clock = s.clock := rfl
@[simp] theorem State.raise_presence (e : EventFlag) (x : SocketSet) : (s.raise e x).presence = s.presence := rfl
@[simp] theorem State.raise_due (e : EventFlag) (x : SocketSet) : (s.raise e x).due = s.due := rfl
@[simp] theorem State.raise_reports (e : EventFlag) (x : SocketSet) : (s.raise e x).reports = s.reports := rfl
@[simp] theorem State.raise_pending (e : EventFlag) (x : SocketSet) : (s.raise e x).pending = s.pending := rfl

/-! ### send -/

@[simp] theorem State.send_phase (n : Sock) (k : ReportKind) : (s.send n k).phase = s.phase := rfl
@[simp] theorem State.send_sockets (n : Sock) (k : ReportKind) : (s.send n k).sockets = s.sockets := rfl
@[simp] theorem State.send_feedA (n : Sock) (k : ReportKind) : (s.send n k).feedA = s.feedA := rfl
@[simp] theorem State.send_feedB (n : Sock) (k : ReportKind) : (s.send n k).feedB = s.feedB := rfl
@[simp] theorem State.send_ceiling (n : Sock) (k : ReportKind) : (s.send n k).ceiling = s.ceiling := rfl
@[simp] theorem State.send_budget (n : Sock) (k : ReportKind) : (s.send n k).budget = s.budget := rfl
@[simp] theorem State.send_store (n : Sock) (k : ReportKind) : (s.send n k).store = s.store := rfl
@[simp] theorem State.send_engine (n : Sock) (k : ReportKind) : (s.send n k).engine = s.engine := rfl
@[simp] theorem State.send_factors (n : Sock) (k : ReportKind) : (s.send n k).factors = s.factors := rfl
@[simp] theorem State.send_log (n : Sock) (k : ReportKind) : (s.send n k).log = s.log := rfl
@[simp] theorem State.send_events (n : Sock) (k : ReportKind) : (s.send n k).events = s.events := rfl
@[simp] theorem State.send_link (n : Sock) (k : ReportKind) : (s.send n k).link = s.link := rfl
@[simp] theorem State.send_identity (n : Sock) (k : ReportKind) : (s.send n k).identity = s.identity := rfl
@[simp] theorem State.send_clock (n : Sock) (k : ReportKind) : (s.send n k).clock = s.clock := rfl
@[simp] theorem State.send_presence (n : Sock) (k : ReportKind) : (s.send n k).presence = s.presence := rfl
@[simp] theorem State.send_due (n : Sock) (k : ReportKind) : (s.send n k).due = s.due := rfl
@[simp] theorem State.send_pending (n : Sock) (k : ReportKind) : (s.send n k).pending = s.pending := rfl

/-! ### drop -/

@[simp] theorem State.drop_phase (r : Report) : (s.drop r).phase = s.phase := rfl
@[simp] theorem State.drop_sockets (r : Report) : (s.drop r).sockets = s.sockets := rfl
@[simp] theorem State.drop_feedA (r : Report) : (s.drop r).feedA = s.feedA := rfl
@[simp] theorem State.drop_feedB (r : Report) : (s.drop r).feedB = s.feedB := rfl
@[simp] theorem State.drop_ceiling (r : Report) : (s.drop r).ceiling = s.ceiling := rfl
@[simp] theorem State.drop_budget (r : Report) : (s.drop r).budget = s.budget := rfl
@[simp] theorem State.drop_store (r : Report) : (s.drop r).store = s.store := rfl
@[simp] theorem State.drop_engine (r : Report) : (s.drop r).engine = s.engine := rfl
@[simp] theorem State.drop_factors (r : Report) : (s.drop r).factors = s.factors := rfl
@[simp] theorem State.drop_log (r : Report) : (s.drop r).log = s.log := rfl
@[simp] theorem State.drop_events (r : Report) : (s.drop r).events = s.events := rfl
@[simp] theorem State.drop_link (r : Report) : (s.drop r).link = s.link := rfl
@[simp] theorem State.drop_identity (r : Report) : (s.drop r).identity = s.identity := rfl
@[simp] theorem State.drop_clock (r : Report) : (s.drop r).clock = s.clock := rfl
@[simp] theorem State.drop_presence (r : Report) : (s.drop r).presence = s.presence := rfl
@[simp] theorem State.drop_due (r : Report) : (s.drop r).due = s.due := rfl
@[simp] theorem State.drop_pending (r : Report) : (s.drop r).pending = s.pending := rfl

/-! ### recomputeRate -/

@[simp] theorem State.recomputeRate_phase : (s.recomputeRate).phase = s.phase := rfl
@[simp] theorem State.recomputeRate_sockets : (s.recomputeRate).sockets = s.sockets := rfl
@[simp] theorem State.recomputeRate_feedA : (s.recomputeRate).feedA = s.feedA := rfl
@[simp] theorem State.recomputeRate_feedB : (s.recomputeRate).feedB = s.feedB := rfl
@[simp] theorem State.recomputeRate_ceiling : (s.recomputeRate).ceiling = s.ceiling := rfl
@[simp] theorem State.recomputeRate_budget : (s.recomputeRate).budget = s.budget := rfl
@[simp] theorem State.recomputeRate_store : (s.recomputeRate).store = s.store := rfl
@[simp] theorem State.recomputeRate_factors : (s.recomputeRate).factors = s.factors := rfl
@[simp] theorem State.recomputeRate_log : (s.recomputeRate).log = s.log := rfl
@[simp] theorem State.recomputeRate_events : (s.recomputeRate).events = s.events := rfl
@[simp] theorem State.recomputeRate_link : (s.recomputeRate).link = s.link := rfl
@[simp] theorem State.recomputeRate_identity : (s.recomputeRate).identity = s.identity := rfl
@[simp] theorem State.recomputeRate_clock : (s.recomputeRate).clock = s.clock := rfl
@[simp] theorem State.recomputeRate_presence : (s.recomputeRate).presence = s.presence := rfl
@[simp] theorem State.recomputeRate_due : (s.recomputeRate).due = s.due := rfl
@[simp] theorem State.recomputeRate_reports : (s.recomputeRate).reports = s.reports := rfl
@[simp] theorem State.recomputeRate_pending : (s.recomputeRate).pending = s.pending := rfl

/-! ### withReply -/

@[simp] theorem State.withReply_phase (r : ReplySlot) : (s.withReply r).phase = s.phase := rfl
@[simp] theorem State.withReply_sockets (r : ReplySlot) : (s.withReply r).sockets = s.sockets := rfl
@[simp] theorem State.withReply_feedA (r : ReplySlot) : (s.withReply r).feedA = s.feedA := rfl
@[simp] theorem State.withReply_feedB (r : ReplySlot) : (s.withReply r).feedB = s.feedB := rfl
@[simp] theorem State.withReply_ceiling (r : ReplySlot) : (s.withReply r).ceiling = s.ceiling := rfl
@[simp] theorem State.withReply_budget (r : ReplySlot) : (s.withReply r).budget = s.budget := rfl
@[simp] theorem State.withReply_store (r : ReplySlot) : (s.withReply r).store = s.store := rfl
@[simp] theorem State.withReply_engine (r : ReplySlot) : (s.withReply r).engine = s.engine := rfl
@[simp] theorem State.withReply_factors (r : ReplySlot) : (s.withReply r).factors = s.factors := rfl
@[simp] theorem State.withReply_log (r : ReplySlot) : (s.withReply r).log = s.log := rfl
@[simp] theorem State.withReply_events (r : ReplySlot) : (s.withReply r).events = s.events := rfl
@[simp] theorem State.withReply_identity (r : ReplySlot) : (s.withReply r).identity = s.identity := rfl
@[simp] theorem State.withReply_clock (r : ReplySlot) : (s.withReply r).clock = s.clock := rfl
@[simp] theorem State.withReply_presence (r : ReplySlot) : (s.withReply r).presence = s.presence := rfl
@[simp] theorem State.withReply_due (r : ReplySlot) : (s.withReply r).due = s.due := rfl
@[simp] theorem State.withReply_reports (r : ReplySlot) : (s.withReply r).reports = s.reports := rfl
@[simp] theorem State.withReply_pending (r : ReplySlot) : (s.withReply r).pending = s.pending := rfl

/-! ### count -/

@[simp] theorem State.count_phase (f : LinkCounters → LinkCounters) : (s.count f).phase = s.phase := rfl
@[simp] theorem State.count_sockets (f : LinkCounters → LinkCounters) : (s.count f).sockets = s.sockets := rfl
@[simp] theorem State.count_feedA (f : LinkCounters → LinkCounters) : (s.count f).feedA = s.feedA := rfl
@[simp] theorem State.count_feedB (f : LinkCounters → LinkCounters) : (s.count f).feedB = s.feedB := rfl
@[simp] theorem State.count_ceiling (f : LinkCounters → LinkCounters) : (s.count f).ceiling = s.ceiling := rfl
@[simp] theorem State.count_budget (f : LinkCounters → LinkCounters) : (s.count f).budget = s.budget := rfl
@[simp] theorem State.count_store (f : LinkCounters → LinkCounters) : (s.count f).store = s.store := rfl
@[simp] theorem State.count_engine (f : LinkCounters → LinkCounters) : (s.count f).engine = s.engine := rfl
@[simp] theorem State.count_factors (f : LinkCounters → LinkCounters) : (s.count f).factors = s.factors := rfl
@[simp] theorem State.count_log (f : LinkCounters → LinkCounters) : (s.count f).log = s.log := rfl
@[simp] theorem State.count_events (f : LinkCounters → LinkCounters) : (s.count f).events = s.events := rfl
@[simp] theorem State.count_identity (f : LinkCounters → LinkCounters) : (s.count f).identity = s.identity := rfl
@[simp] theorem State.count_clock (f : LinkCounters → LinkCounters) : (s.count f).clock = s.clock := rfl
@[simp] theorem State.count_presence (f : LinkCounters → LinkCounters) : (s.count f).presence = s.presence := rfl
@[simp] theorem State.count_due (f : LinkCounters → LinkCounters) : (s.count f).due = s.due := rfl
@[simp] theorem State.count_reports (f : LinkCounters → LinkCounters) : (s.count f).reports = s.reports := rfl
@[simp] theorem State.count_pending (f : LinkCounters → LinkCounters) : (s.count f).pending = s.pending := rfl

/-! ### withReceiver -/

@[simp] theorem State.withReceiver_phase (r : Receiver) : (s.withReceiver r).phase = s.phase := rfl
@[simp] theorem State.withReceiver_sockets (r : Receiver) : (s.withReceiver r).sockets = s.sockets := rfl
@[simp] theorem State.withReceiver_feedA (r : Receiver) : (s.withReceiver r).feedA = s.feedA := rfl
@[simp] theorem State.withReceiver_feedB (r : Receiver) : (s.withReceiver r).feedB = s.feedB := rfl
@[simp] theorem State.withReceiver_ceiling (r : Receiver) : (s.withReceiver r).ceiling = s.ceiling := rfl
@[simp] theorem State.withReceiver_budget (r : Receiver) : (s.withReceiver r).budget = s.budget := rfl
@[simp] theorem State.withReceiver_store (r : Receiver) : (s.withReceiver r).store = s.store := rfl
@[simp] theorem State.withReceiver_engine (r : Receiver) : (s.withReceiver r).engine = s.engine := rfl
@[simp] theorem State.withReceiver_factors (r : Receiver) : (s.withReceiver r).factors = s.factors := rfl
@[simp] theorem State.withReceiver_log (r : Receiver) : (s.withReceiver r).log = s.log := rfl
@[simp] theorem State.withReceiver_events (r : Receiver) : (s.withReceiver r).events = s.events := rfl
@[simp] theorem State.withReceiver_identity (r : Receiver) : (s.withReceiver r).identity = s.identity := rfl
@[simp] theorem State.withReceiver_clock (r : Receiver) : (s.withReceiver r).clock = s.clock := rfl
@[simp] theorem State.withReceiver_presence (r : Receiver) : (s.withReceiver r).presence = s.presence := rfl
@[simp] theorem State.withReceiver_due (r : Receiver) : (s.withReceiver r).due = s.due := rfl
@[simp] theorem State.withReceiver_reports (r : Receiver) : (s.withReceiver r).reports = s.reports := rfl
@[simp] theorem State.withReceiver_pending (r : Receiver) : (s.withReceiver r).pending = s.pending := rfl

/-! ### attend -/

@[simp] theorem State.attend_phase : (s.attend).phase = s.phase := rfl
@[simp] theorem State.attend_sockets : (s.attend).sockets = s.sockets := rfl
@[simp] theorem State.attend_feedA : (s.attend).feedA = s.feedA := rfl
@[simp] theorem State.attend_feedB : (s.attend).feedB = s.feedB := rfl
@[simp] theorem State.attend_ceiling : (s.attend).ceiling = s.ceiling := rfl
@[simp] theorem State.attend_budget : (s.attend).budget = s.budget := rfl
@[simp] theorem State.attend_store : (s.attend).store = s.store := rfl
@[simp] theorem State.attend_engine : (s.attend).engine = s.engine := rfl
@[simp] theorem State.attend_factors : (s.attend).factors = s.factors := rfl
@[simp] theorem State.attend_log : (s.attend).log = s.log := rfl
@[simp] theorem State.attend_events : (s.attend).events = s.events := rfl
@[simp] theorem State.attend_identity : (s.attend).identity = s.identity := rfl
@[simp] theorem State.attend_clock : (s.attend).clock = s.clock := rfl
@[simp] theorem State.attend_presence : (s.attend).presence = s.presence := rfl
@[simp] theorem State.attend_due : (s.attend).due = s.due := rfl
@[simp] theorem State.attend_reports : (s.attend).reports = s.reports := rfl
@[simp] theorem State.attend_pending : (s.attend).pending = s.pending := rfl

/-! ### modFeed -/

@[simp] theorem State.modFeed_phase (f : FeedId) (g : Feed → Feed) : (s.modFeed f g).phase = s.phase := by cases f <;> rfl
@[simp] theorem State.modFeed_sockets (f : FeedId) (g : Feed → Feed) : (s.modFeed f g).sockets = s.sockets := by cases f <;> rfl
@[simp] theorem State.modFeed_ceiling (f : FeedId) (g : Feed → Feed) : (s.modFeed f g).ceiling = s.ceiling := by cases f <;> rfl
@[simp] theorem State.modFeed_budget (f : FeedId) (g : Feed → Feed) : (s.modFeed f g).budget = s.budget := by cases f <;> rfl
@[simp] theorem State.modFeed_store (f : FeedId) (g : Feed → Feed) : (s.modFeed f g).store = s.store := by cases f <;> rfl
@[simp] theorem State.modFeed_engine (f : FeedId) (g : Feed → Feed) : (s.modFeed f g).engine = s.engine := by cases f <;> rfl
@[simp] theorem State.modFeed_factors (f : FeedId) (g : Feed → Feed) : (s.modFeed f g).factors = s.factors := by cases f <;> rfl
@[simp] theorem State.modFeed_log (f : FeedId) (g : Feed → Feed) : (s.modFeed f g).log = s.log := by cases f <;> rfl
@[simp] theorem State.modFeed_events (f : FeedId) (g : Feed → Feed) : (s.modFeed f g).events = s.events := by cases f <;> rfl
@[simp] theorem State.modFeed_link (f : FeedId) (g : Feed → Feed) : (s.modFeed f g).link = s.link := by cases f <;> rfl
@[simp] theorem State.modFeed_identity (f : FeedId) (g : Feed → Feed) : (s.modFeed f g).identity = s.identity := by cases f <;> rfl
@[simp] theorem State.modFeed_clock (f : FeedId) (g : Feed → Feed) : (s.modFeed f g).clock = s.clock := by cases f <;> rfl
@[simp] theorem State.modFeed_presence (f : FeedId) (g : Feed → Feed) : (s.modFeed f g).presence = s.presence := by cases f <;> rfl
@[simp] theorem State.modFeed_due (f : FeedId) (g : Feed → Feed) : (s.modFeed f g).due = s.due := by cases f <;> rfl
@[simp] theorem State.modFeed_reports (f : FeedId) (g : Feed → Feed) : (s.modFeed f g).reports = s.reports := by cases f <;> rfl
@[simp] theorem State.modFeed_pending (f : FeedId) (g : Feed → Feed) : (s.modFeed f g).pending = s.pending := by cases f <;> rfl

@[simp] theorem State.modFeed_feed (f h : FeedId) (g : Feed → Feed) :
    (s.modFeed f g).feed h = if h = f then g (s.feed f) else s.feed h := by
  cases f <;> cases h <;> rfl

/-! ### One socket after an update -/

/-- A replaced socket reads as the replacement; the others as before. -/
@[simp] theorem State.setSocket_socket (n m : Sock) (k : Socket) :
    (s.setSocket n k).socket m = if m = n then k else s.socket m := by
  simp only [State.setSocket, State.socket, Vector.get_eq_getElem, Vector.getElem_set, Fin.ext_iff, eq_comm]

@[simp] theorem State.modSocket_socket (n m : Sock) (f : Socket → Socket) :
    (s.modSocket n f).socket m = if m = n then f (s.socket n) else s.socket m := by
  simp [State.modSocket]

@[simp] theorem State.mapSockets_socket (m : Sock) (f : Sock → Socket → Socket) :
    (s.mapSockets f).socket m = f m (s.socket m) := by
  simp [State.mapSockets, State.socket, Vector.get_eq_getElem]

@[simp] theorem State.modScu_socket (n m : Sock) (f : Record → Record) :
    (s.modScu n f).socket m = if m = n then { s.socket n with scu := f (s.socket n).scu } else s.socket m := by
  simp [State.modScu]

@[simp] theorem State.modRail_socket (n m : Sock) (f : Rail → Rail) :
    (s.modRail n f).socket m = if m = n then { s.socket n with rail := f (s.socket n).rail } else s.socket m := by
  simp [State.modRail]

@[simp] theorem State.modHeat_socket (n m : Sock) (f : Heat → Heat) :
    (s.modHeat n f).socket m = if m = n then { s.socket n with heat := f (s.socket n).heat } else s.socket m := by
  simp [State.modHeat]

@[simp] theorem State.modLane_socket (n m : Sock) (f : Lane → Lane) :
    (s.modLane n f).socket m = if m = n then { s.socket n with lane := f (s.socket n).lane } else s.socket m := by
  simp [State.modLane]

@[simp] theorem State.modAccount_socket (n m : Sock) (f : Account → Account) :
    (s.modAccount n f).socket m = if m = n then { s.socket n with account := f (s.socket n).account } else s.socket m := by
  simp [State.modAccount]

/-- Two states with the same sockets read the same at every position. -/
theorem State.socket_congr {s t : State} (h : s.sockets = t.sockets) (n : Sock) : s.socket n = t.socket n := by
  simp [State.socket, h]

/-! ### One socket and one feed after the other updates -/

@[simp] theorem State.setSocket_feed (n : Sock) (k : Socket) (h : FeedId) : (s.setSocket n k).feed h = s.feed h := by cases h <;> rfl
@[simp] theorem State.modSocket_feed (n : Sock) (f : Socket → Socket) (h : FeedId) : (s.modSocket n f).feed h = s.feed h := by cases h <;> rfl
@[simp] theorem State.mapSockets_feed (f : Sock → Socket → Socket) (h : FeedId) : (s.mapSockets f).feed h = s.feed h := by cases h <;> rfl
@[simp] theorem State.modScu_feed (n : Sock) (f : Record → Record) (h : FeedId) : (s.modScu n f).feed h = s.feed h := by cases h <;> rfl
@[simp] theorem State.modRail_feed (n : Sock) (f : Rail → Rail) (h : FeedId) : (s.modRail n f).feed h = s.feed h := by cases h <;> rfl
@[simp] theorem State.modHeat_feed (n : Sock) (f : Heat → Heat) (h : FeedId) : (s.modHeat n f).feed h = s.feed h := by cases h <;> rfl
@[simp] theorem State.modLane_feed (n : Sock) (f : Lane → Lane) (h : FeedId) : (s.modLane n f).feed h = s.feed h := by cases h <;> rfl
@[simp] theorem State.modAccount_feed (n : Sock) (f : Account → Account) (h : FeedId) : (s.modAccount n f).feed h = s.feed h := by cases h <;> rfl
@[simp] theorem State.raise_socket (e : EventFlag) (x : SocketSet) (m : Sock) : (s.raise e x).socket m = s.socket m := rfl
@[simp] theorem State.raise_feed (e : EventFlag) (x : SocketSet) (h : FeedId) : (s.raise e x).feed h = s.feed h := by cases h <;> rfl
@[simp] theorem State.send_socket (n : Sock) (k : ReportKind) (m : Sock) : (s.send n k).socket m = s.socket m := rfl
@[simp] theorem State.send_feed (n : Sock) (k : ReportKind) (h : FeedId) : (s.send n k).feed h = s.feed h := by cases h <;> rfl
@[simp] theorem State.drop_socket (r : Report) (m : Sock) : (s.drop r).socket m = s.socket m := rfl
@[simp] theorem State.drop_feed (r : Report) (h : FeedId) : (s.drop r).feed h = s.feed h := by cases h <;> rfl
@[simp] theorem State.recomputeRate_socket (m : Sock) : (s.recomputeRate).socket m = s.socket m := rfl
@[simp] theorem State.recomputeRate_feed (h : FeedId) : (s.recomputeRate).feed h = s.feed h := by cases h <;> rfl
@[simp] theorem State.withReply_socket (r : ReplySlot) (m : Sock) : (s.withReply r).socket m = s.socket m := rfl
@[simp] theorem State.withReply_feed (r : ReplySlot) (h : FeedId) : (s.withReply r).feed h = s.feed h := by cases h <;> rfl
@[simp] theorem State.count_socket (f : LinkCounters → LinkCounters) (m : Sock) : (s.count f).socket m = s.socket m := rfl
@[simp] theorem State.count_feed (f : LinkCounters → LinkCounters) (h : FeedId) : (s.count f).feed h = s.feed h := by cases h <;> rfl
@[simp] theorem State.withReceiver_socket (r : Receiver) (m : Sock) : (s.withReceiver r).socket m = s.socket m := rfl
@[simp] theorem State.withReceiver_feed (r : Receiver) (h : FeedId) : (s.withReceiver r).feed h = s.feed h := by cases h <;> rfl
@[simp] theorem State.attend_socket (m : Sock) : (s.attend).socket m = s.socket m := rfl
@[simp] theorem State.attend_feed (h : FeedId) : (s.attend).feed h = s.feed h := by cases h <;> rfl
@[simp] theorem State.modFeed_socket (f : FeedId) (g : Feed → Feed) (m : Sock) : (s.modFeed f g).socket m = s.socket m := by
  cases f <;> rfl

/-! ### What an update writes -/

@[simp] theorem State.send_reports (n : Sock) (k : ReportKind) : (s.send n k).reports = s.reports ++ [⟨n, k⟩] := rfl
@[simp] theorem State.drop_reports (r : Report) : (s.drop r).reports = s.reports.erase r := rfl
@[simp] theorem State.withReply_link (r : ReplySlot) : (s.withReply r).link = { s.link with reply := r } := rfl
@[simp] theorem State.withReceiver_link (r : Receiver) : (s.withReceiver r).link = { s.link with receiver := r } := rfl
@[simp] theorem State.count_link (f : LinkCounters → LinkCounters) :
    (s.count f).link = { s.link with counters := f s.link.counters } := rfl
@[simp] theorem State.attend_link :
    s.attend.link = { s.link with silence := 0, silenceBefore := s.link.silence, mode := .attended } := rfl
@[simp] theorem State.recomputeRate_engine : s.recomputeRate.engine = { s.engine with rate := s.highestRate } := rfl

end Sys2Proof.Machine
end

