-- ==== Sys2Proof/Laws/Memory.lean ====
section
/-!
SUPPORT. The vector store's memory: read after write, the frame of a write, and the canonical form, which every operation
over memory keeps.
-/

namespace Sys2Proof.Machine

/-- An address below every listed one reads as zero. -/
theorem Mem.read_below (m : Mem) (x : Nat) (h : ∀ c ∈ m, x < c.1) : m.read x = 0#8 := by
  induction m with
  | nil => rfl
  | cons c m ih =>
    have hc := h c (by simp)
    have : ¬x = c.1 := by omega
    simp only [Mem.read, if_neg this]
    exact ih fun d hd => h d (by simp [hd])

/-- The tail of a memory in canonical form is in canonical form. -/
theorem Mem.wf_tail {c : Host.Cell} {m : Mem} (h : Mem.wf (c :: m)) : Mem.wf m := by
  obtain ⟨h1, h2⟩ := h
  rw [List.map_cons, List.pairwise_cons] at h1
  exact ⟨h1.2, fun d hd => h2 d (by simp [hd])⟩

/-- Addresses of the tail lie above the head's. -/
theorem Mem.wf_head {c : Host.Cell} {m : Mem} (h : Mem.wf (c :: m)) : ∀ d ∈ m, c.1 < d.1 := by
  have h1 := h.1
  rw [List.map_cons, List.pairwise_cons] at h1
  exact fun d hd => h1.1 d.1 (List.mem_map_of_mem hd)

/-- Every cell after a write is the written one or was there before. -/
theorem Mem.mem_write {m : Mem} {x : Nat} {v : Byte} {c : Host.Cell} (h : c ∈ m.write x v) :
    (c = (x, v) ∧ v ≠ 0#8) ∨ c ∈ m := by
  induction m with
  | nil =>
    by_cases hv : v = 0#8 <;> simp [Mem.write, hv] at h ⊢
    exact h
  | cons d m ih =>
    simp only [Mem.write] at h
    split at h
    · split at h
      · exact .inr h
      · rcases List.mem_cons.1 h with h | h
        · exact .inl ⟨h, ‹_›⟩
        · exact .inr h
    · split at h
      · split at h
        · exact .inr (List.mem_cons_of_mem _ h)
        · rcases List.mem_cons.1 h with h | h
          · exact .inl ⟨h, ‹_›⟩
          · exact .inr (List.mem_cons_of_mem _ h)
      · rcases List.mem_cons.1 h with h | h
        · exact .inr (by simp [h])
        · rcases ih h with h | h
          · exact .inl h
          · exact .inr (List.mem_cons_of_mem _ h)

/-- A write within the store keeps the canonical form. -/
theorem Mem.wf_write {m : Mem} (h : m.wf) (x : Nat) (v : Byte) (hx : x < 20480) : (m.write x v).wf := by
  refine ⟨?_, fun c hc => ?_⟩
  · induction m with
    | nil => by_cases hv : v = 0#8 <;> simp [Mem.write, hv]
    | cons d m ih =>
      have hd := Mem.wf_head h
      have hs := h.1
      have ht := ih (Mem.wf_tail h)
      simp only [Mem.write]
      split
      · split
        · exact hs
        · rw [List.map_cons, List.pairwise_cons]
          refine ⟨fun a ha => ?_, hs⟩
          obtain ⟨e, he, rfl⟩ := List.mem_map.1 ha
          rcases List.mem_cons.1 he with rfl | he
          · assumption
          · exact Nat.lt_trans ‹_› (hd e he)
      · split
        · split
          · exact (Mem.wf_tail h).1
          · rw [List.map_cons, List.pairwise_cons] at hs ⊢
            have e : x = d.1 := by assumption
            rw [e]
            exact hs
        · rw [List.map_cons, List.pairwise_cons]
          refine ⟨fun a ha => ?_, ht⟩
          obtain ⟨e, he, rfl⟩ := List.mem_map.1 ha
          rcases Mem.mem_write he with ⟨rfl, _⟩ | he
          · simp only
            omega
          · exact hd e he
  · rcases Mem.mem_write hc with ⟨rfl, hv⟩ | hc
    · exact ⟨hv, hx⟩
    · exact h.2 c hc

/-- Read after write. -/
theorem Mem.read_write {m : Mem} (h : m.wf) (x y : Nat) (v : Byte) :
    (m.write x v).read y = if y = x then v else m.read y := by
  induction m with
  | nil => by_cases hv : v = 0#8 <;> simp [Mem.write, Mem.read, hv]
  | cons d m ih =>
    have hd := Mem.wf_head h
    have ht := ih (Mem.wf_tail h)
    have low : x < d.1 → Mem.read (d :: m) x = 0#8 := fun hx =>
      Mem.read_below _ _ fun c hc => by
        rcases List.mem_cons.1 hc with rfl | hc
        · exact hx
        · exact Nat.lt_trans hx (hd c hc)
    simp only [Mem.write]
    split
    · split
      · by_cases e : y = x
        · rw [if_pos e, e, low ‹_›]; simp [*]
        · rw [if_neg e]
      · simp only [Mem.read]
    · split
      · have e : x = d.1 := by assumption
        split
        · by_cases e' : y = x
          · rw [if_pos e', e', Mem.read_below m x (by rw [e]; exact hd)]; simp [*]
          · rw [if_neg e']; simp [Mem.read, ← e, e']
        · by_cases e' : y = x <;> simp [Mem.read, ← e, e']
      · by_cases e' : y = x
        · have e3 : ¬y = d.1 := by rw [e']; assumption
          rw [if_pos e'] at ht
          rw [if_pos e', Mem.read, if_neg e3, ht]
        · by_cases e'' : y = d.1 <;> simp [Mem.read, e'', ht, e']
          intro e3
          exact absurd (e''.trans e3) e'

/-- Bytes written within the store keep the canonical form. -/
theorem Mem.wf_writeAll {m : Mem} (h : m.wf) (a : Nat) (bs : List Byte) (hx : a + bs.length ≤ 20480) :
    (m.writeAll a bs).wf := by
  induction bs generalizing m a with
  | nil => exact h
  | cons b bs ih =>
    simp only [List.length_cons] at hx
    exact ih (Mem.wf_write h a b (by omega)) (a + 1) (by omega)

/-- A byte after several are written: the byte written there, or what it was. -/
theorem Mem.read_writeAll {m : Mem} (h : m.wf) (a : Nat) (bs : List Byte) (hx : a + bs.length ≤ 20480) (y : Nat) :
    (m.writeAll a bs).read y = if a ≤ y ∧ y < a + bs.length then bs.getD (y - a) 0#8 else m.read y := by
  induction bs generalizing m a with
  | nil =>
    have : ¬(a ≤ y ∧ y < a + ([] : List Byte).length) := by simp
    rw [if_neg this]
    rfl
  | cons b bs ih =>
    simp only [List.length_cons] at hx ⊢
    simp only [Mem.writeAll]
    rw [ih (Mem.wf_write h a b (by omega)) (a + 1) (by omega), Mem.read_write h]
    by_cases e : y = a
    · subst e
      simp
    · by_cases e2 : a + 1 ≤ y ∧ y < a + 1 + bs.length
      · have e3 : a ≤ y ∧ y < a + (bs.length + 1) := by omega
        have e4 : y - a = (y - (a + 1)) + 1 := by omega
        rw [if_pos e2, if_pos e3, e4]
        simp
      · have e3 : ¬(a ≤ y ∧ y < a + (bs.length + 1)) := by omega
        rw [if_neg e2, if_neg e3, if_neg e]

/-- The memory of the machine after power-on is in canonical form. -/
theorem Mem.wf_reset : Mem.wf State.reset.store.mem := by decide

/-- An upset keeps the canonical form (R82). -/
theorem Store.wf_upset {t : Store} (h : Mem.wf t.mem) (u : Upset) : Mem.wf (t.upset u).mem := by
  cases u with
  | vectorByte a v => exact Mem.wf_write h a.val v a.isLt
  | checkWord p v => exact h

/-- The zeroing of a page keeps the canonical form (R84). -/
theorem Store.wf_zeroPage {t : Store} (h : Mem.wf t.mem) (p : Page) : Mem.wf (t.zeroPage p).mem := by
  have room : 320 * p.val + (List.replicate 320 0#8).length ≤ 20480 := by
    rw [List.length_replicate]
    have := p.isLt
    omega
  have written := Mem.wf_writeAll h (320 * p.val) _ room
  unfold Store.zeroPage
  generalize List.replicate 320 0#8 = zeros at written ⊢
  by_cases hp : t.condition p = .unloaded
  · rw [if_pos hp]
    exact written
  · rw [if_neg hp]
    exact h

/-- The sealing of a page leaves the memory as it is (R84). -/
@[simp] theorem Store.mem_sealPage (t : Store) (p : Page) : (t.sealPage p).mem = t.mem := rfl

/-- The stored form has as many bytes as the vectors carried. -/
theorem storedForm_length (bytes : List Byte) (n : Nat) (h : bytes.length = 5 * n) : (storedForm bytes).length = 5 * n := by
  induction n generalizing bytes with
  | zero =>
    have : bytes = [] := by simpa using h
    simp [this, storedForm]
  | succ n ih =>
    match bytes, h with
    | d0 :: d1 :: e :: c :: f :: rest, h =>
      simp only [List.length_cons] at h
      simp only [storedForm, List.length_cons, ih rest (by omega)]
      omega

/-- A load within the store keeps the canonical form (R84). -/
theorem Store.wf_load {t : Store} (h : Mem.wf t.mem) (start n : Nat) (bytes : List Byte) (hb : bytes.length = 5 * n)
    (hn : start + n ≤ 4096) : Mem.wf (t.load start bytes).mem := by
  have zeroed : ∀ (ps : List Page) (t : Store), Mem.wf t.mem → Mem.wf (ps.foldl Store.zeroPage t).mem := by
    intro ps
    induction ps with
    | nil => exact fun _ h => h
    | cons p ps ih => exact fun t h => ih _ (Store.wf_zeroPage h p)
  have sealed : ∀ (ps : List Page) (t : Store), (ps.foldl Store.sealPage t).mem = t.mem := by
    intro ps
    induction ps with
    | nil => exact fun _ => rfl
    | cons p ps ih => exact fun t => (ih _).trans (Store.mem_sealPage t p)
  simp only [Store.load]
  rw [sealed]
  refine Mem.wf_writeAll (zeroed _ t h) _ _ ?_
  rw [storedForm_length bytes n hb]
  omega

end Sys2Proof.Machine
end

