-- ==== Sys2Proof/Laws/Moves.lean ====
section
/-!
SUPPORT. What each shared operation of the sockets, the engine and the log leaves alone, one lemma per field, and what a
move does to a socket, to a feed and to the engine. A prover cites these and never unfolds the operation.
-/

namespace Sys2Proof.Machine

variable (s : State)

open State

/-- A fold keeps what each of its steps keeps. -/
theorem foldl_keeps {α β : Type} (p : State → β) (f : State → α → State) (h : ∀ s a, p (f s a) = p s) (l : List α)
    (s : State) : p (l.foldl f s) = p s := by
  induction l generalizing s with
  | nil => rfl
  | cons a l ih => rw [List.foldl_cons, ih, h]

/-- `rateAfter` changes nothing but the engine. -/
@[simp] theorem State.rateAfter_frame (x : SocketSet) :
    (s.rateAfter x).phase = s.phase ∧ (s.rateAfter x).sockets = s.sockets ∧ (s.rateAfter x).feedA = s.feedA ∧
    (s.rateAfter x).feedB = s.feedB ∧ (s.rateAfter x).ceiling = s.ceiling ∧ (s.rateAfter x).budget = s.budget ∧
    (s.rateAfter x).store = s.store ∧ (s.rateAfter x).factors = s.factors ∧ (s.rateAfter x).log = s.log ∧
    (s.rateAfter x).events = s.events ∧ (s.rateAfter x).link = s.link ∧ (s.rateAfter x).identity = s.identity ∧
    (s.rateAfter x).clock = s.clock ∧ (s.rateAfter x).presence = s.presence ∧ (s.rateAfter x).due = s.due ∧
    (s.rateAfter x).reports = s.reports ∧ (s.rateAfter x).pending = s.pending := by
  unfold State.rateAfter
  try dsimp only
  repeat' split
  all_goals simp_all

/-- `move` changes nothing but the sockets, the feeds, the engine. -/
@[simp] theorem State.move_frame (n : Sock) (st : SocketState) :
    (s.move n st).phase = s.phase ∧ (s.move n st).ceiling = s.ceiling ∧ (s.move n st).budget = s.budget ∧
    (s.move n st).store = s.store ∧ (s.move n st).factors = s.factors ∧ (s.move n st).log = s.log ∧
    (s.move n st).events = s.events ∧ (s.move n st).link = s.link ∧ (s.move n st).identity = s.identity ∧
    (s.move n st).clock = s.clock ∧ (s.move n st).presence = s.presence ∧ (s.move n st).due = s.due ∧
    (s.move n st).reports = s.reports ∧ (s.move n st).pending = s.pending := by
  unfold State.move
  try dsimp only
  repeat' split
  all_goals simp_all

/-- `admitHead` changes nothing but the sockets, the feeds, the reports. -/
@[simp] theorem State.admitHead_frame (f : FeedId) (n : Sock) (rest : List Sock) :
    (s.admitHead f n rest).phase = s.phase ∧ (s.admitHead f n rest).ceiling = s.ceiling ∧
    (s.admitHead f n rest).budget = s.budget ∧ (s.admitHead f n rest).store = s.store ∧
    (s.admitHead f n rest).engine = s.engine ∧ (s.admitHead f n rest).factors = s.factors ∧
    (s.admitHead f n rest).log = s.log ∧ (s.admitHead f n rest).events = s.events ∧
    (s.admitHead f n rest).link = s.link ∧ (s.admitHead f n rest).identity = s.identity ∧
    (s.admitHead f n rest).clock = s.clock ∧ (s.admitHead f n rest).presence = s.presence ∧
    (s.admitHead f n rest).due = s.due ∧ (s.admitHead f n rest).pending = s.pending := by
  unfold State.admitHead
  simp

/-- `evaluate` changes nothing but the sockets, the feeds, the reports. -/
@[simp] theorem State.evaluate_frame (f : FeedId) :
    (s.evaluate f).phase = s.phase ∧ (s.evaluate f).ceiling = s.ceiling ∧ (s.evaluate f).budget = s.budget ∧
    (s.evaluate f).store = s.store ∧ (s.evaluate f).engine = s.engine ∧ (s.evaluate f).factors = s.factors ∧
    (s.evaluate f).log = s.log ∧ (s.evaluate f).events = s.events ∧ (s.evaluate f).link = s.link ∧
    (s.evaluate f).identity = s.identity ∧ (s.evaluate f).clock = s.clock ∧ (s.evaluate f).presence = s.presence ∧
    (s.evaluate f).due = s.due ∧ (s.evaluate f).pending = s.pending := by
  unfold State.evaluate
  try dsimp only
  repeat' split
  all_goals simp_all

/-- `moveAdmit` changes nothing but the sockets, the feeds, the engine, the reports. -/
@[simp] theorem State.moveAdmit_frame (n : Sock) (st : SocketState) :
    (s.moveAdmit n st).phase = s.phase ∧ (s.moveAdmit n st).ceiling = s.ceiling ∧ (s.moveAdmit n st).budget = s.budget ∧
    (s.moveAdmit n st).store = s.store ∧ (s.moveAdmit n st).factors = s.factors ∧ (s.moveAdmit n st).log = s.log ∧
    (s.moveAdmit n st).events = s.events ∧ (s.moveAdmit n st).link = s.link ∧ (s.moveAdmit n st).identity = s.identity ∧
    (s.moveAdmit n st).clock = s.clock ∧ (s.moveAdmit n st).presence = s.presence ∧ (s.moveAdmit n st).due = s.due ∧
    (s.moveAdmit n st).pending = s.pending := by
  unfold State.moveAdmit
  simp

/-- `requeued` changes nothing but the sockets, the feeds, the engine, the reports. -/
@[simp] theorem State.requeued_frame (n : Sock) :
    (s.requeued n).phase = s.phase ∧ (s.requeued n).ceiling = s.ceiling ∧ (s.requeued n).budget = s.budget ∧
    (s.requeued n).store = s.store ∧ (s.requeued n).factors = s.factors ∧ (s.requeued n).log = s.log ∧
    (s.requeued n).events = s.events ∧ (s.requeued n).link = s.link ∧ (s.requeued n).identity = s.identity ∧
    (s.requeued n).clock = s.clock ∧ (s.requeued n).presence = s.presence ∧ (s.requeued n).due = s.due ∧
    (s.requeued n).pending = s.pending := by
  unfold State.requeued
  try dsimp only
  repeat' split
  all_goals simp_all

/-- `storeRecord` changes nothing but the log, the flags. -/
@[simp] theorem State.storeRecord_frame (r : FailRecord) :
    (s.storeRecord r).phase = s.phase ∧ (s.storeRecord r).sockets = s.sockets ∧ (s.storeRecord r).feedA = s.feedA ∧
    (s.storeRecord r).feedB = s.feedB ∧ (s.storeRecord r).ceiling = s.ceiling ∧ (s.storeRecord r).budget = s.budget ∧
    (s.storeRecord r).store = s.store ∧ (s.storeRecord r).engine = s.engine ∧ (s.storeRecord r).factors = s.factors ∧
    (s.storeRecord r).link = s.link ∧ (s.storeRecord r).identity = s.identity ∧ (s.storeRecord r).clock = s.clock ∧
    (s.storeRecord r).presence = s.presence ∧ (s.storeRecord r).due = s.due ∧ (s.storeRecord r).reports = s.reports ∧
    (s.storeRecord r).pending = s.pending := by
  unfold State.storeRecord
  try dsimp only
  repeat' split
  all_goals simp_all

/-- `dropRecord` changes nothing but the log, the flags. -/
@[simp] theorem State.dropRecord_frame :
    (s.dropRecord).phase = s.phase ∧ (s.dropRecord).sockets = s.sockets ∧ (s.dropRecord).feedA = s.feedA ∧
    (s.dropRecord).feedB = s.feedB ∧ (s.dropRecord).ceiling = s.ceiling ∧ (s.dropRecord).budget = s.budget ∧
    (s.dropRecord).store = s.store ∧ (s.dropRecord).engine = s.engine ∧ (s.dropRecord).factors = s.factors ∧
    (s.dropRecord).link = s.link ∧ (s.dropRecord).identity = s.identity ∧ (s.dropRecord).clock = s.clock ∧
    (s.dropRecord).presence = s.presence ∧ (s.dropRecord).due = s.due ∧ (s.dropRecord).reports = s.reports ∧
    (s.dropRecord).pending = s.pending := by
  unfold State.dropRecord
  try dsimp only
  repeat' split
  all_goals simp_all

/-- `logRecord` changes nothing but the log, the flags. -/
@[simp] theorem State.logRecord_frame (r : FailRecord) :
    (s.logRecord r).phase = s.phase ∧ (s.logRecord r).sockets = s.sockets ∧ (s.logRecord r).feedA = s.feedA ∧
    (s.logRecord r).feedB = s.feedB ∧ (s.logRecord r).ceiling = s.ceiling ∧ (s.logRecord r).budget = s.budget ∧
    (s.logRecord r).store = s.store ∧ (s.logRecord r).engine = s.engine ∧ (s.logRecord r).factors = s.factors ∧
    (s.logRecord r).link = s.link ∧ (s.logRecord r).identity = s.identity ∧ (s.logRecord r).clock = s.clock ∧
    (s.logRecord r).presence = s.presence ∧ (s.logRecord r).due = s.due ∧ (s.logRecord r).reports = s.reports ∧
    (s.logRecord r).pending = s.pending := by
  unfold State.logRecord
  try dsimp only
  repeat' split
  all_goals simp_all

/-- `markFailed` changes nothing but the sockets. -/
@[simp] theorem State.markFailed_frame (n : Sock) (k : RecordKind) (c : Cause) :
    (s.markFailed n k c).phase = s.phase ∧ (s.markFailed n k c).feedA = s.feedA ∧ (s.markFailed n k c).feedB = s.feedB ∧
    (s.markFailed n k c).ceiling = s.ceiling ∧ (s.markFailed n k c).budget = s.budget ∧
    (s.markFailed n k c).store = s.store ∧ (s.markFailed n k c).engine = s.engine ∧
    (s.markFailed n k c).factors = s.factors ∧ (s.markFailed n k c).log = s.log ∧
    (s.markFailed n k c).events = s.events ∧ (s.markFailed n k c).link = s.link ∧
    (s.markFailed n k c).identity = s.identity ∧ (s.markFailed n k c).clock = s.clock ∧
    (s.markFailed n k c).presence = s.presence ∧ (s.markFailed n k c).due = s.due ∧
    (s.markFailed n k c).reports = s.reports ∧ (s.markFailed n k c).pending = s.pending := by
  unfold State.markFailed
  simp

/-- `takeCaptures` changes nothing but the sockets. -/
@[simp] theorem State.takeCaptures_frame (n : Sock) (c : Cause) :
    (s.takeCaptures n c).phase = s.phase ∧ (s.takeCaptures n c).feedA = s.feedA ∧ (s.takeCaptures n c).feedB = s.feedB ∧
    (s.takeCaptures n c).ceiling = s.ceiling ∧ (s.takeCaptures n c).budget = s.budget ∧
    (s.takeCaptures n c).store = s.store ∧ (s.takeCaptures n c).engine = s.engine ∧
    (s.takeCaptures n c).factors = s.factors ∧ (s.takeCaptures n c).log = s.log ∧
    (s.takeCaptures n c).events = s.events ∧ (s.takeCaptures n c).link = s.link ∧
    (s.takeCaptures n c).identity = s.identity ∧ (s.takeCaptures n c).clock = s.clock ∧
    (s.takeCaptures n c).presence = s.presence ∧ (s.takeCaptures n c).due = s.due ∧
    (s.takeCaptures n c).reports = s.reports ∧ (s.takeCaptures n c).pending = s.pending := by
  unfold State.takeCaptures
  try dsimp only
  repeat' split
  all_goals simp_all

/-- `accountFailure` changes nothing but the sockets, the log, the flags. -/
@[simp] theorem State.accountFailure_frame (n : Sock) (c : Cause) (d : SocketState) :
    (s.accountFailure n c d).phase = s.phase ∧ (s.accountFailure n c d).feedA = s.feedA ∧
    (s.accountFailure n c d).feedB = s.feedB ∧ (s.accountFailure n c d).ceiling = s.ceiling ∧
    (s.accountFailure n c d).budget = s.budget ∧ (s.accountFailure n c d).store = s.store ∧
    (s.accountFailure n c d).engine = s.engine ∧ (s.accountFailure n c d).factors = s.factors ∧
    (s.accountFailure n c d).link = s.link ∧ (s.accountFailure n c d).identity = s.identity ∧
    (s.accountFailure n c d).clock = s.clock ∧ (s.accountFailure n c d).presence = s.presence ∧
    (s.accountFailure n c d).due = s.due ∧ (s.accountFailure n c d).reports = s.reports ∧
    (s.accountFailure n c d).pending = s.pending := by
  unfold State.accountFailure
  simp

/-- `dispose` changes nothing but the sockets, the feeds, the engine, the reports. -/
@[simp] theorem State.dispose_frame (n : Sock) (d : SocketState) :
    (s.dispose n d).phase = s.phase ∧ (s.dispose n d).ceiling = s.ceiling ∧ (s.dispose n d).budget = s.budget ∧
    (s.dispose n d).store = s.store ∧ (s.dispose n d).factors = s.factors ∧ (s.dispose n d).log = s.log ∧
    (s.dispose n d).events = s.events ∧ (s.dispose n d).link = s.link ∧ (s.dispose n d).identity = s.identity ∧
    (s.dispose n d).clock = s.clock ∧ (s.dispose n d).presence = s.presence ∧ (s.dispose n d).due = s.due ∧
    (s.dispose n d).pending = s.pending := by
  unfold State.dispose
  try dsimp only
  repeat' split
  all_goals simp_all

/-- `fail` changes nothing but the sockets, the feeds, the engine, the reports, the log, the flags. -/
@[simp] theorem State.fail_frame (n : Sock) (c : Cause) :
    (s.fail n c).phase = s.phase ∧ (s.fail n c).ceiling = s.ceiling ∧ (s.fail n c).budget = s.budget ∧
    (s.fail n c).store = s.store ∧ (s.fail n c).factors = s.factors ∧ (s.fail n c).link = s.link ∧
    (s.fail n c).identity = s.identity ∧ (s.fail n c).clock = s.clock ∧ (s.fail n c).presence = s.presence ∧
    (s.fail n c).due = s.due ∧ (s.fail n c).pending = s.pending := by
  unfold State.fail
  try dsimp only
  repeat' split
  all_goals simp_all

/-- `settleToRun` changes nothing but the sockets, the feeds, the engine. -/
@[simp] theorem State.settleToRun_frame (n : Sock) :
    (s.settleToRun n).phase = s.phase ∧ (s.settleToRun n).ceiling = s.ceiling ∧ (s.settleToRun n).budget = s.budget ∧
    (s.settleToRun n).store = s.store ∧ (s.settleToRun n).factors = s.factors ∧ (s.settleToRun n).log = s.log ∧
    (s.settleToRun n).events = s.events ∧ (s.settleToRun n).link = s.link ∧ (s.settleToRun n).identity = s.identity ∧
    (s.settleToRun n).clock = s.clock ∧ (s.settleToRun n).presence = s.presence ∧ (s.settleToRun n).due = s.due ∧
    (s.settleToRun n).reports = s.reports ∧ (s.settleToRun n).pending = s.pending := by
  unfold State.settleToRun
  try dsimp only
  repeat' split
  all_goals simp_all

/-- `decideAll` changes nothing but the sockets, the feeds, the engine. -/
@[simp] theorem State.decideAll_frame :
    (s.decideAll).phase = s.phase ∧ (s.decideAll).ceiling = s.ceiling ∧ (s.decideAll).budget = s.budget ∧
    (s.decideAll).store = s.store ∧ (s.decideAll).factors = s.factors ∧ (s.decideAll).log = s.log ∧
    (s.decideAll).events = s.events ∧ (s.decideAll).link = s.link ∧ (s.decideAll).identity = s.identity ∧
    (s.decideAll).clock = s.clock ∧ (s.decideAll).presence = s.presence ∧ (s.decideAll).due = s.due ∧
    (s.decideAll).reports = s.reports ∧ (s.decideAll).pending = s.pending := by
  refine ⟨foldl_keeps State.phase _ (by simp) _ s, foldl_keeps State.ceiling _ (by simp) _ s, foldl_keeps
    State.budget _ (by simp) _ s, foldl_keeps State.store _ (by simp) _ s, foldl_keeps State.factors _ (by simp) _
    s, foldl_keeps State.log _ (by simp) _ s, foldl_keeps State.events _ (by simp) _ s, foldl_keeps State.link _ (by
    simp) _ s, foldl_keeps State.identity _ (by simp) _ s, foldl_keeps State.clock _ (by simp) _ s, foldl_keeps
    State.presence _ (by simp) _ s, foldl_keeps State.due _ (by simp) _ s, foldl_keeps State.reports _ (by simp) _
    s, foldl_keeps State.pending _ (by simp) _ s⟩

/-- `dropResults` changes nothing but the sockets. -/
@[simp] theorem State.dropResults_frame :
    (s.dropResults).phase = s.phase ∧ (s.dropResults).feedA = s.feedA ∧ (s.dropResults).feedB = s.feedB ∧
    (s.dropResults).ceiling = s.ceiling ∧ (s.dropResults).budget = s.budget ∧ (s.dropResults).store = s.store ∧
    (s.dropResults).engine = s.engine ∧ (s.dropResults).factors = s.factors ∧ (s.dropResults).log = s.log ∧
    (s.dropResults).events = s.events ∧ (s.dropResults).link = s.link ∧ (s.dropResults).identity = s.identity ∧
    (s.dropResults).clock = s.clock ∧ (s.dropResults).presence = s.presence ∧ (s.dropResults).due = s.due ∧
    (s.dropResults).reports = s.reports ∧ (s.dropResults).pending = s.pending := by
  unfold State.dropResults
  simp

/-- `idle` changes nothing but the sockets, the feeds, the engine. -/
@[simp] theorem State.idle_frame (c : StopCause) :
    (s.idle c).phase = s.phase ∧ (s.idle c).ceiling = s.ceiling ∧ (s.idle c).budget = s.budget ∧
    (s.idle c).store = s.store ∧ (s.idle c).factors = s.factors ∧ (s.idle c).log = s.log ∧ (s.idle c).events = s.events ∧
    (s.idle c).link = s.link ∧ (s.idle c).identity = s.identity ∧ (s.idle c).clock = s.clock ∧
    (s.idle c).presence = s.presence ∧ (s.idle c).due = s.due ∧ (s.idle c).reports = s.reports ∧
    (s.idle c).pending = s.pending := by
  unfold State.idle
  simp

/-- `takeOff` changes nothing but the sockets, the feeds. -/
@[simp] theorem State.takeOff_frame (n : Sock) :
    (s.takeOff n).phase = s.phase ∧ (s.takeOff n).ceiling = s.ceiling ∧ (s.takeOff n).budget = s.budget ∧
    (s.takeOff n).store = s.store ∧ (s.takeOff n).engine = s.engine ∧ (s.takeOff n).factors = s.factors ∧
    (s.takeOff n).log = s.log ∧ (s.takeOff n).events = s.events ∧ (s.takeOff n).link = s.link ∧
    (s.takeOff n).identity = s.identity ∧ (s.takeOff n).clock = s.clock ∧ (s.takeOff n).presence = s.presence ∧
    (s.takeOff n).due = s.due ∧ (s.takeOff n).reports = s.reports ∧ (s.takeOff n).pending = s.pending := by
  unfold State.takeOff
  simp

/-- `takeGrant` changes nothing but the sockets, the feeds, the engine. -/
@[simp] theorem State.takeGrant_frame (n : Sock) :
    (s.takeGrant n).phase = s.phase ∧ (s.takeGrant n).ceiling = s.ceiling ∧ (s.takeGrant n).budget = s.budget ∧
    (s.takeGrant n).store = s.store ∧ (s.takeGrant n).factors = s.factors ∧ (s.takeGrant n).log = s.log ∧
    (s.takeGrant n).events = s.events ∧ (s.takeGrant n).link = s.link ∧ (s.takeGrant n).identity = s.identity ∧
    (s.takeGrant n).clock = s.clock ∧ (s.takeGrant n).presence = s.presence ∧ (s.takeGrant n).due = s.due ∧
    (s.takeGrant n).reports = s.reports ∧ (s.takeGrant n).pending = s.pending := by
  unfold State.takeGrant
  try dsimp only
  repeat' split
  all_goals simp_all

/-- `takeQualified` changes nothing but the sockets, the feeds, the engine, the reports. -/
@[simp] theorem State.takeQualified_frame (n : Sock) :
    (s.takeQualified n).phase = s.phase ∧ (s.takeQualified n).ceiling = s.ceiling ∧
    (s.takeQualified n).budget = s.budget ∧ (s.takeQualified n).store = s.store ∧
    (s.takeQualified n).factors = s.factors ∧ (s.takeQualified n).log = s.log ∧ (s.takeQualified n).events = s.events ∧
    (s.takeQualified n).link = s.link ∧ (s.takeQualified n).identity = s.identity ∧ (s.takeQualified n).clock = s.clock ∧
    (s.takeQualified n).presence = s.presence ∧ (s.takeQualified n).due = s.due ∧
    (s.takeQualified n).pending = s.pending := by
  unfold State.takeQualified
  try dsimp only
  repeat' split
  all_goals simp_all

/-- `takeSettled` changes nothing but the sockets, the feeds, the engine. -/
@[simp] theorem State.takeSettled_frame (n : Sock) :
    (s.takeSettled n).phase = s.phase ∧ (s.takeSettled n).ceiling = s.ceiling ∧ (s.takeSettled n).budget = s.budget ∧
    (s.takeSettled n).store = s.store ∧ (s.takeSettled n).factors = s.factors ∧ (s.takeSettled n).log = s.log ∧
    (s.takeSettled n).events = s.events ∧ (s.takeSettled n).link = s.link ∧ (s.takeSettled n).identity = s.identity ∧
    (s.takeSettled n).clock = s.clock ∧ (s.takeSettled n).presence = s.presence ∧ (s.takeSettled n).due = s.due ∧
    (s.takeSettled n).reports = s.reports ∧ (s.takeSettled n).pending = s.pending := by
  unfold State.takeSettled
  try dsimp only
  repeat' split
  all_goals simp_all

/-- `takeNotSettled` changes nothing but the sockets. -/
@[simp] theorem State.takeNotSettled_frame (n : Sock) :
    (s.takeNotSettled n).phase = s.phase ∧ (s.takeNotSettled n).feedA = s.feedA ∧ (s.takeNotSettled n).feedB = s.feedB ∧
    (s.takeNotSettled n).ceiling = s.ceiling ∧ (s.takeNotSettled n).budget = s.budget ∧
    (s.takeNotSettled n).store = s.store ∧ (s.takeNotSettled n).engine = s.engine ∧
    (s.takeNotSettled n).factors = s.factors ∧ (s.takeNotSettled n).log = s.log ∧
    (s.takeNotSettled n).events = s.events ∧ (s.takeNotSettled n).link = s.link ∧
    (s.takeNotSettled n).identity = s.identity ∧ (s.takeNotSettled n).clock = s.clock ∧
    (s.takeNotSettled n).presence = s.presence ∧ (s.takeNotSettled n).due = s.due ∧
    (s.takeNotSettled n).reports = s.reports ∧ (s.takeNotSettled n).pending = s.pending := by
  unfold State.takeNotSettled
  simp

/-- `takeTarget` changes nothing but the sockets, the feeds, the engine, the reports, the flags. -/
@[simp] theorem State.takeTarget_frame (n : Sock) :
    (s.takeTarget n).phase = s.phase ∧ (s.takeTarget n).ceiling = s.ceiling ∧ (s.takeTarget n).budget = s.budget ∧
    (s.takeTarget n).store = s.store ∧ (s.takeTarget n).factors = s.factors ∧ (s.takeTarget n).log = s.log ∧
    (s.takeTarget n).link = s.link ∧ (s.takeTarget n).identity = s.identity ∧ (s.takeTarget n).clock = s.clock ∧
    (s.takeTarget n).presence = s.presence ∧ (s.takeTarget n).due = s.due ∧ (s.takeTarget n).pending = s.pending := by
  unfold State.takeTarget
  try dsimp only
  repeat' split
  all_goals simp_all

/-- `takeTrip` changes nothing but the sockets, the feeds, the engine, the reports, the log, the flags. -/
@[simp] theorem State.takeTrip_frame (n : Sock) :
    (s.takeTrip n).phase = s.phase ∧ (s.takeTrip n).ceiling = s.ceiling ∧ (s.takeTrip n).budget = s.budget ∧
    (s.takeTrip n).store = s.store ∧ (s.takeTrip n).factors = s.factors ∧ (s.takeTrip n).link = s.link ∧
    (s.takeTrip n).identity = s.identity ∧ (s.takeTrip n).clock = s.clock ∧ (s.takeTrip n).presence = s.presence ∧
    (s.takeTrip n).due = s.due ∧ (s.takeTrip n).pending = s.pending := by
  unfold State.takeTrip
  try dsimp only
  repeat' split
  all_goals simp_all

/-- `countShed` changes nothing but the sockets. -/
@[simp] theorem State.countShed_frame (n : Sock) :
    (s.countShed n).phase = s.phase ∧ (s.countShed n).feedA = s.feedA ∧ (s.countShed n).feedB = s.feedB ∧
    (s.countShed n).ceiling = s.ceiling ∧ (s.countShed n).budget = s.budget ∧ (s.countShed n).store = s.store ∧
    (s.countShed n).engine = s.engine ∧ (s.countShed n).factors = s.factors ∧ (s.countShed n).log = s.log ∧
    (s.countShed n).events = s.events ∧ (s.countShed n).link = s.link ∧ (s.countShed n).identity = s.identity ∧
    (s.countShed n).clock = s.clock ∧ (s.countShed n).presence = s.presence ∧ (s.countShed n).due = s.due ∧
    (s.countShed n).reports = s.reports ∧ (s.countShed n).pending = s.pending := by
  unfold State.countShed
  simp

/-- `shedMove` changes nothing but the sockets, the feeds, the engine. -/
@[simp] theorem State.shedMove_frame (n : Sock) :
    (s.shedMove n).phase = s.phase ∧ (s.shedMove n).ceiling = s.ceiling ∧ (s.shedMove n).budget = s.budget ∧
    (s.shedMove n).store = s.store ∧ (s.shedMove n).factors = s.factors ∧ (s.shedMove n).log = s.log ∧
    (s.shedMove n).events = s.events ∧ (s.shedMove n).link = s.link ∧ (s.shedMove n).identity = s.identity ∧
    (s.shedMove n).clock = s.clock ∧ (s.shedMove n).presence = s.presence ∧ (s.shedMove n).due = s.due ∧
    (s.shedMove n).reports = s.reports ∧ (s.shedMove n).pending = s.pending := by
  unfold State.shedMove
  try dsimp only
  repeat' split
  all_goals simp_all

/-- `takeShed` changes nothing but the sockets, the feeds, the engine, the reports. -/
@[simp] theorem State.takeShed_frame (n : Sock) :
    (s.takeShed n).phase = s.phase ∧ (s.takeShed n).ceiling = s.ceiling ∧ (s.takeShed n).budget = s.budget ∧
    (s.takeShed n).store = s.store ∧ (s.takeShed n).factors = s.factors ∧ (s.takeShed n).log = s.log ∧
    (s.takeShed n).events = s.events ∧ (s.takeShed n).link = s.link ∧ (s.takeShed n).identity = s.identity ∧
    (s.takeShed n).clock = s.clock ∧ (s.takeShed n).presence = s.presence ∧ (s.takeShed n).due = s.due ∧
    (s.takeShed n).pending = s.pending := by
  unfold State.takeShed
  try dsimp only
  repeat' split
  all_goals simp_all

/-- `startPass` changes nothing but the sockets, the engine. -/
@[simp] theorem State.startPass_frame :
    (s.startPass).phase = s.phase ∧ (s.startPass).feedA = s.feedA ∧ (s.startPass).feedB = s.feedB ∧
    (s.startPass).ceiling = s.ceiling ∧ (s.startPass).budget = s.budget ∧ (s.startPass).store = s.store ∧
    (s.startPass).factors = s.factors ∧ (s.startPass).log = s.log ∧ (s.startPass).events = s.events ∧
    (s.startPass).link = s.link ∧ (s.startPass).identity = s.identity ∧ (s.startPass).clock = s.clock ∧
    (s.startPass).presence = s.presence ∧ (s.startPass).due = s.due ∧ (s.startPass).reports = s.reports ∧
    (s.startPass).pending = s.pending := by
  unfold State.startPass
  simp

/-- `nextPass` changes nothing but the sockets, the feeds, the engine. -/
@[simp] theorem State.nextPass_frame :
    (s.nextPass).phase = s.phase ∧ (s.nextPass).ceiling = s.ceiling ∧ (s.nextPass).budget = s.budget ∧
    (s.nextPass).store = s.store ∧ (s.nextPass).factors = s.factors ∧ (s.nextPass).log = s.log ∧
    (s.nextPass).events = s.events ∧ (s.nextPass).link = s.link ∧ (s.nextPass).identity = s.identity ∧
    (s.nextPass).clock = s.clock ∧ (s.nextPass).presence = s.presence ∧ (s.nextPass).due = s.due ∧
    (s.nextPass).reports = s.reports ∧ (s.nextPass).pending = s.pending := by
  unfold State.nextPass
  simp

/-- `settlePass` changes nothing but the sockets, the reports. -/
@[simp] theorem State.settlePass_frame (n : Sock) :
    (s.settlePass n).phase = s.phase ∧ (s.settlePass n).feedA = s.feedA ∧ (s.settlePass n).feedB = s.feedB ∧
    (s.settlePass n).ceiling = s.ceiling ∧ (s.settlePass n).budget = s.budget ∧ (s.settlePass n).store = s.store ∧
    (s.settlePass n).engine = s.engine ∧ (s.settlePass n).factors = s.factors ∧ (s.settlePass n).log = s.log ∧
    (s.settlePass n).events = s.events ∧ (s.settlePass n).link = s.link ∧ (s.settlePass n).identity = s.identity ∧
    (s.settlePass n).clock = s.clock ∧ (s.settlePass n).presence = s.presence ∧ (s.settlePass n).due = s.due ∧
    (s.settlePass n).pending = s.pending := by
  unfold State.settlePass
  try dsimp only
  repeat' split
  all_goals simp_all

/-- `settlePasses` changes nothing but the sockets, the reports. -/
@[simp] theorem State.settlePasses_frame :
    (s.settlePasses).phase = s.phase ∧ (s.settlePasses).feedA = s.feedA ∧ (s.settlePasses).feedB = s.feedB ∧
    (s.settlePasses).ceiling = s.ceiling ∧ (s.settlePasses).budget = s.budget ∧ (s.settlePasses).store = s.store ∧
    (s.settlePasses).engine = s.engine ∧ (s.settlePasses).factors = s.factors ∧ (s.settlePasses).log = s.log ∧
    (s.settlePasses).events = s.events ∧ (s.settlePasses).link = s.link ∧ (s.settlePasses).identity = s.identity ∧
    (s.settlePasses).clock = s.clock ∧ (s.settlePasses).presence = s.presence ∧ (s.settlePasses).due = s.due ∧
    (s.settlePasses).pending = s.pending := by
  refine ⟨foldl_keeps State.phase _ (by simp) _ s, foldl_keeps State.feedA _ (by simp) _ s, foldl_keeps State.feedB
    _ (by simp) _ s, foldl_keeps State.ceiling _ (by simp) _ s, foldl_keeps State.budget _ (by simp) _ s,
    foldl_keeps State.store _ (by simp) _ s, foldl_keeps State.engine _ (by simp) _ s, foldl_keeps State.factors _
    (by simp) _ s, foldl_keeps State.log _ (by simp) _ s, foldl_keeps State.events _ (by simp) _ s, foldl_keeps
    State.link _ (by simp) _ s, foldl_keeps State.identity _ (by simp) _ s, foldl_keeps State.clock _ (by simp) _ s,
    foldl_keeps State.presence _ (by simp) _ s, foldl_keeps State.due _ (by simp) _ s, foldl_keeps State.pending _
    (by simp) _ s⟩

/-- `arrive` changes nothing but the sockets, the feeds, the engine, the flags. -/
@[simp] theorem State.arrive_frame (e : EntryNo) :
    ((s.arrive e).1).phase = s.phase ∧ ((s.arrive e).1).ceiling = s.ceiling ∧ ((s.arrive e).1).budget = s.budget ∧
    ((s.arrive e).1).store = s.store ∧ ((s.arrive e).1).factors = s.factors ∧ ((s.arrive e).1).log = s.log ∧
    ((s.arrive e).1).link = s.link ∧ ((s.arrive e).1).identity = s.identity ∧ ((s.arrive e).1).clock = s.clock ∧
    ((s.arrive e).1).presence = s.presence ∧ ((s.arrive e).1).due = s.due ∧ ((s.arrive e).1).reports = s.reports ∧
    ((s.arrive e).1).pending = s.pending := by
  unfold State.arrive
  try dsimp only
  repeat' split
  all_goals simp_all

/-- `followLink` changes nothing but the sockets, the feeds, the engine, the flags. -/
@[simp] theorem State.followLink_frame :
    (s.followLink).phase = s.phase ∧ (s.followLink).ceiling = s.ceiling ∧ (s.followLink).budget = s.budget ∧
    (s.followLink).store = s.store ∧ (s.followLink).factors = s.factors ∧ (s.followLink).log = s.log ∧
    (s.followLink).link = s.link ∧ (s.followLink).identity = s.identity ∧ (s.followLink).clock = s.clock ∧
    (s.followLink).presence = s.presence ∧ (s.followLink).due = s.due ∧ (s.followLink).reports = s.reports ∧
    (s.followLink).pending = s.pending := by
  unfold State.followLink
  cases s.engine.held.link with
  | none => simp
  | some e =>
    have h := s.arrive_frame e
    rcases hr : s.arrive e with ⟨t, b⟩
    rw [hr] at h
    dsimp only at h ⊢
    rw [hr]
    cases b <;> simpa using h

/-- `passEnd` changes nothing but the sockets, the feeds, the engine, the reports, the flags. -/
@[simp] theorem State.passEnd_frame :
    (s.passEnd).phase = s.phase ∧ (s.passEnd).ceiling = s.ceiling ∧ (s.passEnd).budget = s.budget ∧
    (s.passEnd).store = s.store ∧ (s.passEnd).factors = s.factors ∧ (s.passEnd).log = s.log ∧ (s.passEnd).link = s.link ∧
    (s.passEnd).identity = s.identity ∧ (s.passEnd).clock = s.clock ∧ (s.passEnd).presence = s.presence ∧
    (s.passEnd).due = s.due ∧ (s.passEnd).pending = s.pending := by
  unfold State.passEnd
  try dsimp only
  repeat' split
  all_goals simp_all

/-- `stopForPage` changes nothing but the sockets, the feeds, the engine. -/
@[simp] theorem State.stopForPage_frame (p : Page) :
    (s.stopForPage p).phase = s.phase ∧ (s.stopForPage p).ceiling = s.ceiling ∧ (s.stopForPage p).budget = s.budget ∧
    (s.stopForPage p).store = s.store ∧ (s.stopForPage p).factors = s.factors ∧ (s.stopForPage p).log = s.log ∧
    (s.stopForPage p).events = s.events ∧ (s.stopForPage p).link = s.link ∧ (s.stopForPage p).identity = s.identity ∧
    (s.stopForPage p).clock = s.clock ∧ (s.stopForPage p).presence = s.presence ∧ (s.stopForPage p).due = s.due ∧
    (s.stopForPage p).reports = s.reports ∧ (s.stopForPage p).pending = s.pending := by
  unfold State.stopForPage
  try dsimp only
  repeat' split
  all_goals simp_all

/-- `pageCorrupt` changes nothing but the sockets, the feeds, the engine, the flags, the store. -/
@[simp] theorem State.pageCorrupt_frame (p : Page) :
    (s.pageCorrupt p).phase = s.phase ∧ (s.pageCorrupt p).ceiling = s.ceiling ∧ (s.pageCorrupt p).budget = s.budget ∧
    (s.pageCorrupt p).factors = s.factors ∧ (s.pageCorrupt p).log = s.log ∧ (s.pageCorrupt p).link = s.link ∧
    (s.pageCorrupt p).identity = s.identity ∧ (s.pageCorrupt p).clock = s.clock ∧
    (s.pageCorrupt p).presence = s.presence ∧ (s.pageCorrupt p).due = s.due ∧ (s.pageCorrupt p).reports = s.reports ∧
    (s.pageCorrupt p).pending = s.pending := by
  unfold State.pageCorrupt
  simp only [stopForPage_frame, raise_phase, raise_ceiling, raise_budget, raise_factors, raise_log, raise_link,
    raise_identity, raise_clock, raise_presence, raise_due, raise_reports, raise_pending, and_self]

/-- `checkPage` changes nothing but the sockets, the feeds, the engine, the flags, the store. -/
@[simp] theorem State.checkPage_frame (p : Page) :
    ((s.checkPage p).1).phase = s.phase ∧ ((s.checkPage p).1).ceiling = s.ceiling ∧
    ((s.checkPage p).1).budget = s.budget ∧ ((s.checkPage p).1).factors = s.factors ∧ ((s.checkPage p).1).log = s.log ∧
    ((s.checkPage p).1).link = s.link ∧ ((s.checkPage p).1).identity = s.identity ∧ ((s.checkPage p).1).clock = s.clock ∧
    ((s.checkPage p).1).presence = s.presence ∧ ((s.checkPage p).1).due = s.due ∧
    ((s.checkPage p).1).reports = s.reports ∧ ((s.checkPage p).1).pending = s.pending := by
  unfold State.checkPage
  split
  · exact s.pageCorrupt_frame p
  · exact ⟨rfl, rfl, rfl, rfl, rfl, rfl, rfl, rfl, rfl, rfl, rfl, rfl⟩

/-- `scrub` changes nothing but the sockets, the feeds, the engine, the flags, the store. -/
@[simp] theorem State.scrub_frame :
    (s.scrub).phase = s.phase ∧ (s.scrub).ceiling = s.ceiling ∧ (s.scrub).budget = s.budget ∧
    (s.scrub).factors = s.factors ∧ (s.scrub).log = s.log ∧ (s.scrub).link = s.link ∧ (s.scrub).identity = s.identity ∧
    (s.scrub).clock = s.clock ∧ (s.scrub).presence = s.presence ∧ (s.scrub).due = s.due ∧ (s.scrub).reports = s.reports ∧
    (s.scrub).pending = s.pending := by
  unfold State.scrub
  by_cases h : s.engine.state = .idle
  · rw [if_pos h]
    exact ⟨rfl, rfl, rfl, rfl, rfl, rfl, rfl, rfl, rfl, rfl, rfl, rfl⟩
  · rw [if_neg h]
    cases s.store.scrubNext with
    | none => exact ⟨rfl, rfl, rfl, rfl, rfl, rfl, rfl, rfl, rfl, rfl, rfl, rfl⟩
    | some p =>
      dsimp only
      exact State.checkPage_frame _ p

/-- `rampTimedOut` changes nothing but the sockets, the reports. -/
@[simp] theorem State.rampTimedOut_frame (n : Sock) :
    (s.rampTimedOut n).phase = s.phase ∧ (s.rampTimedOut n).feedA = s.feedA ∧ (s.rampTimedOut n).feedB = s.feedB ∧
    (s.rampTimedOut n).ceiling = s.ceiling ∧ (s.rampTimedOut n).budget = s.budget ∧ (s.rampTimedOut n).store = s.store ∧
    (s.rampTimedOut n).engine = s.engine ∧ (s.rampTimedOut n).factors = s.factors ∧ (s.rampTimedOut n).log = s.log ∧
    (s.rampTimedOut n).events = s.events ∧ (s.rampTimedOut n).link = s.link ∧ (s.rampTimedOut n).identity = s.identity ∧
    (s.rampTimedOut n).clock = s.clock ∧ (s.rampTimedOut n).presence = s.presence ∧ (s.rampTimedOut n).due = s.due ∧
    (s.rampTimedOut n).pending = s.pending := by
  unfold State.rampTimedOut
  simp

/-- `moveTimedOut` changes nothing but the sockets, the reports. -/
@[simp] theorem State.moveTimedOut_frame (n : Sock) :
    (s.moveTimedOut n).phase = s.phase ∧ (s.moveTimedOut n).feedA = s.feedA ∧ (s.moveTimedOut n).feedB = s.feedB ∧
    (s.moveTimedOut n).ceiling = s.ceiling ∧ (s.moveTimedOut n).budget = s.budget ∧ (s.moveTimedOut n).store = s.store ∧
    (s.moveTimedOut n).engine = s.engine ∧ (s.moveTimedOut n).factors = s.factors ∧ (s.moveTimedOut n).log = s.log ∧
    (s.moveTimedOut n).events = s.events ∧ (s.moveTimedOut n).link = s.link ∧ (s.moveTimedOut n).identity = s.identity ∧
    (s.moveTimedOut n).clock = s.clock ∧ (s.moveTimedOut n).presence = s.presence ∧ (s.moveTimedOut n).due = s.due ∧
    (s.moveTimedOut n).pending = s.pending := by
  unfold State.moveTimedOut
  simp

/-- `qualify` changes nothing but the sockets, the reports. -/
@[simp] theorem State.qualify_frame (n : Sock) :
    (s.qualify n).phase = s.phase ∧ (s.qualify n).feedA = s.feedA ∧ (s.qualify n).feedB = s.feedB ∧
    (s.qualify n).ceiling = s.ceiling ∧ (s.qualify n).budget = s.budget ∧ (s.qualify n).store = s.store ∧
    (s.qualify n).engine = s.engine ∧ (s.qualify n).factors = s.factors ∧ (s.qualify n).log = s.log ∧
    (s.qualify n).events = s.events ∧ (s.qualify n).link = s.link ∧ (s.qualify n).identity = s.identity ∧
    (s.qualify n).clock = s.clock ∧ (s.qualify n).presence = s.presence ∧ (s.qualify n).due = s.due ∧
    (s.qualify n).pending = s.pending := by
  unfold State.qualify
  split <;> simp

/-- `unregulated` changes nothing but the sockets, the reports. -/
@[simp] theorem State.unregulated_frame (n : Sock) :
    (s.unregulated n).phase = s.phase ∧ (s.unregulated n).feedA = s.feedA ∧ (s.unregulated n).feedB = s.feedB ∧
    (s.unregulated n).ceiling = s.ceiling ∧ (s.unregulated n).budget = s.budget ∧ (s.unregulated n).store = s.store ∧
    (s.unregulated n).engine = s.engine ∧ (s.unregulated n).factors = s.factors ∧ (s.unregulated n).log = s.log ∧
    (s.unregulated n).events = s.events ∧ (s.unregulated n).link = s.link ∧ (s.unregulated n).identity = s.identity ∧
    (s.unregulated n).clock = s.clock ∧ (s.unregulated n).presence = s.presence ∧ (s.unregulated n).due = s.due ∧
    (s.unregulated n).pending = s.pending := by
  unfold State.unregulated
  simp

/-- `tripRail` changes nothing but the sockets, the feeds, the reports. -/
@[simp] theorem State.tripRail_frame (n : Sock) :
    (s.tripRail n).phase = s.phase ∧ (s.tripRail n).ceiling = s.ceiling ∧ (s.tripRail n).budget = s.budget ∧
    (s.tripRail n).store = s.store ∧ (s.tripRail n).engine = s.engine ∧ (s.tripRail n).factors = s.factors ∧
    (s.tripRail n).log = s.log ∧ (s.tripRail n).events = s.events ∧ (s.tripRail n).link = s.link ∧
    (s.tripRail n).identity = s.identity ∧ (s.tripRail n).clock = s.clock ∧ (s.tripRail n).presence = s.presence ∧
    (s.tripRail n).due = s.due ∧ (s.tripRail n).pending = s.pending := by
  unfold State.tripRail
  simp

/-- `contactLost` changes nothing but the sockets, the reports. -/
@[simp] theorem State.contactLost_frame (n : Sock) :
    (s.contactLost n).phase = s.phase ∧ (s.contactLost n).feedA = s.feedA ∧ (s.contactLost n).feedB = s.feedB ∧
    (s.contactLost n).ceiling = s.ceiling ∧ (s.contactLost n).budget = s.budget ∧ (s.contactLost n).store = s.store ∧
    (s.contactLost n).engine = s.engine ∧ (s.contactLost n).factors = s.factors ∧ (s.contactLost n).log = s.log ∧
    (s.contactLost n).events = s.events ∧ (s.contactLost n).link = s.link ∧ (s.contactLost n).identity = s.identity ∧
    (s.contactLost n).clock = s.clock ∧ (s.contactLost n).presence = s.presence ∧ (s.contactLost n).due = s.due ∧
    (s.contactLost n).pending = s.pending := by
  unfold State.contactLost
  simp

/-- `shedNewest` changes nothing but the sockets, the feeds, the reports, the flags. -/
@[simp] theorem State.shedNewest_frame (f : FeedId) :
    (s.shedNewest f).phase = s.phase ∧ (s.shedNewest f).ceiling = s.ceiling ∧ (s.shedNewest f).budget = s.budget ∧
    (s.shedNewest f).store = s.store ∧ (s.shedNewest f).engine = s.engine ∧ (s.shedNewest f).factors = s.factors ∧
    (s.shedNewest f).log = s.log ∧ (s.shedNewest f).link = s.link ∧ (s.shedNewest f).identity = s.identity ∧
    (s.shedNewest f).clock = s.clock ∧ (s.shedNewest f).presence = s.presence ∧ (s.shedNewest f).due = s.due ∧
    (s.shedNewest f).pending = s.pending := by
  unfold State.shedNewest
  try dsimp only
  repeat' split
  all_goals simp_all

/-- `answerCalibration` changes nothing but the link. -/
@[simp] theorem State.answerCalibration_frame (n : Sock) (z : Int) :
    (s.answerCalibration n z).phase = s.phase ∧ (s.answerCalibration n z).sockets = s.sockets ∧
    (s.answerCalibration n z).feedA = s.feedA ∧ (s.answerCalibration n z).feedB = s.feedB ∧
    (s.answerCalibration n z).ceiling = s.ceiling ∧ (s.answerCalibration n z).budget = s.budget ∧
    (s.answerCalibration n z).store = s.store ∧ (s.answerCalibration n z).engine = s.engine ∧
    (s.answerCalibration n z).factors = s.factors ∧ (s.answerCalibration n z).log = s.log ∧
    (s.answerCalibration n z).events = s.events ∧ (s.answerCalibration n z).identity = s.identity ∧
    (s.answerCalibration n z).clock = s.clock ∧ (s.answerCalibration n z).presence = s.presence ∧
    (s.answerCalibration n z).due = s.due ∧ (s.answerCalibration n z).reports = s.reports ∧
    (s.answerCalibration n z).pending = s.pending := by
  unfold State.answerCalibration
  try dsimp only
  repeat' split
  all_goals simp_all

/-- `endCalibration` changes nothing but the sockets, the link. -/
@[simp] theorem State.endCalibration_frame (n : Sock) :
    (s.endCalibration n).phase = s.phase ∧ (s.endCalibration n).feedA = s.feedA ∧ (s.endCalibration n).feedB = s.feedB ∧
    (s.endCalibration n).ceiling = s.ceiling ∧ (s.endCalibration n).budget = s.budget ∧
    (s.endCalibration n).store = s.store ∧ (s.endCalibration n).engine = s.engine ∧
    (s.endCalibration n).factors = s.factors ∧ (s.endCalibration n).log = s.log ∧
    (s.endCalibration n).events = s.events ∧ (s.endCalibration n).identity = s.identity ∧
    (s.endCalibration n).clock = s.clock ∧ (s.endCalibration n).presence = s.presence ∧
    (s.endCalibration n).due = s.due ∧ (s.endCalibration n).reports = s.reports ∧
    (s.endCalibration n).pending = s.pending := by
  unfold State.endCalibration
  try dsimp only
  repeat' split
  all_goals simp_all

/-- `reportSettled` changes nothing but the reports. -/
@[simp] theorem State.reportSettled_frame (n : Sock) :
    (s.reportSettled n).phase = s.phase ∧ (s.reportSettled n).sockets = s.sockets ∧ (s.reportSettled n).feedA = s.feedA ∧
    (s.reportSettled n).feedB = s.feedB ∧ (s.reportSettled n).ceiling = s.ceiling ∧
    (s.reportSettled n).budget = s.budget ∧ (s.reportSettled n).store = s.store ∧ (s.reportSettled n).engine = s.engine ∧
    (s.reportSettled n).factors = s.factors ∧ (s.reportSettled n).log = s.log ∧ (s.reportSettled n).events = s.events ∧
    (s.reportSettled n).link = s.link ∧ (s.reportSettled n).identity = s.identity ∧ (s.reportSettled n).clock = s.clock ∧
    (s.reportSettled n).presence = s.presence ∧ (s.reportSettled n).due = s.due ∧
    (s.reportSettled n).pending = s.pending := by
  unfold State.reportSettled
  simp

/-- `reportExcursion` changes nothing but the sockets, the reports. -/
@[simp] theorem State.reportExcursion_frame (n : Sock) :
    (s.reportExcursion n).phase = s.phase ∧ (s.reportExcursion n).feedA = s.feedA ∧
    (s.reportExcursion n).feedB = s.feedB ∧ (s.reportExcursion n).ceiling = s.ceiling ∧
    (s.reportExcursion n).budget = s.budget ∧ (s.reportExcursion n).store = s.store ∧
    (s.reportExcursion n).engine = s.engine ∧ (s.reportExcursion n).factors = s.factors ∧
    (s.reportExcursion n).log = s.log ∧ (s.reportExcursion n).events = s.events ∧ (s.reportExcursion n).link = s.link ∧
    (s.reportExcursion n).identity = s.identity ∧ (s.reportExcursion n).clock = s.clock ∧
    (s.reportExcursion n).presence = s.presence ∧ (s.reportExcursion n).due = s.due ∧
    (s.reportExcursion n).pending = s.pending := by
  unfold State.reportExcursion
  simp

/-- `reportRunaway` changes nothing but the sockets, the reports. -/
@[simp] theorem State.reportRunaway_frame (n : Sock) :
    (s.reportRunaway n).phase = s.phase ∧ (s.reportRunaway n).feedA = s.feedA ∧ (s.reportRunaway n).feedB = s.feedB ∧
    (s.reportRunaway n).ceiling = s.ceiling ∧ (s.reportRunaway n).budget = s.budget ∧
    (s.reportRunaway n).store = s.store ∧ (s.reportRunaway n).engine = s.engine ∧
    (s.reportRunaway n).factors = s.factors ∧ (s.reportRunaway n).log = s.log ∧ (s.reportRunaway n).events = s.events ∧
    (s.reportRunaway n).link = s.link ∧ (s.reportRunaway n).identity = s.identity ∧ (s.reportRunaway n).clock = s.clock ∧
    (s.reportRunaway n).presence = s.presence ∧ (s.reportRunaway n).due = s.due ∧
    (s.reportRunaway n).pending = s.pending := by
  unfold State.reportRunaway
  simp

/-- `cleanRunDone` changes nothing but the sockets. -/
@[simp] theorem State.cleanRunDone_frame (n : Sock) :
    (s.cleanRunDone n).phase = s.phase ∧ (s.cleanRunDone n).feedA = s.feedA ∧ (s.cleanRunDone n).feedB = s.feedB ∧
    (s.cleanRunDone n).ceiling = s.ceiling ∧ (s.cleanRunDone n).budget = s.budget ∧ (s.cleanRunDone n).store = s.store ∧
    (s.cleanRunDone n).engine = s.engine ∧ (s.cleanRunDone n).factors = s.factors ∧ (s.cleanRunDone n).log = s.log ∧
    (s.cleanRunDone n).events = s.events ∧ (s.cleanRunDone n).link = s.link ∧ (s.cleanRunDone n).identity = s.identity ∧
    (s.cleanRunDone n).clock = s.clock ∧ (s.cleanRunDone n).presence = s.presence ∧ (s.cleanRunDone n).due = s.due ∧
    (s.cleanRunDone n).reports = s.reports ∧ (s.cleanRunDone n).pending = s.pending := by
  unfold State.cleanRunDone
  simp

/-- `releaseUnattended` changes nothing but the sockets, the feeds, the engine, the reports. -/
@[simp] theorem State.releaseUnattended_frame (n : Sock) :
    (s.releaseUnattended n).phase = s.phase ∧ (s.releaseUnattended n).ceiling = s.ceiling ∧
    (s.releaseUnattended n).budget = s.budget ∧ (s.releaseUnattended n).store = s.store ∧
    (s.releaseUnattended n).factors = s.factors ∧ (s.releaseUnattended n).log = s.log ∧
    (s.releaseUnattended n).events = s.events ∧ (s.releaseUnattended n).link = s.link ∧
    (s.releaseUnattended n).identity = s.identity ∧ (s.releaseUnattended n).clock = s.clock ∧
    (s.releaseUnattended n).presence = s.presence ∧ (s.releaseUnattended n).due = s.due ∧
    (s.releaseUnattended n).pending = s.pending := by
  unfold State.releaseUnattended
  try dsimp only
  repeat' split
  all_goals simp_all

/-- `goUnattended` changes nothing but the link. -/
@[simp] theorem State.goUnattended_frame :
    (s.goUnattended).phase = s.phase ∧ (s.goUnattended).sockets = s.sockets ∧ (s.goUnattended).feedA = s.feedA ∧
    (s.goUnattended).feedB = s.feedB ∧ (s.goUnattended).ceiling = s.ceiling ∧ (s.goUnattended).budget = s.budget ∧
    (s.goUnattended).store = s.store ∧ (s.goUnattended).engine = s.engine ∧ (s.goUnattended).factors = s.factors ∧
    (s.goUnattended).log = s.log ∧ (s.goUnattended).events = s.events ∧ (s.goUnattended).identity = s.identity ∧
    (s.goUnattended).clock = s.clock ∧ (s.goUnattended).presence = s.presence ∧ (s.goUnattended).due = s.due ∧
    (s.goUnattended).reports = s.reports ∧ (s.goUnattended).pending = s.pending := by
  unfold State.goUnattended
  simp

/-- `releaseAll` changes nothing but the sockets, the feeds, the engine, the reports, the flags. -/
@[simp] theorem State.releaseAll_frame :
    (s.releaseAll).phase = s.phase ∧ (s.releaseAll).ceiling = s.ceiling ∧ (s.releaseAll).budget = s.budget ∧
    (s.releaseAll).store = s.store ∧ (s.releaseAll).factors = s.factors ∧ (s.releaseAll).log = s.log ∧
    (s.releaseAll).link = s.link ∧ (s.releaseAll).identity = s.identity ∧ (s.releaseAll).clock = s.clock ∧
    (s.releaseAll).presence = s.presence ∧ (s.releaseAll).due = s.due ∧ (s.releaseAll).pending = s.pending := by
  unfold State.releaseAll
  simp only [raise_phase, raise_ceiling, raise_budget, raise_store, raise_factors, raise_log, raise_link, raise_identity,
    raise_clock, raise_presence, raise_due, raise_pending]
  refine ⟨?_, ?_, ?_, ?_, ?_, ?_, ?_, ?_, ?_, ?_, ?_, ?_⟩
  · rw [foldl_keeps State.phase State.releaseUnattended (fun t n => by simp)]
  · rw [foldl_keeps State.ceiling State.releaseUnattended (fun t n => by simp)]
  · rw [foldl_keeps State.budget State.releaseUnattended (fun t n => by simp)]
  · rw [foldl_keeps State.store State.releaseUnattended (fun t n => by simp)]
  · rw [foldl_keeps State.factors State.releaseUnattended (fun t n => by simp)]
  · rw [foldl_keeps State.log State.releaseUnattended (fun t n => by simp)]
  · rw [foldl_keeps State.link State.releaseUnattended (fun t n => by simp)]
  · rw [foldl_keeps State.identity State.releaseUnattended (fun t n => by simp)]
  · rw [foldl_keeps State.clock State.releaseUnattended (fun t n => by simp)]
  · rw [foldl_keeps State.presence State.releaseUnattended (fun t n => by simp)]
  · rw [foldl_keeps State.due State.releaseUnattended (fun t n => by simp)]
  · rw [foldl_keeps State.pending State.releaseUnattended (fun t n => by simp)]

/-- `silenceExpired` changes nothing but the sockets, the feeds, the engine, the reports, the flags, the link. -/
@[simp] theorem State.silenceExpired_frame :
    (s.silenceExpired).phase = s.phase ∧ (s.silenceExpired).ceiling = s.ceiling ∧ (s.silenceExpired).budget = s.budget ∧
    (s.silenceExpired).store = s.store ∧ (s.silenceExpired).factors = s.factors ∧ (s.silenceExpired).log = s.log ∧
    (s.silenceExpired).identity = s.identity ∧ (s.silenceExpired).clock = s.clock ∧
    (s.silenceExpired).presence = s.presence ∧ (s.silenceExpired).due = s.due ∧
    (s.silenceExpired).pending = s.pending := by
  unfold State.silenceExpired
  simp

/-- `noticeNotSettled` changes nothing but the sockets, the reports. -/
@[simp] theorem State.noticeNotSettled_frame (n : Sock) :
    (s.noticeNotSettled n).phase = s.phase ∧ (s.noticeNotSettled n).feedA = s.feedA ∧
    (s.noticeNotSettled n).feedB = s.feedB ∧ (s.noticeNotSettled n).ceiling = s.ceiling ∧
    (s.noticeNotSettled n).budget = s.budget ∧ (s.noticeNotSettled n).store = s.store ∧
    (s.noticeNotSettled n).engine = s.engine ∧ (s.noticeNotSettled n).factors = s.factors ∧
    (s.noticeNotSettled n).log = s.log ∧ (s.noticeNotSettled n).events = s.events ∧ (s.noticeNotSettled n).link = s.link ∧
    (s.noticeNotSettled n).identity = s.identity ∧ (s.noticeNotSettled n).clock = s.clock ∧
    (s.noticeNotSettled n).presence = s.presence ∧ (s.noticeNotSettled n).due = s.due ∧
    (s.noticeNotSettled n).pending = s.pending := by
  unfold State.noticeNotSettled State.takeNotSettled
  split <;> simp

/-- `fire` changes nothing but the sockets, the feeds, the engine, the reports, the log, the flags, the link. -/
@[simp] theorem State.fire_frame (e : Expiry) :
    (s.fire e).phase = s.phase ∧ (s.fire e).ceiling = s.ceiling ∧ (s.fire e).budget = s.budget ∧
    (s.fire e).store = s.store ∧ (s.fire e).factors = s.factors ∧ (s.fire e).identity = s.identity ∧
    (s.fire e).clock = s.clock ∧ (s.fire e).presence = s.presence ∧ (s.fire e).due = s.due ∧
    (s.fire e).pending = s.pending := by
  cases e <;> simp only [State.fire, rampTimedOut_frame, moveTimedOut_frame, qualify_frame, unregulated_frame,
    tripRail_frame, contactLost_frame, shedNewest_frame, endCalibration_frame, reportSettled_frame,
    reportExcursion_frame,
    reportRunaway_frame, fail_frame, cleanRunDone_frame, silenceExpired_frame, releaseAll_frame, noticeNotSettled_frame, passEnd_frame, and_self]

end Sys2Proof.Machine
end

