-- ==== Sys2Proof/Laws/Effects.lean ====
section
/-!
SUPPORT. What the shared operations do: a move, an evaluation of admission, a failure, the due expiries, a set request and
the taking of a frame, each said once.
-/

namespace Sys2Proof.Machine

variable (s : State)

/-! ### A move (R2) -/

@[simp] theorem State.rateAfter_socket (x : SocketSet) (m : Sock) : (s.rateAfter x).socket m = s.socket m := by
  unfold State.rateAfter
  split <;> rfl

@[simp] theorem State.rateAfter_feed (x : SocketSet) (f : FeedId) : (s.rateAfter x).feed f = s.feed f := by
  unfold State.rateAfter
  split
  · cases f <;> rfl
  · rfl

/-- A move changes the moved socket alone. -/
@[simp] theorem State.move_socket (n m : Sock) (st : SocketState) :
    (s.move n st).socket m = if m = n then (s.socket n).moved st else s.socket m := by
  have base : ∀ (t : State) (e : Engine) (x : SocketSet),
      (({ t with engine := e } : State).rateAfter x).socket m = t.socket m := fun t e x => State.rateAfter_socket _ x m
  unfold State.move
  rw [base]
  split <;> simp

/-- A move to an unpowered state takes the socket off its feed's lists; any other leaves both feeds alone. -/
theorem State.move_feed (n : Sock) (st : SocketState) (f : FeedId) :
    (s.move n st).feed f = if st.powered = false ∧ f = feedOf n then (s.feed f).leave n else s.feed f := by
  have base : ∀ (t : State) (e : Engine) (x : SocketSet), (({ t with engine := e } : State).rateAfter x).feed f = t.feed f := by
    intro t e x
    rw [State.rateAfter_feed]
    cases f <;> rfl
  unfold State.move
  rw [base]
  cases hp : st.powered with
  | true => simp
  | false =>
    by_cases hf : f = feedOf n
    · subst hf
      simp
    · simp [hf]

/-- The powered set and the participants after a move (R105, R107). -/
theorem State.move_sets (n : Sock) (st : SocketState) :
    (s.move n st).engine.powered = (s.engine.follow n st).powered ∧
    (s.move n st).engine.participants = (s.engine.follow n st).participants ∧
    (s.move n st).engine.state = s.engine.state ∧ (s.move n st).engine.table = s.engine.table ∧
    (s.move n st).engine.loopIndex = s.engine.loopIndex ∧ (s.move n st).engine.current = s.engine.current ∧
    (s.move n st).engine.held = s.engine.held ∧ (s.move n st).engine.applied = s.engine.applied ∧
    (s.move n st).engine.repeatsLeft = s.engine.repeatsLeft ∧ (s.move n st).engine.lastStop = s.engine.lastStop ∧
    (s.move n st).engine.stimulus = s.engine.stimulus := by
  unfold State.move State.rateAfter
  have listed : (if st.powered then s.modSocket n fun k => k.moved st
      else (s.modSocket n fun k => k.moved st).modFeed (feedOf n) fun g => g.leave n).engine = s.engine := by
    split <;> simp
  dsimp only
  rw [listed]
  split <;> simp [Engine.follow]

/-- The rate after a move: recomputed while IDLE when the powered set changed, else kept (R107). -/
theorem State.move_rate (n : Sock) (st : SocketState) (h : s.engine.state ≠ .idle) :
    (s.move n st).engine.rate = s.engine.rate := by
  unfold State.move State.rateAfter
  have listed : (if st.powered then s.modSocket n fun k => k.moved st
      else (s.modSocket n fun k => k.moved st).modFeed (feedOf n) fun g => g.leave n).engine = s.engine := by
    split <;> simp
  dsimp only
  rw [listed]
  simp [Engine.follow, h]

/-! ### SETTLE to RUN (R8) -/

/-- A socket that enters RUN changes whether no other socket may. -/
theorem State.mayRun_move (n m : Sock) (h : m ≠ n) : (s.move n .run).mayRun m = s.mayRun m := by
  have same : (s.move n .run).socket m = s.socket m := by simp [h]
  have state : (s.move n .run).engine.state = s.engine.state := (State.move_sets s n .run).2.2.1
  unfold State.mayRun State.permits
  rw [same, state]
  by_cases idle : s.engine.state = .idle
  · simp [idle]
  · rw [State.move_rate s n .run idle]

/-- The decisions of R8 over a list of sockets: those of the list that may run enter RUN, and no other socket changes. -/
theorem State.settleToRun_fold (m : Sock) : ∀ (l : List Sock) (s : State), l.Nodup →
    (l.foldl State.settleToRun s).socket m = if m ∈ l ∧ s.mayRun m = true then (s.socket m).moved .run else s.socket m
  | [], s, _ => by simp
  | n :: l, s, once => by
    obtain ⟨fresh, once⟩ := List.nodup_cons.mp once
    rw [List.foldl_cons, State.settleToRun_fold m l _ once, State.settleToRun]
    by_cases e : m = n
    · subst e
      cases s.mayRun m <;> simp [fresh]
    · cases s.mayRun n <;> simp [e, State.mayRun_move s n m e]

/-- The decision of R8 over all sockets: every socket that waits and may run enters RUN, and no other socket changes. -/
theorem State.decideAll_socket (m : Sock) :
    s.decideAll.socket m = if s.mayRun m then (s.socket m).moved .run else s.socket m := by
  rw [State.decideAll, State.settleToRun_fold m allSocks s (List.nodup_finRange 16)]
  simp [allSocks]

/-! ### Admission (R35) -/

/-- An evaluation of admission does nothing, or admits the head of the queue within the limit with no socket ramping. -/
theorem State.evaluate_cases (f : FeedId) :
    s.evaluate f = s ∨
    ∃ n rest, (s.feed f).queue = n :: rest ∧ s.ramping f = false ∧ s.committed f + s.admission n ≤ (s.feed f).limit ∧
      s.evaluate f = s.admitHead f n rest := by
  unfold State.evaluate
  cases hq : (s.feed f).queue with
  | nil => exact .inl rfl
  | cons n rest =>
    by_cases hc : s.ramping f = false ∧ s.committed f + s.admission n ≤ (s.feed f).limit
    · exact .inr ⟨n, rest, rfl, hc.1, hc.2, by simp only [if_pos hc]⟩
    · exact .inl (by simp only [if_neg hc])

/-- An admitted socket's rail starts its ramp; no other socket changes. -/
theorem State.admitHead_socket (f : FeedId) (n m : Sock) (rest : List Sock) :
    (s.admitHead f n rest).socket m =
      if m = n then
        { s.socket n with
            rail := (s.socket n).rail.admitted (min (s.socket n).rail.profile.setpoint s.ceiling) }
      else s.socket m := by
  unfold State.admitHead State.targetOf
  simp

/-! ### Failures (R17 to R19) -/

/-- A failure is discarded where its monitor does not run (R17). -/
theorem State.fail_discarded (n : Sock) (c : Cause) (h : c.runsIn (s.socket n).scu.state = false) : s.fail n c = s := by
  unfold State.fail
  simp [h]

/-- A failure taken: account and record, the move to its disposition, the flag of its class (R19). -/
theorem State.fail_taken (n : Sock) (c : Cause) (h : c.runsIn (s.socket n).scu.state = true) :
    s.fail n c =
      ((s.accountFailure n c (c.disposition s.link.mode)).dispose n (c.disposition s.link.mode)).raise c.flag (single n) := by
  unfold State.fail
  simp [h]

/-! ### Due expiries (log entry 2) -/

/-- What every expiry leaves alone, a fold of expiries leaves alone. -/
theorem State.fires_keep {β : Type} (p : State → β) (h : ∀ s e, p (State.fire s e) = p s) (l : List Expiry) (s : State) :
    p (l.foldl State.fire s) = p s := foldl_keeps p State.fire h l s

/-- After the due expiries are carried out, none is due. -/
@[simp] theorem State.settled_due : s.settled.due = [] := by
  unfold State.settled
  rw [State.fires_keep State.due (by simp)]

/-- Carrying out the due expiries changes neither the phase, the ceiling, the budget, the store, the factor tables, the
identity, the clock, the presence lines nor the queue of commands. -/
@[simp] theorem State.settled_frame :
    s.settled.phase = s.phase ∧ s.settled.ceiling = s.ceiling ∧ s.settled.budget = s.budget ∧
    s.settled.store = s.store ∧ s.settled.factors = s.factors ∧ s.settled.identity = s.identity ∧
    s.settled.clock = s.clock ∧ s.settled.presence = s.presence ∧ s.settled.pending = s.pending := by
  unfold State.settled
  refine ⟨?_, ?_, ?_, ?_, ?_, ?_, ?_, ?_, ?_⟩
  · rw [State.fires_keep State.phase (by simp)]
  · rw [State.fires_keep State.ceiling (by simp)]
  · rw [State.fires_keep State.budget (by simp)]
  · rw [State.fires_keep State.store (by simp)]
  · rw [State.fires_keep State.factors (by simp)]
  · rw [State.fires_keep State.identity (by simp)]
  · rw [State.fires_keep State.clock (by simp)]
  · rw [State.fires_keep State.presence (by simp)]
  · rw [State.fires_keep State.pending (by simp)]

/-- With nothing due there is nothing to carry out. -/
theorem State.settled_of_none (h : s.due = []) : s.settled = s := by
  unfold State.settled
  rw [h]
  cases s
  simp_all

/-- An expiry that is not due does not occur. -/
theorem State.occur_of_not_due (e : Expiry) (h : e ∉ s.due) : s.occur e = s := by
  unfold State.occur
  simp [h]

/-- An expiry found first is carried out alone. -/
theorem State.occur_first (e : Expiry) (rest : List Expiry) (h : s.due = e :: rest) :
    s.occur e = ({ s with due := rest } : State).fire e := by
  unfold State.occur
  simp [h]

/-! ### Reports taken (R20, R74, R162) -/

/-- With no link-silence expiry under way, a report finds every due expiry carried out. -/
theorem State.beforeReport_settled (h : .linkSilence ∉ s.due) (h' : .releases ∉ s.due) : s.beforeReport = s.settled := by
  unfold State.beforeReport
  rw [if_neg h, if_neg h']

/-- A link-silence expiry found first has its step 1 carried out before a report, and its releases stay due (log entry 31). -/
theorem State.beforeReport_silence (rest : List Expiry) (h : s.due = .linkSilence :: rest) :
    s.beforeReport = ({ s with due := .releases :: rest } : State).goUnattended := by
  unfold State.beforeReport State.occurBefore
  simp [h]

/-- Releases found first stay due behind a report. -/
theorem State.beforeReport_releases (rest : List Expiry) (h : s.due = .releases :: rest) (h' : .linkSilence ∉ rest) :
    s.beforeReport = s := by
  unfold State.beforeReport State.occurBefore
  simp [h, h']
  rw [← h]

/-- What precedes a report changes neither the phase, the ceiling, the budget, the store, the factor tables, the identity, the
clock, the presence lines nor the queue of commands. -/
theorem State.beforeReport_frame :
    s.beforeReport.phase = s.phase ∧ s.beforeReport.ceiling = s.ceiling ∧ s.beforeReport.budget = s.budget ∧
    s.beforeReport.store = s.store ∧ s.beforeReport.factors = s.factors ∧ s.beforeReport.identity = s.identity ∧
    s.beforeReport.clock = s.clock ∧ s.beforeReport.presence = s.presence ∧ s.beforeReport.pending = s.pending := by
  have fires : ∀ (l : List Expiry) (v : State),
      (l.foldl State.fire v).phase = v.phase ∧ (l.foldl State.fire v).ceiling = v.ceiling ∧
      (l.foldl State.fire v).budget = v.budget ∧ (l.foldl State.fire v).store = v.store ∧
      (l.foldl State.fire v).factors = v.factors ∧ (l.foldl State.fire v).identity = v.identity ∧
      (l.foldl State.fire v).clock = v.clock ∧ (l.foldl State.fire v).presence = v.presence ∧
      (l.foldl State.fire v).pending = v.pending := fun l v =>
    ⟨State.fires_keep State.phase (by simp) l v, State.fires_keep State.ceiling (by simp) l v,
      State.fires_keep State.budget (by simp) l v, State.fires_keep State.store (by simp) l v,
      State.fires_keep State.factors (by simp) l v, State.fires_keep State.identity (by simp) l v,
      State.fires_keep State.clock (by simp) l v, State.fires_keep State.presence (by simp) l v,
      State.fires_keep State.pending (by simp) l v⟩
  unfold State.beforeReport State.occurBefore State.goUnattended
  split
  · exact fires _ _
  · split
    · exact fires _ _
    · exact s.settled_frame

/-- A report waiting in its turn may be taken (R20). -/
theorem State.mayTake_of_waiting (n : Sock) (kind : ReportKind) (before after : List Report)
    (h : s.reports = before ++ ⟨n, kind⟩ :: after)
    (free : ∀ r ∈ before, r.socket = n → r.kind ≠ kind ∧ kind.waitsBehind r.kind = false) : s.mayTake n kind = true := by
  have none : before.find? (fun r => r.socket == n && (r.kind == kind || kind.waitsBehind r.kind)) = none := by
    rw [List.find?_eq_none]
    intro r hr
    by_cases hs : r.socket = n
    · simp [hs, free r hr hs]
    · simp [hs]
  simp [State.mayTake, h, List.find?_append, none]

/-- A report that waits and may be taken is taken off and carried out; one that may not is not there (R20, log entry 4). -/
theorem State.takeReport_cases (n : Sock) (kind : ReportKind) (take : State → State) :
    (s.mayTake n kind = true ∧
      s.takeReport n kind take = State.takeNotices n s.reports.length (take (s.drop ⟨n, kind⟩))) ∨
    (s.mayTake n kind = false ∧ s.takeReport n kind take = s) := by
  unfold State.takeReport
  cases h : s.mayTake n kind <;> simp

/-- With no notice first among the reports of the TRU about the socket, nothing is taken with a report (log entry 27). -/
theorem State.takeNotices_none (n : Sock) (k : Nat) (h : ∀ r, s.oldest n .tru = some r → r.kind ≠ .notSettled) :
    State.takeNotices n k s = s := by
  cases k with
  | zero => rfl
  | succ k =>
    unfold State.takeNotices
    cases ho : s.oldest n .tru with
    | none => rfl
    | some r => simp [h r ho]

/-! ### Set requests (R4) -/

/-- What every action on a socket keeps, a set request keeps. -/
theorem State.forSet_keeps (P : State → Prop) (set : SocketSet) (judge : State → Sock → Option Status)
    (act : State → Sock → State) (h : ∀ t n, P t → judge t n = none → P (act t n)) (hs : P s) :
    P (s.forSet set judge act).1 := by
  unfold State.forSet
  have step : ∀ (l : List Sock) (x : State × SetResult), P x.1 →
      P (l.foldl (fun (t, r) n =>
        match judge t n with
        | none => (act t n, r.add n none)
        | some reason => (t, r.add n (some reason))) x).1 := by
    intro l
    induction l with
    | nil => exact fun _ hx => hx
    | cons n l ih =>
      intro x hx
      rw [List.foldl_cons]
      refine ih _ ?_
      cases hj : judge x.1 n with
      | none => simpa [hj] using h x.1 n hx hj
      | some reason => simpa [hj] using hx
  exact step _ (s, {}) hs

/-! ### The taking of a frame (R169 to R171) -/

/-- A frame for others is counted and changes nothing else (R169). -/
theorem State.takeFrame_others (dst kind : Byte) (k : Option RequestKind) (payload : List Byte)
    (h : s.link.addressing dst = .others) : s.takeFrame dst kind k payload = s.count LinkCounters.addOther := by
  simp only [State.takeFrame, h]

/-- A group or broadcast frame is a good frame, and is carried out or refused without a reply (R169, R171). -/
theorem State.takeFrame_group (dst kind : Byte) (k : Option RequestKind) (payload : List Byte)
    (h : s.link.addressing dst = .group) :
    s.takeFrame dst kind k payload = (s.count LinkCounters.addGood).takeGroup k payload := by
  simp only [State.takeFrame, h]

/-- An individually addressed frame is a good frame, ends the silence, and is answered (R169). -/
theorem State.takeFrame_individual (dst kind : Byte) (k : Option RequestKind) (payload : List Byte)
    (h : s.link.addressing dst = .individual) :
    s.takeFrame dst kind k payload = (s.count LinkCounters.addGood).attend.takeIndividual kind k payload := by
  simp only [State.takeFrame, h]

/-- A destination that is the board's own address and not 0 is individual (R168, R169). -/
theorem Link.addressing_own {l : Link} {dst : Byte} (ha : l.address = some dst) (h0 : dst ≠ 0#8) :
    l.addressing dst = .individual := by
  unfold Link.addressing
  simp [ha, h0]

/-- Destination 0 is broadcast, for every board (R168, R169). -/
theorem Link.addressing_broadcast (l : Link) : l.addressing 0#8 = .group := by
  unfold Link.addressing
  simp

/-- A reply that waits, that of Reset Board aside, is gone at a marker, and nothing else changes (R173). -/
theorem State.abandonReply_waiting
    (h : (∃ r, s.link.reply = .pending r none) ∨ ∃ n, s.link.reply = .measuring n) :
    s.abandonReply = s.withReply .idle := by
  obtain ⟨r, h⟩ | ⟨n, h⟩ := h <;> simp [State.abandonReply, h]

/-- With no reply of the board's own a marker abandons nothing (R173). -/
@[simp] theorem State.abandonReply_idle : (s.withReply .idle).abandonReply = s.withReply .idle := rfl

end Sys2Proof.Machine
end

