-- ==== Sys2Proof/Tests/Slice0.lean ====
section
/-!
SUPPORT. The model's own tests: the well-formedness smoke, the spec's worked examples (each names where its expected values
stand), and a witness for the hypotheses of every statement.
-/

namespace Sys2Proof.Machine

/-! ### Ill-formed commands (one for each check) -/

theorem test_wf_refuses_short_identity : (Instr.identityLoadEnd .noAck (.block []) .noAck).wf = false := by decide

theorem test_wf_refuses_wide_voltage : (SenseReading.mk 65536 0).wf = false := by decide

theorem test_wf_refuses_wide_current :
    (SenseReading.mk 0 32768).wf = false ∧ (SenseReading.mk 0 (-32769)).wf = false := by decide

theorem test_wf_refuses_reading_in_tick :
    (Instr.sampleTick (Vector.replicate 16 ⟨65536, 0⟩)).wf = false := by decide +kernel

theorem test_wf_refuses_wide_temperature :
    (Instr.thermalTick (Vector.replicate 16 32768)).wf = false ∧
      (Instr.thermalTick (Vector.replicate 16 (-32769))).wf = false := by decide +kernel

theorem test_wf_refuses_reply_without_marker :
    (Instr.otherReplyPassed [0xC3#8, 1#8, 0x81#8, 0#8, 0#8, 0#8, 0#8, 0#8]).wf = false := by decide

theorem test_wf_refuses_reply_of_wrong_length :
    (Instr.otherReplyPassed [0x3C#8, 1#8, 0x81#8, 0#8, 0#8, 1#8, 0#8, 0#8]).wf = false := by decide

theorem test_wf_refuses_reply_with_long_length_byte :
    (Instr.otherReplyPassed ([0x3C#8, 1#8, 0x81#8, 0#8, 0#8, 251#8] ++ List.replicate 253 0#8)).wf = false := by decide +kernel

theorem test_wf_refuses_framing_error_of_nothing : (Instr.framingError [] false).wf = false := by decide

theorem test_wf_refuses_bad_crc_that_is_good :
    (Instr.crcErrorFrame 17#8 1#8 [] (crc16 [17#8, 1#8, 0#8])).wf = false := by decide +kernel

theorem test_wf_refuses_bad_kind_that_is_listed : (Instr.badKindFrame 17#8 0x10#8 []).wf = false := by decide

theorem test_wf_refuses_long_payload :
    (Instr.poll 17#8 (List.replicate 251 0#8)).wf = false ∧
      (Instr.frameForOthers 17#8 0x08#8 (List.replicate 251 0#8)).wf = false := by decide +kernel

theorem test_wf_refuses_failure_not_reported : (Instr.failureReportTaken 0 .settleTimeout).wf = false ∧
    (Instr.failureReportTaken 0 .railTrip).wf = false := by decide

theorem test_wf_accepts_empty_poll : (Instr.poll 17#8 []).wf = true := by decide

/-! ### Values the spec works out -/

/-- R167: the CRC over the nine bytes 0x31 to 0x39. -/
theorem test_crc_of_check_string :
    crc16 [0x31#8, 0x32#8, 0x33#8, 0x34#8, 0x35#8, 0x36#8, 0x37#8, 0x38#8, 0x39#8] = 0x29B1#16 := by decide +kernel

/-- R39: 1000 mV at 3 mV per ms times out at 534 ms; section 2.14: 1200 mV at 5 mV per ms at 440 ms. -/
theorem test_ramp_timeouts : timeoutOver 1000 3 = 534 ∧ timeoutOver 1200 5 = 440 := by decide

/-- The table of R41. -/
theorem test_bands : [400, 1000, 1200, 3333].map band = [20, 20, 24, 66] := by decide

theorem test_band_ends : inBand 3333 3267 = true ∧ inBand 3333 3266 = false ∧ inBand 3333 3399 = true ∧
    inBand 3333 3400 = false := by decide

/-- The table of R51. -/
theorem test_means : (Calibration.mk 7680 64).mean = 120 ∧ (Calibration.mk (-9) 64).mean = 0 ∧
    (Calibration.mk (-16060) 64).mean = -250 ∧ (Calibration.mk (-16100) 64).mean = -251 := by decide

theorem test_offsets : offsetOk 120 = true ∧ offsetOk (-250) = true ∧ offsetOk (-251) = false := by decide

/-- R61: with S 1250 and offsets 15, 1265 is in window and 1266 is out. -/
theorem test_window : ({ setpoint := 1250, low := 15, high := 15 } : ThermalProfile).inWindow 1265 = true ∧
    ({ setpoint := 1250, low := 15, high := 15 } : ThermalProfile).inWindow 1266 = false := by decide

/-- A regulator of section 3.15: its demand and new accumulator. -/
def regulated (accumulator : Int) (limited : Bool) (held : Int) : Nat × Int :=
  let h : Heat := { profile := { setpoint := 1250, kp := 64, ki := 32 }, accumulator, limited }
  ((h.regulate held).demand, (h.regulate held).accumulator)

/-- The five cases of section 3.15. -/
theorem test_regulator_cases : regulated 51200 false 1230 = (282, 51840) ∧ regulated 230400 false 1100 = (1000, 230400) ∧
    regulated 76800 false 1262 = (250, 76416) ∧ regulated 2560 false 1300 = (0, 2560) ∧
    regulated 76800 true 1240 = (340, 76800) := by decide

/-- Section 3.15: both scalings to a budget. -/
theorem test_scaling : scaleDuties 1500 [900, 700, 401] = [675, 525, 300] ∧
    scaleDuties 500 [333, 333, 333] = [167, 167, 166] ∧ scaleDuties 1000 [333, 333, 333] = [333, 333, 333] := by decide

/-- Section 3.15, a reading sequence: ticks 1, 2 and 4 to 6. -/
theorem test_readings :
    let h : Heat := { held := some 1248 }
    (h.read 1251).held = some 1251 ∧ ((h.read 1251).read 1490).held = some 1251 ∧
      ((h.read 1251).read 1490).implausible = 1 ∧ (((h.read 2600).read 2600).read 2600).implausible = 3 := by decide

/-- Section 6.3: interpolation rising and falling, and outside the table. -/
theorem test_factors :
    let four : List FactorPoint := [⟨1000, 64⟩, ⟨1200, 256⟩, ⟨1300, 512⟩, ⟨1400, 1024⟩]
    factorOf four 1253 = 391 ∧ factorOf [⟨1300, 512⟩, ⟨1400, 448⟩] 1337 = 489 ∧ factorOf four 950 = 64 ∧
      factorOf four 1450 = 1024 ∧ factorOf four 1000 = 64 ∧ factorOf four 1400 = 1024 := by decide

/-- Section 6.7: ticks 1, 2 and 6 of the six seconds, and the saturation. -/
theorem test_credit :
    ({ credit := 1000, residue := 200 } : Credit).accrue 391 = { credit := 1002, residue := 79 } ∧
    ({ credit := 1002, residue := 79 } : Credit).accrue 384 = { credit := 1003, residue := 207 } ∧
    ({ credit := 1003, residue := 207 } : Credit).accrue 358 = { credit := 1005, residue := 53 } ∧
    ({ credit := 4294967290, residue := 250 } : Credit).accrue 65535 = { credit := 4294967295, residue := 249 } := by
  decide

/-- Section 6.2: a commit with slot 2 unwritten fails at 2, and one with all four written succeeds. -/
theorem test_commits :
    let two : Factors := ({}  : Factors).write 0 ⟨1000, 64⟩ |>.write 1 ⟨1200, 256⟩
    let four := (two.write 2 ⟨1300, 512⟩).write 3 ⟨1400, 1024⟩
    (two.write 3 ⟨1400, 1024⟩).failing 4 = some 2 ∧ four.failing 4 = none ∧
      ((two.write 2 ⟨1200, 512⟩).write 3 ⟨1400, 1024⟩).failing 4 = some 2 ∧
      (four.commit 4).active = [⟨1000, 64⟩, ⟨1200, 256⟩, ⟨1300, 512⟩, ⟨1400, 1024⟩] := by decide

/-- R171, R184: five kinds serve groups. -/
theorem test_group_kinds :
    ((requestKinds.filter fun k => k.group).map RequestKind.code) = [0x11#8, 0x12#8, 0x13#8, 0x38#8, 0x39#8] := by decide

/-- R184: the table lists 40 kinds, none twice, and none from 0x80 upward. -/
theorem test_kind_codes : (requestKinds.map RequestKind.code).Nodup ∧ requestKinds.length = 40 ∧
    requestKinds.all (fun k => decide (k.code.toNat < 128)) = true := by decide

/-- R160: 0 gives 7200 s and 12 gives 60 s. -/
theorem test_silence_timeouts : silenceTimeout 0#8 = 7200 ∧ silenceTimeout 12#8 = 60 := by decide

/-! ### One step on a small board -/

/-- The state after a command; the state itself where the command stops, which none does. -/
def State.after (s : State) (c : Instr) : State :=
  match exec c s with
  | .next t => t
  | _ => s

/-- An identity image with every position fitted and the natives of section 2.14. -/
def image : List Byte :=
  [1#8] ++ le32 77 ++ le16 65535 ++ le16 5000 ++ le16 20000 ++ le32 20000 ++ le32 30000 ++ List.replicate 45 0#8

/-- A running board at address 17, every socket OFF with its profiles written. -/
def board : State :=
  { State.reset with
      phase := .running, ceiling := 5000,
      sockets := Vector.replicate 16
        { scu := { state := .off }, account := { mirror := .off }, rail := { written := true }, heat := { written := true },
          lane := { written := true } },
      feedA := { limit := 20000 }, feedB := { limit := 30000 }, identity := { valid := true, image },
      link := { address := some 17#8 } }

/-- The board with socket n in a state, its account's mirror included. -/
def State.put (s : State) (n : Sock) (st : SocketState) : State :=
  s.modSocket n fun k => { k with scu := { k.scu with state := st }, account := { k.account with mirror := st } }

/-- The payload of the pending reply. -/
def State.payload (s : State) : List Byte :=
  match s.link.reply with
  | .pending r _ => r.payload
  | _ => []

/-- The status of the pending reply. -/
def State.status (s : State) : Option Status :=
  match s.link.reply with
  | .pending r _ => some r.status
  | _ => none

/-- R5, R35: the first socket armed on an idle feed is admitted at once. -/
theorem test_arm_admits :
    let t := board.after (.armSockets 17#8 [8#8, 0#8] 0xFFFF#16)
    (t.socket 3).scu.state = .queued ∧ t.feedA.order = [3] ∧ t.feedA.queue = [] ∧ t.reports = [⟨3, .grant⟩] ∧
      t.payload = [8#8, 0#8, 0#8, 0#8] := by decide +kernel

/-- R5: a socket with no DUT is refused with NOT_PRESENT (0x11) and the status is PARTIAL. -/
theorem test_arm_not_present :
    let t := board.after (.armSockets 17#8 [8#8, 0#8] 0#16)
    t.payload = [0#8, 0#8, 8#8, 0#8, 0x11#8] ∧ t.status = some .partly := by decide +kernel

/-- R6: a grant taken puts the socket in RAMP. -/
theorem test_grant_taken :
    let t := (board.after (.armSockets 17#8 [8#8, 0#8] 0xFFFF#16)).after (.admissionGrantTaken 3)
    (t.socket 3).scu.state = .ramp ∧ (t.socket 3).account.mirror = .ramp ∧ t.reports = [] := by decide +kernel

/-- R1, R22: an ABSENT position is refused its clearing. -/
theorem test_clear_absent :
    ((board.put 4 .absent).after (.clearSocketAccount 17#8 [4#8])).status = some .absent := by decide +kernel

/-- Feed A of section 2.14, Lowering a feed limit: [0, 2, 5] at 6000 mA each, 7 at 8000 mA in the queue. -/
def feedCase : State :=
  let listed (s : State) (n : Sock) := (s.put n .run).modRail n fun r =>
    { r with profile := { r.profile with admission := 6000 }, commanded := 400 }
  let waiting := (board.put 7 .queued).modRail 7 fun r => { r with profile := { r.profile with admission := 8000 } }
  { listed (listed (listed waiting 0) 2) 5 with
      feedA := { limit := 20000, queue := [7], order := [0, 2, 5] } }

/-- Section 2.14: Set Feed Limit A 10000 sheds 5 and then 2. -/
theorem test_lower_limit :
    let t := feedCase.after (.setFeedLimit 17#8 (0#8 :: le32 10000))
    t.feedA.queue = [7, 5, 2] ∧ t.feedA.order = [0] ∧ t.payload = [0#8] ++ le32 10000 ++ le16 36 ++ le16 0 := by
  decide +kernel

/-- R48: below 8000 mA the queue's head is withdrawn. -/
theorem test_withdraw :
    ((feedCase.after (.setFeedLimit 17#8 (0#8 :: le32 7000))).socket 7).scu.state = .off := by decide +kernel

/-- Section 2.14, Shedding on over-limit: socket 14 is shed, and once the shed is taken socket 12 is admitted. -/
theorem test_shed :
    let admission (s : State) (n : Sock) (mA : Nat) :=
      s.modRail n fun r => { r with profile := { r.profile with admission := mA } }
    let b := (((board.put 8 .run).put 11 .run).put 14 .run).put 12 .queued
    let s : State := { admission (admission (admission (admission b 8 9000) 11 9000) 14 9000) 12 6000 with
      feedB := { limit := 30000, queue := [12], order := [8, 11, 14], overCount := 50 }, due := [.shed .b] }
    let t := s.after (.shed .b)
    let u := t.after (.shedReportTaken 14)
    t.feedB.order = [8, 11] ∧ t.feedB.overCount = 0 ∧ (t.flag .feedShed).sockets = single 14 ∧ u.feedB.order = [8, 11, 12] ∧
      u.feedB.queue = [14] ∧ (u.socket 14).account.sheds = 1 := by decide +kernel

/-- Section 2.14, A ramp: tick 236 steps to 1180 mV and is the first in band. -/
theorem test_ramp_tick :
    let r : Rail :=
      { profile := { setpoint := 1200, slew := 5 }, commanded := 1200, output := 1175, motion := .ramp 235 440,
        sensedMv := 1180 }
    (r.monitor .ramp 25000).output = 1180 ∧ (r.monitor .ramp 25000).qualCount = 1 := by decide

/-- Section 2.14, A ceiling move: Set Ceiling 1100 starts a move of 220 ms. -/
theorem test_ceiling_move :
    let s := (board.put 3 .run).modRail 3 fun r =>
      { r with profile := { r.profile with setpoint := 1200, slew := 5 }, commanded := 1200, output := 1200, qualified := true }
    let t := { s with feedA := { limit := 20000, order := [3] } }.after (.setCeiling 17#8 (le16 1100))
    t.payload = le16 1100 ++ le16 8 ∧ (t.socket 3).rail.motion = .move 0 220 ∧ (t.socket 3).rail.qualified = false := by
  decide +kernel

/-- R26: with a trip maximum of 20000 mA a trip current of 25000 is stored as 20000, and rate 1 is added. -/
theorem test_rail_profile :
    (board.after (.writeRailProfile 17#8 ([3#8] ++ le16 1200 ++ [5#8] ++ le16 6000 ++ le16 25000 ++ le16 60 ++ [1#8, 8#8]))).payload =
      le16 1200 ++ [5#8] ++ le16 6000 ++ le16 20000 ++ le16 60 ++ [1#8, 9#8] := by decide +kernel

/-- R54: a thermal profile whose limit lies below its window is refused. -/
theorem test_thermal_profile :
    (board.after (.writeThermalProfile 17#8 ([3#8] ++ le16 1250 ++ [15#8, 15#8] ++ le16 1264 ++ le16 100 ++ le16 600 ++ le16 0 ++
      [64#8, 32#8, 0#8]))).status = some .badArg := by decide +kernel

/-- R109: a test profile's target goes to the CAU. -/
theorem test_test_profile :
    ((board.after (.writeTestProfile 17#8 ([3#8, 255#8, 1#8] ++ le16 65535 ++ le32 604800))).socket 3).credit.target = 604800 := by
  decide +kernel

/-- R87: the range of ten pages from 20 with page 23 CORRUPT: 7 not verified, first failing page 23. -/
theorem test_verify :
    let s := { board with store := board.store.setCondition 23 .corrupt }
    (s.after (.verifyStore 17#8 [20#8, 10#8])).payload = [7#8, 23#8] := by decide +kernel

/-- R92, R93, R95: length 0 stands for 256 and repeat count 0 for 65536. -/
theorem test_entry : readEntry [3#8, 0#8, 15#8, 0#8, 0#8, 0#8, 255#8] =
      some { enabled := true, start := 3840, length := 256, repeats := 65536, link := none, loopHead := true } ∧
    readEntry [3#8, 1#8, 15#8, 0#8, 0#8, 0#8, 255#8] = none ∧ readEntry [3#8, 0#8, 0#8, 1#8, 1#8, 0#8, 32#8] = none := by
  decide

/-- R100: Start Sequence at an entry over an UNLOADED page leaves the engine IDLE with STORE_FAULT. -/
theorem test_start_over_unloaded :
    let s := { board with engine := { board.engine with table := board.engine.table.set 0 { enabled := true } } }
    let t := s.after (.startSequence 17#8 [0#8])
    t.engine.state = .idle ∧ t.engine.lastStop = .storeFault ∧ (t.flag .storeFault).isSet = true := by decide +kernel

/-- R171: a broadcast Stop Sequence is not answered, and a broadcast Poll is a group refusal. -/
theorem test_broadcast :
    (board.after (.stopSequence 0#8 [])).link.reply = .idle ∧ (board.after (.poll 0#8 [])).link.counters.refusals = 1 := by
  decide +kernel

/-- R165: three bytes of a request and then a gap are one framing error. -/
theorem test_gap : (board.after (.frameGapTimeout [0xC3#8, 17#8, 8#8])).link.counters.framing = 1 := by decide +kernel

/-- R167: a request with a bad CRC is counted and not answered. -/
theorem test_bad_crc :
    let t := board.after (.crcErrorFrame 17#8 8#8 [] 0#16)
    t.link.counters.crcErrors = 1 ∧ t.link.reply = .idle := by decide +kernel

/-- R172, section 11.2: the bytes of a Set Link Silence reply on the line: marker, address, kind + 0x80, status, attention,
length, payload. -/
theorem test_reply_bytes :
    let crc := crc16 [17#8, 0x84#8, 0#8, 0#8, 3#8, 2#8, 10#8, 0#8]
    ((board.after (.setLinkSilence 17#8 [2#8])).after .replyTransmitStart).link.reply =
      .sending ([0x3C#8, 17#8, 0x84#8, 0#8, 0#8, 3#8, 2#8, 10#8, 0#8] ++ le16 crc.toNat) none := by decide +kernel

/-- R155: THERMAL_FAULT and UNATTENDED set give class 2 with bit 7. -/
theorem test_attention : attention ((board.raise .unattended 0#16).raise .thermalFault (single 1)).events = 0x82#8 := by
  decide +kernel

/-- R179, R178: power-on, and a load whose three attempts fail: FAULT, every position ABSENT, the ceiling at 400 mV. -/
theorem test_failed_identity :
    let t := (State.reset.after (.powerOn 17#8)).after (.identityLoadEnd .noAck .noAck .noAck)
    t.phase = .running ∧ t.identity.valid = false ∧ t.ceiling = 400 ∧ (t.socket 0).scu.state = .absent := by decide +kernel

/-- R23: Board Reset interrupts a RUN socket and releases a HOLD one. -/
theorem test_board_reset :
    let t := ((board.put 1 .run).put 2 .hold).boardReset true
    (t.socket 1).scu.state = .off ∧ (t.socket 1).account.interrupts = 1 ∧ (t.socket 2).scu.state = .safe := by
  decide +kernel

/-- R17 to R19: OVER_TEMP taken in RUN: SAFE, one record, THERMAL_FAULT with the socket. -/
theorem test_failure :
    let t := { board.put 6 .run with reports := [⟨6, .failure .overTemp⟩] }.after (.failureReportTaken 6 .overTemp)
    (t.socket 6).scu.state = .safe ∧ t.log.records.length = 1 ∧ t.log.issued = 1 ∧
      (t.flag .thermalFault).sockets = single 6 ∧ (t.socket 6).account.firstCause = some .overTemp := by decide +kernel

/-- R21: the link-silence expiry releases a HOLD socket. -/
theorem test_unattended :
    let t := { board.put 6 .hold with due := [.linkSilence] }.after .linkSilenceExpiry
    t.link.mode = .unattended ∧ (t.socket 6).scu.state = .safe ∧ (t.socket 6).account.released = 1 ∧ t.log.issued = 0 := by
  decide +kernel

/-- R162: a failure taken while the expiry is under way: SAFE, recorded UNATTENDED, not counted as released, not in the set. -/
theorem test_failure_during_expiry :
    let s := { board.put 6 .hold with due := [.linkSilence], reports := [⟨6, .failure .overTemp⟩] }
    let t := (s.after (.failureReportTaken 6 .overTemp)).after .linkSilenceExpiry
    (t.socket 6).scu.state = .safe ∧ (t.socket 6).account.released = 0 ∧ (t.flag .unattended).isSet = true ∧
      (t.flag .unattended).sockets = 0#16 ∧ t.log.records.map FailRecord.attendance = [.unattended] := by decide +kernel

/-- R14, R34: 5 leaves from behind the head 7 and nothing is admitted; the head 7 leaves and 5 is admitted at once. -/
theorem test_power_down_queued :
    let s := { (board.put 7 .queued).put 5 .queued with feedA := { limit := 20000, queue := [7, 5] } }
    let t := s.after (.powerDownSockets 17#8 (le16 32))
    let u := s.after (.powerDownSockets 17#8 (le16 128))
    t.feedA.queue = [7] ∧ t.feedA.order = [] ∧ u.feedA.queue = [] ∧ u.feedA.order = [5] := by decide +kernel

/-- R20: of RAIL_UNREG and a trip of one socket either is taken first; after the trip's retry the failure is discarded. -/
theorem test_either_report_first :
    let s := { (board.put 6 .run).modRail 6 fun r => { r with profile := { r.profile with retries := 1 } } with
      reports := [⟨6, .failure .railUnreg⟩, ⟨6, .trip⟩] }
    let t := (s.after (.tripReportTaken 6)).after (.failureReportTaken 6 .railUnreg)
    let u := (s.after (.failureReportTaken 6 .railUnreg)).after (.tripReportTaken 6)
    (t.socket 6).scu.state = .queued ∧ t.log.issued = 0 ∧ (u.socket 6).scu.state = .safe ∧
      (u.socket 6).account.trips = 0 := by decide +kernel

/-- R74: RUNAWAY and then the not-settled notice of one tick. -/
theorem test_runaway_before_notice :
    let h : Heat :=
      { profile := { high := 200, runawayMargin := 10 }, held := some 460, inWindow := true, inWindowCount := 8,
        runawayCount := 15 }
    (((h.read 470).judge.monitor h .settle).expiries h { state := .settle } 3) = [.runaway 3, .notSettled 3] := by decide

/-- R8: an out-of-window tick clears a settled mark that stands with a count below 8. -/
theorem test_mark_cleared_below_eight :
    let h : Heat := { held := some 250, inWindow := true, inWindowCount := 2 }
    ((({ h with inWindow := false } : Heat).monitor h .settle).expiries h { state := .settle, settledMark := true } 3) =
      [.notSettled 3] := by decide

/-- R25, R44: a qualified rail in band that trips at a tick is not qualified at that tick. -/
theorem test_trip_is_unqualified :
    let k : Socket :=
      { scu := { state := .run },
        rail := { commanded := 1000, output := 1000, qualified := true, qualCount := 20, tripFilter := 2 } }
    (k.sample true 25000 ⟨1000, 99⟩).scu.unqualifiedSinceRead = false ∧
      (k.sample true 25000 ⟨1000, 101⟩).rail.tripFilter = 3 ∧
      (k.sample true 25000 ⟨1000, 101⟩).scu.unqualifiedSinceRead = true := by decide

/-- R68, R157: the one limited socket leaves, and the next scaling finds another limited: the flag is not set again; after a scaling
with none limited it is. -/
theorem test_limited_stretch :
    let demand (n : Sock) (s : State) := (s.put n .run).modHeat n fun h => { h with demand := 333 }
    let budget (mw : Nat) (s : State) := ({ s.withReply .idle with events := board.events }).after (.setHeaterBudget 17#8 (le16 mw))
    let gone := (budget 0 (demand 1 board)).move 1 .off
    let next := budget 0 (demand 4 gone)
    let anew := budget 0 (budget 500 (demand 4 gone))
    (gone.socket 1).heat.limited = false ∧ (next.socket 4).heat.limited = true ∧
      (next.flag .heaterLimited).isSet = false ∧ (anew.flag .heaterLimited).isSet = true := by decide +kernel

/-- R22, R174: a socket number above 15 is refused with a status that R22 names, whichever. -/
theorem test_clear_above_15 :
    (board.after (.clearSocketAccount 17#8 [16#8])).status = some .absent ∨
      (board.after (.clearSocketAccount 17#8 [16#8])).status = some .wrongState := by
  have h : (board.after (.clearSocketAccount 17#8 [16#8])).status =
      some (if Config.refusesAsAbsent 16#8 then Status.absent else .wrongState) := rfl
  rw [h]
  cases Config.refusesAsAbsent 16#8 <;> decide

/-- R146: trimming 5 of 0 records removes none. -/
theorem test_trim : (board.after (.trimLog 17#8 [5#8])).payload = [0#8, 0#8, 96#8] ++ List.replicate 14 0#8 := by
  decide +kernel

/-- R147: a threshold of 0 or 129 is refused, 128 is taken. -/
theorem test_threshold : (board.after (.setLogThreshold 17#8 [0#8])).status = some .badArg ∧
    (board.after (.setLogThreshold 17#8 [129#8])).status = some .badArg ∧
    (board.after (.setLogThreshold 17#8 [128#8])).log.threshold = 128 := by decide +kernel

/-! ### Witnesses: a state and operands that meet the hypotheses of each statement -/

/-- The board with a socket in any state hears address 17. -/
theorem put_hears (n : Sock) (st : SocketState) : (board.put n st).Hears 17#8 := ⟨⟨rfl, rfl, rfl, rfl⟩, rfl, by decide⟩

theorem board_hears : board.Hears 17#8 := ⟨⟨rfl, rfl, rfl, rfl⟩, rfl, by decide⟩

/-- An empty store has its canonical form. -/
theorem empty_wf : Mem.wf [] := by decide

theorem witness_StepTakesTheFrontCommand :
    ({ board with pending := [.secondTick, .passEnd] } : State).pending = .secondTick :: [.passEnd] ∧ board.pending = [] :=
  ⟨rfl, rfl⟩

theorem witness_ExpiriesComeInTheOrderFound :
    expiryOfRow .secondTick = none ∧ (∀ straps, Instr.secondTick ≠ .powerOn straps) ∧
      Instr.takesReport .secondTick = false ∧ expiryOfRow (.tripReportTaken 3) = none ∧
      Instr.takesReport (.tripReportTaken 3) = true ∧
      (let s := { board with due := [.qualification 0, .trip 3] }
       Expiry.linkSilence ∉ s.due ∧ Expiry.releases ∉ s.due ∧ s.due = [.qualification 0] ++ .trip 3 :: []) ∧
      expiryOfRow (.trip 3) = some (.trip 3) ∧ Expiry.trip 3 ∉ [Expiry.qualification 0] ∧ Expiry.trip 3 ∉ board.due ∧
      expiryOfRow .linkSilenceExpiry = some .linkSilence ∧ Expiry.releases ∉ board.due := by
  refine ⟨rfl, ?_, rfl, rfl, rfl, ⟨by decide, by decide, rfl⟩, rfl, by decide, by decide, rfl, by decide⟩
  intro straps h
  cases h

theorem witness_ARequestRowIsItsBytesOnTheLine :
    requestOfRow (.setCeiling 17#8 [0#8, 4#8]) = some (setCeilingKind, 17#8, [0#8, 4#8]) ∧
      ({ board with link := { board.link with receiver := .request [17#8] } } : State).due = [] ∧
      [0#8, 4#8].length ≤ Config.maxPayload ∧ (List.replicate 250 0#8).length ≤ Config.maxPayload :=
  ⟨rfl, rfl, by decide, by decide +kernel⟩

theorem witness_IndividualRequestsReachTheirOwner :
    requestOfRow (.poll 17#8 []) = some (pollKind, 17#8, []) ∧ board.Hears 17#8 ∧
      ([] : List Byte).length ≤ Config.maxPayload :=
  ⟨rfl, board_hears, by decide⟩

/-- A group table whose last entry alone holds a group. -/
def grouped : Vector Byte 8 := (Vector.replicate 8 255#8).set 7 200#8

theorem witness_GroupRequestsAreNotAnswered :
    requestOfRow (.stopSequence 0#8 []) = some (stopSequenceKind, 0#8, []) ∧ board.Open ∧
      board.link.addressing 0#8 = .group ∧ ({ board.link with groups := grouped } : Link).addressing 200#8 = .group ∧
      board.link.address = some 17#8 ∧ State.reset.link.address = none := by
  refine ⟨rfl, board_hears.toOpen, ?_, ?_, rfl, rfl⟩ <;> decide +kernel

/-- R168 to R170: the last entry of the table serves as the first does; an empty entry, 255, and 127 match nothing; a board without an
address takes no group frame. -/
theorem test_addressing :
    let l : Link := { board.link with groups := grouped }
    [0#8, 17#8, 200#8, 255#8, 127#8, 18#8].map l.addressing = [.group, .individual, .group, .others, .others, .others] ∧
      ({ l with address := none } : Link).addressing 200#8 = .others := by decide +kernel

theorem witness_ForeignUnknownAndBadFrames :
    board.Open ∧ requestOfRow (.poll 18#8 []) = some (pollKind, 18#8, []) ∧ board.link.addressing 18#8 = .others ∧
      board.Hears 17#8 ∧ (requestKindOf 0x00#8).isNone = true ∧
      (requestKindOf 0x80#8).isNone = true ∧ board.link.addressing 0#8 = .group ∧
      0#16 ≠ crc16 ([17#8, 8#8, 0#8] ++ []) := by
  refine ⟨board_hears.toOpen, rfl, ?_, board_hears, ?_, ?_, ?_, ?_⟩ <;> decide +kernel

theorem witness_CutAndPassedFrames :
    board.Open ∧ ([] : List Byte).length < 3 ∧
      (nat8 [17#8, 8#8, 250#8] 2 ≤ Config.maxPayload ∧ [17#8, 8#8, 250#8].length < nat8 [17#8, 8#8, 250#8] 2 + 5) ∧
      Config.maxPayload < (251#8).toNat ∧ ([] : List Byte).length < 5 ∧
      (nat8 [1#8, 0x88#8, 0#8, 0#8, 0#8, 1#8] 4 ≤ Config.maxPayload ∧
        [1#8, 0x88#8, 0#8, 0#8, 0#8, 1#8].length < nat8 [1#8, 0x88#8, 0#8, 0#8, 0#8, 1#8] 4 + 7) ∧
      replyOk [0x3C#8, 1#8, 0x81#8, 0#8, 0#8, 0#8, 0xC3#8, 0x3C#8] = true := by
  refine ⟨board_hears.toOpen, ?_⟩
  decide

theorem witness_ARepliesLife (r : Reply) (bytes : List Byte) (reset : Option Bool) :
    (board.withReply (.pending r reset)).link.reply = .pending r reset ∧
      (board.withReply (.sending bytes reset)).link.reply = .sending bytes reset ∧
      (board.withReply (.pending r reset)).due = [] ∧ (board.withReply (.sending bytes reset)).due = [] ∧
      (board.withReply (.pending r reset)).phase = .running ∧
      (board.withReply (.pending r reset)).link.receiver = .hunt ∧ (board.withReply (.measuring 3)).due = [] ∧
      (board.withReply (.measuring 3)).phase = .running ∧ (board.withReply (.measuring 3)).link.receiver = .hunt ∧
      (board.withReply (.measuring 3)).link.reply = .measuring 3 ∧
      requestOfRow (.poll 17#8 []) = some (pollKind, 17#8, []) ∧ ∀ b ∈ [0x17#8], b ≠ 0xC3#8 ∧ b ≠ 0x3C#8 :=
  ⟨rfl, rfl, rfl, rfl, rfl, rfl, rfl, rfl, rfl, rfl, rfl, by decide⟩

theorem witness_NoByteIsTakenWhileTheLinkIsClosed :
    State.reset.due = [] ∧ State.reset.listening = false ∧ (board.withReply (.sending [] none)).listening = false ∧
      requestOfRow (.poll 17#8 []) = some (pollKind, 17#8, []) := ⟨rfl, rfl, rfl, rfl⟩

theorem witness_ArmingOneSocket :
    board.Hears 17#8 ∧ (board.socket 3).scu.state = .off ∧ (board.socket 3).rail.written = true ∧
      (board.socket 3).heat.written = true ∧ (board.socket 3).lane.written = true ∧
      (board.socket 3).rail.calibration = none ∧ (board.socket 3).rail.faulted = false ∧
      SocketSet.has 8#16 3 = true ∧ board.admission 3 ≤ (board.feed (feedOf 3)).limit := by
  refine ⟨board_hears, ?_⟩
  decide +kernel

/-- Each reason for which Arm Sockets refuses a socket is reached. -/
theorem witness_ArmingOneSocket_refusals :
    (board.put 3 .absent).armJudge 3 = some .absent ∧ (board.put 3 .done).armJudge 3 = some .wrongState ∧
      (board.modRail 3 fun r => { r with written := false }).armJudge 3 = some .noProfile ∧
      (board.modRail 3 fun r => { r with calibration := some {} }).armJudge 3 = some .calibrating ∧
      (board.modRail 3 fun r => { r with faulted := true }).armJudge 3 = some .senseFault ∧
      board.armJudge 3 = some .notPresent ∧
      ({ board.modRail 3 fun r => { r with profile := { r.profile with admission := 20001 } } with
          presence := 8#16 } : State).armJudge 3 = some .overFeed := by decide +kernel

theorem witness_OperatorMovesOneSocket :
    let s := { (board.put 7 .queued).put 5 .queued with feedA := { limit := 20000, queue := [7, 5] } }
    (board.put 3 .run).Hears 17#8 ∧ ((board.put 3 .run).socket 3).scu.state = .run ∧
      ((board.put 3 .settle).socket 3).scu.state = .settle ∧ ((board.put 3 .pause).socket 3).scu.state = .pause ∧
      ((board.put 3 .hold).socket 3).scu.state = .hold ∧ ((board.put 3 .queued).socket 3).scu.state.busy = true ∧
      (s.socket 5).scu.state.busy = true ∧ 5 ∈ (s.feed (feedOf 5)).queue.tail ∧ 7 ∉ (s.feed (feedOf 7)).queue.tail := by
  refine ⟨put_hears 3 .run, ?_⟩
  decide +kernel

theorem witness_SetRequestsRefuseOtherStates :
    board.Hears 17#8 ∧ (board.socket 3).scu.state ≠ .run ∧ (board.socket 3).scu.state ≠ .settle ∧
      (board.socket 3).scu.state ≠ .pause ∧ (board.socket 3).scu.state.busy = false ∧
      (board.socket 3).scu.state ≠ .hold ∧ ((board.put 3 .absent).socket 3).scu.state = .absent := by
  refine ⟨board_hears, ?_⟩
  decide +kernel

theorem witness_SetsAreTakenInOrder :
    board.Hears 17#8 ∧ (∀ m : Sock, SocketSet.has 0x7FFF#16 m = true → m < 15) ∧
      ∀ m : Sock, SocketSet.has 0#16 m = true → m < 0 := by
  refine ⟨board_hears, ?_, ?_⟩ <;> decide +kernel

/-- Whatever admission is evaluated over: nothing waits; the head waits behind a ramp or for room; the head is admitted. -/
theorem witness_EvaluatedTo :
    let s := { (board.put 7 .queued).put 5 .ramp with feedA := { limit := 0, queue := [7] } }
    (board.feed .a).queue = [] ∧ (s.feed .a).queue = 7 :: [] ∧ (5 : Sock) ≠ 3 ∧ feedOf 5 = feedOf 3 ∧
      (s.socket 5).scu.state = .ramp ∧ (∀ k, k ≠ 3 → feedOf k = feedOf 3 → (board.socket k).scu.state ≠ .ramp) ∧
      (∀ k, board.granted k = false) ∧ (([] : List Sock).map board.admission).sum + board.admission 7 ≤ 0 ∧
      ¬(([5] : List Sock).map feedCase.admission).sum + feedCase.admission 7 ≤ 13999 := by decide +kernel

theorem witness_ReadSocketStatusClearsItsLatches :
    board.Hears 17#8 ∧ 15 < (16#8).toNat ∧ 15 < (255#8).toNat := ⟨board_hears, by decide, by decide⟩

theorem witness_ClearingOneAccount :
    (board.put 3 .done).Hears 17#8 ∧ ((board.put 3 .done).socket 3).scu.state = .done ∧
      ((board.put 3 .safe).socket 3).scu.state = .safe ∧ (board.socket 3).scu.state = .off ∧
      ((board.put 3 .absent).socket 3).scu.state = .absent ∧ ((board.put 3 .hold).socket 3).scu.state.busy = true := by
  refine ⟨put_hears 3 .done, ?_⟩
  decide +kernel

theorem witness_ClearingAllAccounts :
    board.Hears 17#8 ∧ (∀ n, (board.socket n).scu.state.busy = false) ∧
      ∃ n, ((board.put 3 .queued).socket n).scu.state.busy = true := by
  refine ⟨board_hears, ?_, 3, ?_⟩ <;> decide +kernel

/-- The board with one report about socket 3 waiting, the socket in a state. -/
def waiting (st : SocketState) (kind : ReportKind) : State := { board.put 3 st with reports := [⟨3, kind⟩] }

/-- Every report can be the one report waiting. -/
theorem waiting_reported (st : SocketState) (kind : ReportKind) : (waiting st kind).Reported 3 kind :=
  ⟨⟨⟨[], [], rfl, by simp⟩, by simp [State.oldest, State.drop, waiting]⟩, rfl⟩

/-- A report of another block that was sent later may be taken first (R20). -/
theorem later_reported :
    ({ board.put 3 .run with reports := [⟨3, .failure .railUnreg⟩, ⟨3, .trip⟩] } : State).Reported 3 .trip := by
  refine ⟨⟨⟨[⟨3, .failure .railUnreg⟩], [], rfl, ?_⟩, ?_⟩, rfl⟩ <;> decide

/-- A report may be taken while a notice about another socket waits, and while one about its own waits behind another report of the
TRU (R70, R74; log entry 27). -/
theorem noticed_reported :
    let two (kind : ReportKind) : List Report := [⟨5, .settled⟩, ⟨5, .notSettled⟩, ⟨3, kind⟩]
    ({ board.put 3 .run with reports := two (.failure .overTemp) } : State).Reported 3 (.failure .overTemp) ∧
      ({ board.put 3 .settle with reports := two .settled ++ [⟨3, .notSettled⟩, ⟨3, .trip⟩] } : State).Reported 3 .trip := by
  refine ⟨⟨⟨⟨[⟨5, .settled⟩, ⟨5, .notSettled⟩], [], rfl, ?_⟩, ?_⟩, rfl⟩,
    ⟨⟨[⟨5, .settled⟩, ⟨5, .notSettled⟩, ⟨3, .settled⟩, ⟨3, .notSettled⟩], [], rfl, ?_⟩, ?_⟩, rfl⟩ <;> decide

theorem witness_GrantsAndQualificationsTaken :
    (waiting .queued .grant).Reported 3 .grant ∧ (waiting .queued .grant).granted 3 = true ∧
      (waiting .off .grant).Reported 3 .grant ∧ (waiting .off .grant).granted 3 = false := by
  refine ⟨waiting_reported _ _, ?_, waiting_reported _ _, ?_⟩ <;> decide +kernel

theorem witness_GrantsAndQualificationsTaken_ramp :
    (waiting .ramp .qualified).Reported 3 .qualified ∧ ((waiting .ramp .qualified).socket 3).scu.state = .ramp ∧
      ((waiting .hold .qualified).socket 3).scu.state ≠ .ramp := by
  refine ⟨waiting_reported _ _, ?_⟩
  decide +kernel

/-- A settled report waiting while the engine runs at rate 4, which the default rail profile does not permit. -/
def settledTooFast : State :=
  { waiting .settle .settled with engine := { state := .run, current := some 0, rate := .r4 } }

theorem witness_ASettledReportTaken :
    (waiting .settle .settled).Reported 3 .settled ∧ ((waiting .settle .settled).socket 3).scu.state = .settle ∧
      (waiting .settle .settled).engine.state = .idle ∧ settledTooFast.Reported 3 .settled ∧
      ¬(settledTooFast.engine.state = .idle ∨ settledTooFast.permits 3 settledTooFast.engine.rate = true) ∧
      ((waiting .run .settled).socket 3).scu.state ≠ .settle := by
  have h := waiting_reported .settle .settled
  refine ⟨h, ?_, ?_, ⟨⟨h.inTurn, h.noNotice⟩, rfl⟩, ?_, ?_⟩ <;> decide +kernel

theorem witness_ATargetTaken :
    (waiting .run .target).Reported 3 .target ∧ ((waiting .run .target).socket 3).scu.state = .run ∧
      ((waiting .pause .target).socket 3).scu.state ≠ .run := by
  refine ⟨waiting_reported _ _, ?_⟩
  decide +kernel

/-- A trip waiting of a socket with one retry left. -/
def retryLeft : State :=
  (waiting .run .trip).modRail 3 fun r => { r with profile := { r.profile with retries := 1 } }

theorem witness_ATripTaken :
    retryLeft.Reported 3 .trip ∧ (retryLeft.socket 3).scu.state.powered = true ∧ (retryLeft.socket 3).scu.state ≠ .hold ∧
      (retryLeft.socket 3).scu.tripCount < (retryLeft.socket 3).rail.profile.retries ∧
      ((waiting .run .trip).socket 3).rail.profile.retries ≤ ((waiting .run .trip).socket 3).scu.tripCount ∧
      ((waiting .off .trip).socket 3).scu.state.powered = false := by
  have h := waiting_reported .run .trip
  refine ⟨⟨⟨h.inTurn, h.noNotice⟩, rfl⟩, ?_⟩
  decide +kernel

theorem witness_AShedTaken :
    (waiting .hold .shed).Reported 3 .shed ∧ ((waiting .hold .shed).socket 3).scu.state.powered = true ∧
      ((waiting .queued .shed).socket 3).scu.state.powered = false := by
  refine ⟨waiting_reported _ _, ?_⟩
  decide +kernel

theorem witness_AFailureTaken :
    (waiting .run (.failure .compareFail)).Reported 3 (.failure .compareFail) ∧
      Cause.compareFail.runsIn ((waiting .run (.failure .compareFail)).socket 3).scu.state = true ∧
      Cause.compareFail.runsIn ((waiting .pause (.failure .compareFail)).socket 3).scu.state = false ∧
      Cause.compareFail.disposition .attended = .hold ∧ Cause.compareFail.disposition .unattended = .safe := by
  refine ⟨waiting_reported _ _, ?_⟩
  decide +kernel

theorem witness_ReportingExpiries (e : Expiry) :
    ({ board with due := e :: [.passEnd] } : State).due = e :: [.passEnd] ∧
      ({ feedCase with due := e :: [.passEnd] } : State).due = e :: [.passEnd] ∧ board.inOrder 2 = false ∧
      feedCase.inOrder 2 = true := by
  refine ⟨rfl, rfl, ?_, ?_⟩ <;> decide +kernel

theorem witness_TripsAndShedsAtTheSupply :
    let s := { feedCase with due := [.trip 2] }
    let t := { feedCase with due := [.shed (feedOf 5)] }
    s.due = .trip 2 :: [] ∧ (s.feed (feedOf 2)).order.Nodup ∧ 2 ∈ (s.feed (feedOf 2)).order ∧
      t.due = .shed (feedOf 5) :: [] ∧ (t.feed (feedOf 5)).order = [0, 2] ++ [5] ∧ (5 : Sock) ∉ [(0 : Sock), 2] := by
  decide +kernel

theorem witness_AMeasurementBeginsAndEnds :
    let c : Calibration := { sum := -16100, ticks := 64 }
    let s := { board.modRail 3 fun r => { r with calibration := some c } with due := [.calibrationEnd 3] }
    board.Hears 17#8 ∧ (board.socket 3).scu.state ≠ .absent ∧ (board.socket 3).scu.state.busy = false ∧
      (board.socket 3).rail.calibration = none ∧ s.due = .calibrationEnd 3 :: [] ∧
      (s.socket 3).rail.calibration = some c ∧ s.link.reply ≠ .measuring 3 ∧
      (s.withReply (.measuring 3)).link.reply = .measuring 3 ∧ 15 < (16#8).toNat := by
  refine ⟨board_hears, ?_⟩
  decide +kernel

theorem witness_SettleTimeoutAndCleanRun :
    let s := { board.put 3 .settle with due := [.settleTimeout 3] }
    s.due = .settleTimeout 3 :: [] ∧ (s.socket 3).scu.state = .settle ∧
      ({ board with due := [.settleTimeout 3] } : State).due = .settleTimeout 3 :: [] ∧
      (board.socket 3).scu.state ≠ .settle ∧
      ({ board.put 3 .run with due := [.cleanRun 3] } : State).due = .cleanRun 3 :: [] := by decide +kernel

theorem witness_TheLinkSilenceExpires :
    let s := { waiting .hold (.failure .overTemp) with due := [.linkSilence] }
    s.due = .linkSilence :: [] ∧ s.Waits 3 (.failure .overTemp) ∧ (s.socket 3).scu.state = .hold ∧
      Cause.overTemp.runsIn .hold = true ∧ s.log.records.length < 128 ∧
      ({ board.put 3 .hold with due := [.releases] } : State).due = .releases :: [] ∧
      Expiry.linkSilence ∉ ([] : List Expiry) := by
  have h := waiting_reported .hold (.failure .overTemp)
  refine ⟨rfl, ⟨h.inTurn, h.noNotice⟩, ?_, ?_, ?_, rfl, ?_⟩ <;> decide +kernel

/-- The board with its engine in the last vector's pass end due, at an entry, with repeats left. -/
def passing (held : SeqEntry) (left : Nat) (state : EngineState) (condition : PageCondition) : State :=
  { board with
      due := [.passEnd], store := board.store.setCondition 0 condition,
      engine := { state, current := some 0, held, repeatsLeft := left, table := Vector.replicate 32 held } }

theorem witness_APassEnds :
    let linked : SeqEntry := { enabled := true, link := some 1 }
    let off : SeqEntry := { link := some 1 }
    (passing linked 2 .run .good).due = .passEnd :: [] ∧ (passing linked 2 .run .good).engine.state ≠ .idle ∧
      1 < (passing linked 2 .run .good).engine.repeatsLeft ∧
      (passing linked 2 (.stopping .storeFault) .good).engine.state = .stopping .storeFault ∧
      (passing {} 1 .run .good).engine.repeatsLeft ≤ 1 ∧ (passing {} 1 .run .good).engine.held.link = none ∧
      (passing off 1 .run .good).engine.held.link = some 1 ∧
      ((passing off 1 .run .good).engine.table.get 1).enabled = false ∧
      ((passing linked 1 .run .good).engine.table.get 1).enabled = true ∧
      (∃ p ∈ linked.pages, (passing linked 1 .run .corrupt).store.condition p ≠ .good) ∧
      ∀ p ∈ linked.pages, (passing linked 1 .run .good).store.condition p = .good := by decide +kernel

/-- A participant whose pass compared, and one whose pass failed. -/
theorem witness_APassEnds_participant :
    let c : Capture := ⟨0, 0, 5, 1#8, 0#8, 1#8⟩
    let s := (passing {} 1 .run .good).modLane 3 fun l => { l with result := { compared := true, candidate := some c } }
    let t := { s with engine := { s.engine with participants := single 3 } }
    t.due = .passEnd :: [] ∧ t.engine.state ≠ .idle ∧ SocketSet.has t.engine.participants 3 = true ∧
      (t.socket 3).lane.result.compared = true ∧ (t.socket 3).lane.result.candidate = some c ∧
      (t.socket 4).lane.result.candidate = none ∧ SocketSet.has t.engine.participants 4 = false := by decide +kernel

/-- R8, R102, R104: a settled socket that waits in SETTLE runs when a pass end makes the engine IDLE, and at one after which the rate
is permitted; one without its mark waits on. -/
theorem test_settled_runs_at_pass_end :
    let wait (s : State) := (s.put 3 .settle).put 4 .settle |>.modScu 3 fun r => { r with settledMark := true }
    let idle := (wait (passing {} 1 (.stopping .stopRequest) .good)).after .passEnd
    let running := (wait (passing {} 2 .run .good)).after .passEnd
    let faster := wait (passing {} 2 .run .good)
    let powered := { faster with engine := { faster.engine with powered := single 3 } }.after .passEnd
    idle.engine.state = .idle ∧ (idle.socket 3).scu.state = .run ∧ (idle.socket 4).scu.state = .settle ∧
      running.engine.state = .run ∧ (running.socket 3).scu.state = .settle ∧ (powered.socket 3).scu.state = .run ∧
      SocketSet.has powered.engine.participants 3 = true := by decide +kernel

/-- R33, R41: a rail in no order list qualifies at no tick, however many samples are in band; a listed one does. -/
theorem test_only_listed_rails_qualify :
    let readings : Vector SenseReading 16 := Vector.replicate 16 ⟨0, 0⟩
    let s := (feedCase.modRail 2 fun r => { r with qualCount := 19, commanded := 0 }).modRail 9 fun r => { r with qualCount := 19 }
    let t := s.after (.sampleTick readings)
    Expiry.qualification 2 ∈ t.due ∧ Expiry.qualification 9 ∉ t.due ∧
      ((t.after (.qualification 2)).socket 2).rail.qualified = true := by decide +kernel

theorem witness_ASampleTick :
    let s := { board.put 3 .ramp with feedA := { limit := 20000, order := [3] } }
    s.due = [] ∧ s.phase ≠ .starting ∧ s.inOrder 3 = true ∧ s.inOrder 4 = false := by decide +kernel

/-- R37, R46, R51: at one sample tick the trips of feed A stand in ascending order before its shed, and the end of a measurement behind
both (log entry 33). -/
theorem test_sample_tick_order :
    let tripping (n : Sock) (s : State) := (s.put n .run).modRail n fun r => { r with tripFilter := 2 }
    let s := (tripping 0 (tripping 6 (board.put 3 .hold))).modRail 9 fun r => { r with calibration := some { sum := 0, ticks := 63 } }
    let t := { s with feedA := { limit := 100, order := [6, 3, 0], overCount := 49 } }.after
      (.sampleTick (Vector.replicate 16 ⟨0, 101⟩))
    t.due = [.trip 0, .trip 6, .shed .a, .calibrationEnd 9] := by decide +kernel

theorem witness_ScalingIsExact :
    [900, 700, 401].sum ≤ 2001 ∧ 1500 < [900, 700, 401].sum ∧ ([900, 700, 401] : List Nat)[2]? = some 401 := by decide

theorem witness_AThermalTick :
    (board.put 3 .run).due = [] ∧ (board.put 3 .run).phase = .running ∧
      ((board.put 3 .run).socket 3).scu.state.powered = true ∧ ((board.put 3 .run).socket 3).scu.state ≠ .absent ∧
      ((board.put 3 .absent).socket 3).scu.state = .absent ∧ (board.socket 4).scu.state.powered = false := by
  decide +kernel

theorem witness_AThermalTickWatches :
    let s := (board.put 3 .settle).modHeat 3 fun h => { h with held := some 250, inWindow := true, inWindowCount := 8 }
    s.due = [] ∧ s.phase = .running ∧ (s.socket 3).heat.held = some 250 ∧ (s.socket 3).heat.inWindowCount = 8 ∧
      (∀ n, (s.socket n).heat.lastLimited = false) ∧
      (∀ r ∈ s.reports, r.socket = 3 → r.kind.sender ≠ .tru) ∧
      (∃ r ∈ (waiting .settle .settled).reports, r.socket = 3 ∧ r.kind.sender = .tru) ∧
      ({ s with reports := [⟨3, .settled⟩, ⟨3, .notSettled⟩] } : State).reports = [⟨3, .settled⟩, ⟨3, .notSettled⟩] := by
  decide +kernel

/-- Socket 3 in SETTLE with its settled mark, its EXCURSION report from RUN still waiting, a notice behind it and a report about
socket 5 between. -/
def noticeBehind : State :=
  { (board.put 3 .settle).modScu 3 fun r => { r with settledMark := true } with
      reports := [⟨3, .failure .excursion⟩, ⟨5, .settled⟩, ⟨3, .notSettled⟩] }

theorem witness_AThermalTickWatches_notice :
    reportOfRow (.failureReportTaken 3 .excursion) = some ⟨3, .failure .excursion⟩ ∧
      (ReportKind.failure .excursion).sender = .tru ∧ noticeBehind.due = [] ∧
      noticeBehind.reports = [] ++ ⟨3, .failure .excursion⟩ :: ([⟨5, .settled⟩] ++ ⟨3, .notSettled⟩ :: []) ∧
      (∀ r ∈ [] ++ [(⟨5, .settled⟩ : Report)], r.socket = 3 → r.kind.sender ≠ .tru) ∧
      ∃ u, exec (.failureReportTaken 3 .excursion)
        { noticeBehind with reports := [] ++ ⟨3, .failure .excursion⟩ :: ([⟨5, .settled⟩] ++ []) } = .next u :=
  ⟨rfl, rfl, rfl, rfl, by decide, _, rfl⟩

/-- R70, R74: a failure that is discarded in SETTLE takes the notice behind it, and the mark is cleared; a report about another socket
leaves both. -/
theorem test_notice_taken_with_a_failure :
    let t := noticeBehind.after (.failureReportTaken 3 .excursion)
    let u := noticeBehind.after (.settledReportTaken 5)
    t.reports = [⟨5, .settled⟩] ∧ (t.socket 3).scu.settledMark = false ∧ (t.socket 3).scu.state = .settle ∧
      u.reports = [⟨3, .failure .excursion⟩, ⟨3, .notSettled⟩] ∧ (u.socket 3).scu.settledMark = true := by decide +kernel

/-- R68, R69: under a budget of 0 three demands are limited and the flag takes them; a second such rescale adds none. -/
theorem test_limited_sets_the_flag :
    let demand (n : Sock) (s : State) := (s.put n .run).modHeat n fun h => { h with demand := 333 }
    let t := (demand 1 (demand 4 (demand 6 board))).after (.setHeaterBudget 17#8 (le16 0))
    let clear (s : State) : State := { s.withReply .idle with events := board.events }
    let u := (clear t).after (.setHeaterBudget 17#8 (le16 0))
    (t.flag .heaterLimited).isSet = true ∧ (t.flag .heaterLimited).sockets = 82#16 ∧
      (t.socket 4).scu.heaterLimitedSinceRead = true ∧ (u.flag .heaterLimited).isSet = false := by decide +kernel

/-- A thermal tick at which a heated socket becomes limited: a demand, and a budget of 0 (R68). -/
theorem witness_AThermalTickWatches_limited :
    let s := (board.put 3 .settle).modHeat 3 fun h => { h with profile := { h.profile with kp := 255 } }
    (∀ n, (s.socket n).heat.lastLimited = false) ∧
      ((s.after (.thermalTick (Vector.replicate 16 0))).socket 3).heat.limited = true := by decide +kernel

/-- Socket 3 in RUN, eligible, at 25 degrees, with a target of one second, while the engine runs. -/
def accruing : State :=
  let s := (board.put 3 .run).modHeat 3 fun h => { h with held := some 250, inWindow := true }
  let q := (s.modRail 3 fun r => { r with qualified := true }).modSocket 3 fun k =>
    { k with credit := { k.credit with target := 1 } }
  { q with engine := { state := .run, current := some 0, rate := .r1 } }

theorem witness_EachSettingHasItsOneCommand :
    Instr.isEvent .secondTick = true ∧ exec .secondTick accruing = .next (accruing.after .secondTick) ∧
      requestOfRow (.poll 17#8 []) = some (pollKind, 17#8, []) ∧ board.Hears 17#8 ∧
      exec (.poll 17#8 []) board = .next (board.after (.poll 17#8 [])) :=
  ⟨rfl, rfl, rfl, board_hears, rfl⟩

theorem witness_ASecondTick :
    accruing.due = [] ∧ accruing.phase ≠ .starting ∧ (accruing.socket 3).scu.state = .run ∧
      accruing.engine.state ≠ .idle ∧ (accruing.socket 3).rail.qualified = true ∧
      (accruing.socket 3).heat.inWindow = true ∧ accruing.link.mode = .attended ∧
      ({ board.link with mode := .unattended } : Link).mode = .unattended ∧ (accruing.socket 3).heat.held = some 250 ∧
      accruing.factors.active = [] ++ ⟨-500, 256⟩ :: ⟨2500, 256⟩ :: [] := by decide +kernel

/-- R9, R128, R160: at one second tick the timeouts of sockets 2 and 6, in ascending order, stand before the link silence; the socket in
RUN whose target is met is the one reported, and one in PAUSE with its target met is not. -/
theorem test_second_tick_order :
    let expiring (n : Sock) (s : State) := (s.put n .settle).modScu n fun r => { r with settleTimer := 600 }
    let s := (expiring 6 (expiring 2 (accruing.put 4 .pause))).modSocket 4 fun k => { k with credit := { k.credit with target := 1, credit := 1 } }
    let t := { s with link := { s.link with silence := 59 } }.after .secondTick
    t.due = [.settleTimeout 2, .settleTimeout 6, .linkSilence] ∧ t.reports = [⟨3, .target⟩] := by decide +kernel

/-- A running board whose pass, with socket 3 taking part on all lanes, is at vector 65 of a GOOD page 1: drive 0x1234, expected 0xF0, care 0x0F,
to be compared. -/
def comparing : State :=
  let s := accruing.modLane 3 fun l => { l with heldLanes := 0xFF#8 }
  { s with
      store :=
        { s.store.setCondition 1 .good with mem := [(325, 0x34#8), (326, 0x12#8), (327, 0xF0#8), (328, 0x0F#8), (329, 1#8)] },
      engine := { s.engine with held := { start := 64, length := 2 }, applied := 1, participants := single 3 } }

/-- R78, R98, R110: the drive pattern is on the lines; the response 0xAA differs from 0xF0 on cared lines and is captured under the
mask; a socket that takes no part keeps its result. -/
theorem test_vector_step :
    let t := comparing.after (.vectorStep (Vector.replicate 16 0xAA#8))
    t.engine.stimulus = 0x1234#16 ∧ (t.socket 3).lane.result =
      { compared := true, candidate := some { loopIndex := 0, entry := 0, vector := 65, observed := 0xAA#8, expected := 0xF0#8,
                                              mask := 0x0F#8 } } ∧
      (t.socket 2).lane.result = {} ∧ t.due = [.passEnd] := by decide +kernel

theorem witness_VectorsAndUpsets :
    comparing.due = [] ∧ comparing.engine.current = some 0 ∧ SocketSet.has comparing.engine.participants 3 = true ∧
      (Mem.read comparing.store.mem 329).getLsbD 0 = true ∧
      Mem.read comparing.store.mem 328 &&& (comparing.socket 3).lane.heldLanes ≠ 0#8 ∧
      (comparing.socket 3).lane.result.candidate = none ∧ SocketSet.has comparing.engine.participants 2 = false ∧
      comparing.store.condition 1 ≠ .unloaded ∧ accruing.store.condition 0 = .unloaded ∧ board.engine.current = none ∧
      board.MemoryOk := by
  refine ⟨rfl, rfl, ?_, ?_, ?_, ?_, ?_, ?_, ?_, rfl, empty_wf⟩ <;> decide +kernel

theorem witness_ProfilesAreStored :
    let rail := writeRailBytes {}
    let thermal := writeThermalBytes {}
    let test := writeTestBytes {}
    board.Hears 17#8 ∧ rail.length = 11 ∧ thermal.length = 15 ∧ test.length = 8 ∧
      (board.socket 3).scu.state.busy = false ∧ ((board.put 3 .queued).socket 3).scu.state.busy = true ∧
      (readRailProfile board.identity.tripMax rail).isSome = true ∧
      readRailProfile board.identity.tripMax (List.replicate 11 0#8) = none ∧
      (readThermalProfile thermal).isSome = true ∧ readThermalProfile (List.replicate 15 0#8) = none ∧
      (readTestProfile test).isSome = true ∧ readTestProfile (List.replicate 8 0#8) = none ∧ 15 < (16#8).toNat := by
  refine ⟨board_hears, ?_⟩
  decide +kernel

/-- The ends of the ranges: the least and the largest of each profile field that the rules bound. -/
theorem witness_ProfilesReadBackAsSent :
    let low : RailProfile := {}
    let high : RailProfile :=
      { setpoint := 5000, slew := 250, admission := 25000, trip := 25000, under := 24999, retries := 7, rates := 15#4 }
    let cold : ThermalProfile :=
      { setpoint := -400, low := 1, high := 1, overTemp := -399, runawayMargin := 10, settleTimeout := 10 }
    let hot : ThermalProfile :=
      { setpoint := 2000, low := 200, high := 200, overTemp := 2500, runawayMargin := 500, settleTimeout := 65535,
        excursionLimit := 3600, kp := 255, ki := 255, edge := .both }
    let entry : SeqEntry := { enabled := true, start := 3840, length := 256, repeats := 65536, link := some 31 }
    readRailProfile 100 (writeRailBytes low) = some low ∧ readRailProfile 25000 (writeRailBytes high) = some high ∧
      readThermalProfile (writeThermalBytes cold) = some cold ∧ readThermalProfile (writeThermalBytes hot) = some hot ∧
      readTestProfile (writeTestBytes { threshold := 16, target := 4294967295 }) =
        some { threshold := 16, target := 4294967295 } ∧
      readEntry (writeEntryBytes entry) = some entry ∧ low.under < low.trip ∧ low.rates.getLsbD 0 = true ∧
      cold.setpoint + cold.high ≤ cold.overTemp ∧ entry.start + entry.length ≤ 4096 := by decide +kernel

/-- Just outside the ranges nothing is read. -/
theorem test_profiles_out_of_range :
    readRailProfile 25000 (writeRailBytes { setpoint := 399 }) = none ∧ readRailProfile 25000 (writeRailBytes { setpoint := 5001 }) = none ∧
      readRailProfile 25000 (writeRailBytes { trip := 99 }) = none ∧ readRailProfile 25000 (writeRailBytes { retries := 8 }) = none ∧
      readThermalProfile (writeThermalBytes { setpoint := 2001, overTemp := 2400 }) = none ∧
      readThermalProfile (writeThermalBytes { overTemp := 269 }) = none ∧
      readTestProfile (writeTestBytes { threshold := 17 }) = none ∧
      readEntry (writeEntryBytes { start := 4096 }) = none := by decide +kernel

theorem witness_SetCeilingRetargets :
    let s := { board.put 3 .run with feedA := { limit := 20000, order := [3] } }
    board.Hears 17#8 ∧ 65535 ≤ 65535 ∧ s.inOrder 3 = true ∧ (s.socket 3).rail.commanded ≠ 400 ∧
      (s.socket 3).scu.state.regulated = true ∧ ((s.put 3 .ramp).socket 3).scu.state.regulated = false := by
  refine ⟨board_hears, ?_⟩
  decide +kernel

/-- The feed of section 2.14 is sound. -/
theorem feedCase_sound : feedCase.SupplyOk := by
  refine ⟨?_, ?_, ?_, ?_, ?_⟩
  · intro h
    exact absurd rfl h
  · intro f
    cases f <;> refine ⟨?_, ?_, ?_, ?_, ?_, ?_, ?_⟩ <;> decide +kernel
  · decide +kernel
  · decide +kernel
  · decide +kernel

theorem witness_SetFeedLimitShedsToFit :
    feedCase.Hears 17#8 ∧ feedCase.SupplyOk ∧ 4294967295 ≤ 4294967295 ∧ 1 < (2#8).toNat ∧
      [0#8, 0#8, 0#8, 0#8].length = 4 :=
  ⟨⟨⟨rfl, rfl, rfl, rfl⟩, rfl, by decide⟩, feedCase_sound, by decide, by decide, rfl⟩

/-- R48, R35: at 11000 mA sockets 5 and 2 are shed and the head 7, which asks for 4000 mA, is admitted behind 0. -/
theorem test_shed_then_admit :
    let s := feedCase.modRail 7 fun r => { r with profile := { r.profile with admission := 4000 } }
    let t := s.after (.setFeedLimit 17#8 (0#8 :: le32 11000))
    t.feedA.queue = [5, 2] ∧ t.feedA.order = [0, 7] ∧ t.reports = [⟨7, .grant⟩] := by decide +kernel

theorem witness_TheHeaterBudgetRescales :
    board.Hears 17#8 ∧ 16001 ≤ 65535 ∧ 16000 < 16001 ∧ 16000 ≤ 16000 := ⟨board_hears, by decide, by decide, by decide⟩

theorem witness_VectorsAreLoaded :
    board.Hears 17#8 ∧ board.MemoryOk ∧ board.engine.state = .idle ∧ accruing.engine.state ≠ .idle ∧
      4095 + 1 ≤ 4096 ∧ 4096 < 4095 + 2 ∧ (List.replicate 240 0#8).length = 5 * 48 := by
  refine ⟨board_hears, empty_wf, rfl, ?_, ?_, ?_, ?_⟩ <;> decide +kernel

/-- Page 3 GOOD with a check word that its zeros do not match. -/
def upsetPage : State :=
  { accruing with
      store :=
        { (board.store.setCondition 3 .good) with
            checks := Vector.replicate 64 (crc16 (Mem.readAll [] 960 320) + 1#16) } }

theorem upsetPage_fails : upsetPage.store.pageFails 3 = true := by
  have good : upsetPage.store.condition 3 = .good := by decide +kernel
  have word : upsetPage.store.checks.get 3 = crc16 (Mem.readAll [] 960 320) + 1#16 := rfl
  have now : upsetPage.store.pageCrc 3 = crc16 (Mem.readAll [] 960 320) := rfl
  have next (x : BitVec 16) : (x != x + 1#16) = true := by
    simp only [bne_iff_ne, ne_eq]
    bv_omega
  rw [Store.pageFails, good, word, now, next]
  rfl

theorem witness_PagesAreChecked :
    board.Hears 17#8 ∧ 64 < (1#8).toNat + 64 ∧ (63#8).toNat + (1#8).toNat ≤ 64 ∧
      (∀ p : Page, ¬(board.store.condition p = .corrupt ∨ board.store.pageFails p = true)) ∧
      upsetPage.store.pageFails 3 = true ∧ (board.store.setCondition 63 .corrupt).condition 63 = .corrupt ∧
      upsetPage.engine.state ≠ .idle ∧ upsetPage.store.condition (upsetPage.store.scrub + 3) = .good ∧
      (∀ j : Page, j < 3 → upsetPage.store.condition (upsetPage.store.scrub + j) ≠ .good) ∧
      (∀ p, accruing.store.condition p ≠ .good) ∧ upsetPage.due = [] ∧ upsetPage.phase ≠ .starting := by
  refine ⟨board_hears, ?_, ?_, ?_, upsetPage_fails, ?_⟩ <;> decide +kernel

/-- The board with one enabled entry at 31. -/
def enabledEntry (condition : PageCondition) : State :=
  { board with
      store := board.store.setCondition 0 condition,
      engine := { board.engine with table := board.engine.table.set 31 { enabled := true } } }

theorem witness_EntriesAndTheEngine :
    (enabledEntry .good).Hears 17#8 ∧ (writeEntryBytes {}).length = 7 ∧ 31 < (32#8).toNat ∧
      readEntry [0#8, 0#8, 0#8, 0#8, 0#8, 0#8, 32#8] = none ∧ (31#8).toNat = (31 : EntryNo).val ∧
      (readEntry (writeEntryBytes {})).isSome = true ∧ accruing.engine.state ≠ .idle ∧
      accruing.engine.current = some 0 ∧ ((enabledEntry .good).engine.table.get 31).enabled = true ∧
      (∀ p ∈ ((enabledEntry .good).engine.table.get 31).pages, (enabledEntry .good).store.condition p = .good) ∧
      (∃ p ∈ ((enabledEntry .good).engine.table.get 31).pages, (enabledEntry .corrupt).store.condition p ≠ .good) ∧
      (board.engine.table.get 31).enabled = false := by
  refine ⟨⟨⟨rfl, rfl, rfl, rfl⟩, rfl, by decide⟩, ?_⟩
  decide +kernel

/-- The board with slots 0 and 1 written, at 1000 and 1200. -/
def twoPoints : State :=
  { board with factors := (board.factors.write 0 ⟨1000, 64⟩).write 1 ⟨1200, 256⟩ }

theorem witness_FactorPointsCommitAllOrNothing :
    let slots := twoPoints.factors.slots.set 2 (some (⟨1200, 512⟩ : FactorPoint)) (by decide)
    let rising := twoPoints.factors.slots.set 2 (some (⟨2500, 512⟩ : FactorPoint)) (by decide)
    let points : List FactorPoint := [⟨1000, 64⟩, ⟨1200, 256⟩, ⟨2500, 512⟩]
    twoPoints.Hears 17#8 ∧ (15 < (16#8).toNat ∨ (-501 : Int) < -500 ∨ (2500 : Int) < 2501 ∨ 1 < (2#8).toNat) ∧
      points.length = (2 : Sock).val + 1 ∧ (∀ i : Sock, i ≤ 2 → rising.get i = points[i.val]?) ∧
      points.Pairwise (fun a c => a.temp < c.temp) ∧
      (∃ a c, slots.get 1 = some a ∧ slots.get 2 = some c ∧ c.temp ≤ a.temp) ∧
      (∀ i : Sock, i ≤ 2 → slots.get i ≠ none) ∧
      (board.factors.slots.set 2 (some (⟨1200, 512⟩ : FactorPoint)) (by decide)).get 0 = none := by
  refine ⟨⟨⟨rfl, rfl, rfl, rfl⟩, rfl, by decide⟩, ?_, ?_, ?_, ?_, ⟨⟨1200, 256⟩, ⟨1200, 512⟩, ?_⟩, ?_, ?_⟩ <;>
    decide +kernel

theorem witness_TheLogIsTrimmedAndItsThresholdSet :
    board.Hears 17#8 ∧ ((0#8).toNat = 0 ∨ 128 < (0#8).toNat) ∧ ((129#8).toNat = 0 ∨ 128 < (129#8).toNat) ∧
      1 ≤ (1#8).toNat ∧ (128#8).toNat ≤ 128 := by
  refine ⟨board_hears, ?_⟩
  decide

theorem witness_EventsAreAcknowledgedAndEnabled :
    board.Hears 17#8 ∧ 4096 ≤ (4096#16).toNat ∧ (4095#16).toNat < 4096 ∧
      (∀ i, ((board.events.get i).isSet && (board.events.get i).enabled) = false) ∧
      ((board.raise .unattended 0#16).events.get 11).isSet = true ∧
      ((board.raise .unattended 0#16).events.get 11).enabled = true ∧
      ∀ j : Fin 12, j < 11 → (((board.raise .unattended 0#16).events.get j).isSet &&
        ((board.raise .unattended 0#16).events.get j).enabled) = false := by
  refine ⟨board_hears, ?_⟩
  decide +kernel

theorem witness_TheLinkIsSet :
    board.Hears 17#8 ∧ (List.replicate 8 128#8).length = 8 ∧ (∀ b ∈ List.replicate 8 128#8, 128 ≤ b.toNat) ∧
      (∃ b ∈ List.replicate 8 127#8, b.toNat < 128) ∧ 1 < (2#8).toNat ∧ (1#8).toNat ≤ 1 := by
  refine ⟨board_hears, ?_⟩
  decide

theorem witness_RepliesHaveTheirLayouts :
    feedOf 3 = .a ∧ ((board.put 3 .ramp).socket 3).scu.state = .ramp ∧
      (∀ m : Sock, m < 3 → feedOf m = .a → ((board.put 3 .ramp).socket m).scu.state ≠ .ramp) ∧
      (∀ n, feedOf n = .a → (board.socket n).scu.state ≠ .ramp) ∧ 1 ≤ 40 ∧ 4056 + 40 ≤ 4096 ∧
      (0#16).toNat < 4096 ∧ (∀ i : Fin 12, (0#16).getLsbD i.val = (board.events.get i).isSet) ∧
      ∀ i : Fin 12, (4095#16).getLsbD i.val = (board.events.get i).enabled := by decide +kernel

theorem witness_ReadsChangeNothing :
    board.Hears 17#8 ∧ 1 < (2#8).toNat ∧ 4056 + (40#8).toNat ≤ 4096 ∧ 4096 < 4057 + (40#8).toNat ∧
      40 < (41#8).toNat ∧ (127#8).toNat ≤ 127 ∧ 127 < (128#8).toNat ∧ 15 < (16#8).toNat := by
  refine ⟨board_hears, ?_⟩
  decide

theorem witness_ABoardResetActs (retain : Bool) :
    let s := board.withReply (.sending [0x3C#8] (some retain))
    s.due = [] ∧ s.link.reply = .sending [0x3C#8] (some retain) := ⟨rfl, rfl⟩

/-- An identity block whose check holds. -/
def goodBlock : List Byte := (image.take 62) ++ le16 (crc16 (image.take 62)).toNat

theorem witness_TheIdentityLoadEnds :
    State.reset.due = [] ∧ State.reset.phase ≠ .running ∧ ({ board with phase := .reloading true } : State).phase ≠ .running ∧
      goodBlock.length = 64 ∧ crc16 (goodBlock.take 62) = set16 goodBlock 62 ∧ byteAt goodBlock 0 = 0x01#8 ∧
      ∀ b, LoadAttempt.noAck ≠ .block b := by
  have block : goodBlock.length = 64 ∧ crc16 (goodBlock.take 62) = set16 goodBlock 62 ∧ byteAt goodBlock 0 = 0x01#8 := by
    decide +kernel
  exact ⟨rfl, by decide, by decide, block.1, block.2.1, block.2.2, fun _ => Sys2Proof.LoadAttempt.noConfusion⟩

/-- A step of the board runs a second tick. -/
def ticking : State := { accruing with pending := [.secondTick] }

theorem witness_EveryStepKeepsStoreAndLog :
    ticking.MemoryOk ∧ ticking.LogOk ∧ ∃ t, step ticking = .next t := by
  refine ⟨empty_wf, ⟨?_, ?_, ?_⟩, _, rfl⟩ <;> decide +kernel

theorem witness_EveryStepKeepsTheHeatersSound : ticking.HeatOk ∧ ∃ t, step ticking = .next t := by
  refine ⟨⟨fun h => absurd rfl h, ?_, ?_, ?_, ?_, ?_, ?_, ?_⟩, _, rfl⟩ <;> decide +kernel

theorem witness_EveryStepKeepsTheSuppliesSound :
    ({ feedCase with pending := [.secondTick] } : State).SupplyOk ∧
      ∃ t, step { feedCase with pending := [.secondTick] } = .next t := by
  have h := feedCase_sound
  refine ⟨⟨h.quiet, fun f => ?_, h.ceiling, h.on, h.off⟩, _, rfl⟩
  have g := h.feeds f
  exact ⟨g.queueOnce, g.orderOnce, g.queued, g.ordered, g.committed, g.limit, g.oneRamp⟩

theorem witness_EveryStepKeepsTheEngineSound :
    let s := { ticking with engine := { ticking.engine with powered := single 3 } }
    s.EngineOk ∧ ∃ t, step s = .next t := by
  refine ⟨⟨fun h => absurd rfl h, ?_, ?_, ?_, ?_, ?_, ?_, ?_⟩, _, rfl⟩ <;> decide +kernel

theorem witness_CreditGrowsOnlyWhenEligible :
    exec .secondTick accruing = .next (accruing.after .secondTick) ∧
      (accruing.socket 3).credit.credit < ((accruing.after .secondTick).socket 3).credit.credit := by
  refine ⟨rfl, ?_⟩
  decide +kernel

theorem witness_FirstCausesStayAndNoneIsHeldUnattended :
    let s := (waiting .run (.failure .overTemp)).modScu 3 fun r => { r with firstFail := true }
    let u := { board with link := { board.link with mode := .unattended } }
    exec (.failureReportTaken 3 .overTemp) s = .next (s.after (.failureReportTaken 3 .overTemp)) ∧
      exec .secondTick u = .next (u.after .secondTick) ∧ (s.socket 3).scu.firstFail = true ∧
      ((s.after (.failureReportTaken 3 .overTemp)).socket 3).scu.firstFail = true ∧ u.link.mode = .unattended ∧
      u.AttendedOk ∧ (u.after .secondTick).link.mode = .unattended ∧ u.SilenceOnce ∧
      ({ board with due := [.trip 3, .releases] } : State).SilenceOnce := by
  refine ⟨rfl, rfl, ?_, ?_, rfl, ?_, ?_, ?_, ?_⟩
  · decide +kernel
  · decide +kernel
  · intro _ n h
    exact absurd h (by revert n; decide +kernel)
  · decide +kernel
  · show List.length _ ≤ 1
    decide +kernel
  · show List.length _ ≤ 1
    decide +kernel

end Sys2Proof.Machine
end

section
/-!
PROOFS. How a command reaches the machine: the rows of the table by what they name, what an owner may do with a request, and the
induction principles over one command and over the bytes of the line.
-/

namespace Sys2Proof.Machine

/-! ### What the owner of a request may do -/

/-- The states that the owner of a request with this kind code may leave: one case for each way a request changes the
machine, with the checks it has passed. -/
inductive State.Answered (s : State) : Byte → State → Prop
  | same (code : Byte) : s.Answered code s
  | groups (g : Vector Byte 8) : s.Answered 0x03#8 { s with link := { s.link with groups := g } }
  | silenceParam (b : Byte) : s.Answered 0x04#8 { s with link := { s.link with silenceParam := b } }
  | acked (x : BitVec 16) : s.Answered 0x09#8 { s with events := clearFlags x s.events }
  | enables (x : BitVec 16) : s.Answered 0x0A#8 { s with events := enableFlags x s.events }
  | arm (x : SocketSet) : s.Answered 0x10#8 (s.forSet x State.armJudge State.arm).1
  | powerDown (x : SocketSet) :
      s.Answered 0x11#8 (s.forSet x (fun t n => t.unless n SocketState.busy) State.powerDown).1
  | pause (x : SocketSet) :
      s.Answered 0x12#8 (s.forSet x (fun t n => t.unless n fun st => st == .run || st == .settle) fun t n => t.move n .pause).1
  | resume (x : SocketSet) :
      s.Answered 0x13#8 (s.forSet x (fun t n => t.unless n fun st => st == .pause) fun t n => t.move n .settle).1
  | release (x : SocketSet) :
      s.Answered 0x14#8 (s.forSet x (fun t n => t.unless n fun st => st == .hold) fun t n => t.moveAdmit n .safe).1
  | statusRead (n : Sock) : s.Answered 0x15#8 (s.modScu n Record.read)
  | accountCleared (n : Sock) (present : (s.socket n).scu.state ≠ .absent) (free : (s.socket n).scu.state.busy = false) :
      s.Answered 0x16#8 (s.modSocket n fun k => k.cleared .off)
  | accountsCleared (free : s.anyBusy = false) :
      s.Answered 0x17#8 { s.mapSockets (fun _ k => k.cleared k.scu.state.afterClear) with log := s.log.cleared }
  | railProfile (n : Sock) (p : RailProfile) (free : (s.socket n).scu.state.busy = false) :
      s.Answered 0x20#8 (s.modRail n fun r => { r with profile := p, written := true })
  | ceiling (mv : Nat) : s.Answered 0x21#8 (s.setCeiling mv)
  | feedLimit (f : FeedId) (mv : Nat) : s.Answered 0x22#8 (s.setFeedLimit f (clamp 0 (s.identity.nativeLimit f) mv)).1
  | calibration (n : Sock) : s.Answered 0x23#8 (s.modRail n fun r => { r with calibration := some {} })
  | thermalProfile (n : Sock) (p : ThermalProfile) :
      s.Answered 0x28#8 (s.modHeat n fun h => { h with profile := p, written := true })
  | budget (value : Nat) : s.Answered 0x29#8 (s.setBudget value)
  | loaded (start : Nat) (vectors : List Byte) : s.Answered 0x30#8 { s with store := s.store.load start vectors }
  | verified (pages : List Page) : s.Answered 0x32#8 (State.verify pages s).1
  | entry (e : EntryNo) (entry : SeqEntry) :
      s.Answered 0x34#8 { s with engine := { s.engine with table := s.engine.table.set e.val entry e.isLt } }
  | started (e : EntryNo) (idle : s.engine.state = .idle) : s.Answered 0x38#8 (s.start e)
  | stopped : s.Answered 0x39#8 { s with engine := s.engine.stop }
  | testProfile (n : Sock) (p : TestProfile) :
      s.Answered 0x3B#8 (s.modSocket n fun k =>
        { k with lane := { k.lane with profile := p, written := true }, credit := { k.credit with target := p.target } })
  | factors (f : Factors) : s.Answered 0x40#8 { s with factors := f }
  | trimmed (n : Nat) : s.Answered 0x4A#8 { s with log := s.log.trim n }
  | threshold (n : Nat) : s.Answered 0x4B#8 { s with log := s.log.setThreshold n }

/-- A request about one socket leaves what its owner leaves for each socket, or is refused. -/
theorem State.withSocket_answered {s : State} {code : Byte} (p : List Byte) (f : Sock → State × Response)
    (h : ∀ n, s.Answered code (f n).1) : s.Answered code (s.withSocket p f).1 := by
  unfold State.withSocket
  cases sockOf (byteAt p 0) with
  | none => exact .same _
  | some n => exact h n

section owners
variable (p : List Byte) (s : State)

theorem setGroupTableKind_answered : s.Answered setGroupTableKind.code (setGroupTableKind.carryOut p s).1 := by
  simp only [setGroupTableKind]
  split
  · exact .groups _
  · exact .same _

theorem resetBoardKind_answered : s.Answered resetBoardKind.code (resetBoardKind.carryOut p s).1 := by
  simp only [resetBoardKind]
  split_ifs <;> exact .same _

theorem ackEventsKind_answered : s.Answered ackEventsKind.code (ackEventsKind.carryOut p s).1 := by
  simp only [ackEventsKind]
  split
  · exact .acked _
  · exact .same _

theorem setEventEnablesKind_answered : s.Answered setEventEnablesKind.code (setEventEnablesKind.carryOut p s).1 := by
  simp only [setEventEnablesKind]
  split
  · exact .enables _
  · exact .same _

theorem clearSocketAccountKind_answered : s.Answered clearSocketAccountKind.code (clearSocketAccountKind.carryOut p s).1 := by
  simp only [clearSocketAccountKind]
  split
  · exact .same _
  · split_ifs with absent busy
    · exact .same _
    · exact .same _
    · exact .accountCleared _ absent (by simpa using busy)

theorem clearAccountsKind_answered : s.Answered clearAccountsKind.code (clearAccountsKind.carryOut p s).1 := by
  simp only [clearAccountsKind]
  split_ifs with busy
  · exact .same _
  · exact .accountsCleared (by simpa using busy)

theorem writeRailProfileKind_answered : s.Answered writeRailProfileKind.code (writeRailProfileKind.carryOut p s).1 := by
  refine State.withSocket_answered p _ fun n => ?_
  split_ifs with busy
  · exact .same _
  · split
    · exact .same _
    · exact .railProfile _ _ (by simpa using busy)

theorem setFeedLimitKind_answered : s.Answered setFeedLimitKind.code (setFeedLimitKind.carryOut p s).1 := by
  simp only [setFeedLimitKind]
  split
  · exact .same _
  · exact .feedLimit _ _

theorem calibrateSenseKind_answered : s.Answered calibrateSenseKind.code (calibrateSenseKind.carryOut p s).1 := by
  refine State.withSocket_answered p _ fun n => ?_
  split_ifs
  · exact .same _
  · exact .same _
  · exact .same _
  · exact .calibration _

theorem readFeedStatusKind_answered : s.Answered readFeedStatusKind.code (readFeedStatusKind.carryOut p s).1 := by
  simp only [readFeedStatusKind]
  split <;> exact .same _

theorem writeThermalProfileKind_answered : s.Answered writeThermalProfileKind.code (writeThermalProfileKind.carryOut p s).1 := by
  refine State.withSocket_answered p _ fun n => ?_
  split
  · exact .same _
  · exact .thermalProfile _ _

theorem setHeaterBudgetKind_answered : s.Answered setHeaterBudgetKind.code (setHeaterBudgetKind.carryOut p s).1 := by
  simp only [setHeaterBudgetKind]
  split
  · exact .budget _
  · exact .same _

theorem loadVectorsKind_answered : s.Answered loadVectorsKind.code (loadVectorsKind.carryOut p s).1 := by
  simp only [loadVectorsKind]
  split_ifs
  · exact .same _
  · exact .loaded _ _
  · exact .same _

theorem readVectorsRawKind_answered : s.Answered readVectorsRawKind.code (readVectorsRawKind.carryOut p s).1 := by
  simp only [readVectorsRawKind]
  split <;> exact .same _

theorem verifyStoreKind_answered : s.Answered verifyStoreKind.code (verifyStoreKind.carryOut p s).1 := by
  simp only [verifyStoreKind]
  generalize (if nat8 p 1 = 0 then 64 else nat8 p 1) = count
  split
  · exact .verified _
  · exact .same _

theorem writeSequenceEntryKind_answered : s.Answered writeSequenceEntryKind.code (writeSequenceEntryKind.carryOut p s).1 := by
  simp only [writeSequenceEntryKind]
  split
  · split
    · exact .same _
    · exact .entry _ _
  · exact .same _

theorem startSequenceKind_answered : s.Answered startSequenceKind.code (startSequenceKind.carryOut p s).1 := by
  simp only [startSequenceKind]
  split
  · exact .same _
  · split_ifs with busy
    · exact .same _
    · exact .same _
    · exact .started _ (by simpa using busy)

theorem writeTestProfileKind_answered : s.Answered writeTestProfileKind.code (writeTestProfileKind.carryOut p s).1 := by
  refine State.withSocket_answered p _ fun n => ?_
  split
  · exact .same _
  · exact .testProfile _ _

theorem loadFactorPointKind_answered : s.Answered loadFactorPointKind.code (loadFactorPointKind.carryOut p s).1 := by
  simp only [loadFactorPointKind]
  split
  · exact .same _
  · split
    · exact .factors _
    · exact .same _

theorem readLogKind_answered : s.Answered readLogKind.code (readLogKind.carryOut p s).1 := by
  simp only [readLogKind]
  split <;> exact .same _

theorem setLogThresholdKind_answered : s.Answered setLogThresholdKind.code (setLogThresholdKind.carryOut p s).1 := by
  simp only [setLogThresholdKind]
  split_ifs
  · exact .threshold _
  · exact .same _

theorem setLinkSilenceKind_answered : s.Answered setLinkSilenceKind.code (setLinkSilenceKind.carryOut p s).1 := .silenceParam _

theorem armSocketsKind_answered : s.Answered armSocketsKind.code (armSocketsKind.carryOut p s).1 := .arm _

theorem powerDownSocketsKind_answered : s.Answered powerDownSocketsKind.code (powerDownSocketsKind.carryOut p s).1 := .powerDown _

theorem pauseSocketsKind_answered : s.Answered pauseSocketsKind.code (pauseSocketsKind.carryOut p s).1 := .pause _

theorem resumeSocketsKind_answered : s.Answered resumeSocketsKind.code (resumeSocketsKind.carryOut p s).1 := .resume _

theorem releaseHoldKind_answered : s.Answered releaseHoldKind.code (releaseHoldKind.carryOut p s).1 := .release _

theorem readSocketStatusKind_answered : s.Answered readSocketStatusKind.code (readSocketStatusKind.carryOut p s).1 :=
  State.withSocket_answered p _ fun n => .statusRead n

theorem setCeilingKind_answered : s.Answered setCeilingKind.code (setCeilingKind.carryOut p s).1 := by
  simp only [setCeilingKind]
  exact .ceiling (nat16 p 0)

theorem stopSequenceKind_answered : s.Answered stopSequenceKind.code (stopSequenceKind.carryOut p s).1 := .stopped

theorem readCompareStatusKind_answered : s.Answered readCompareStatusKind.code (readCompareStatusKind.carryOut p s).1 :=
  State.withSocket_answered p _ fun _ => .same _

theorem readAccountKind_answered : s.Answered readAccountKind.code (readAccountKind.carryOut p s).1 :=
  State.withSocket_answered p _ fun _ => .same _

theorem trimLogKind_answered : s.Answered trimLogKind.code (trimLogKind.carryOut p s).1 := .trimmed _

end owners

/-- The owner of every listed kind leaves one of the states of `State.Answered`. -/
theorem carryOut_answered {k : RequestKind} (hk : k ∈ requestKinds) (p : List Byte) (s : State) :
    s.Answered k.code (k.carryOut p s).1 := by
  simp only [requestKinds, List.cons_append, List.nil_append, List.mem_cons, List.not_mem_nil, or_false] at hk
  rcases hk with rfl | rfl | rfl | rfl | rfl | rfl | rfl | rfl | rfl | rfl | rfl | rfl | rfl | rfl | rfl | rfl | rfl | rfl |
    rfl | rfl | rfl | rfl | rfl | rfl | rfl | rfl | rfl | rfl | rfl | rfl | rfl | rfl | rfl | rfl | rfl | rfl | rfl | rfl |
    rfl | rfl
  exacts [.same _, .same _, setGroupTableKind_answered p s, setLinkSilenceKind_answered p s, resetBoardKind_answered p
    s, .same _, ackEventsKind_answered p s, setEventEnablesKind_answered p s, armSocketsKind_answered p s,
    powerDownSocketsKind_answered p s, pauseSocketsKind_answered p s, resumeSocketsKind_answered p s,
    releaseHoldKind_answered p s, readSocketStatusKind_answered p s, clearSocketAccountKind_answered p s,
    clearAccountsKind_answered p s, writeRailProfileKind_answered p s, setCeilingKind_answered p s,
    setFeedLimitKind_answered p s, calibrateSenseKind_answered p s, readFeedStatusKind_answered p s,
    writeThermalProfileKind_answered p s, setHeaterBudgetKind_answered p s, loadVectorsKind_answered p s,
    readVectorsRawKind_answered p s, verifyStoreKind_answered p s, .same _, writeSequenceEntryKind_answered p s, .same _,
    startSequenceKind_answered p s, stopSequenceKind_answered p s, .same _, writeTestProfileKind_answered p s,
    readCompareStatusKind_answered p s, loadFactorPointKind_answered p s, .same _, readAccountKind_answered p s,
    readLogKind_answered p s, trimLogKind_answered p s, setLogThresholdKind_answered p s]

/-! ### Rows by what they name -/

/-- What the SCU does with a report of a kind about a socket (R6 to R10, R16, R19, R70). -/
def State.taken (s : State) (n : Sock) : ReportKind → State
  | .grant => s.takeGrant n
  | .qualified => s.takeQualified n
  | .settled => s.takeSettled n
  | .notSettled => s.takeNotSettled n
  | .target => s.takeTarget n
  | .trip => s.takeTrip n
  | .shed => s.takeShed n
  | .failure c => s.fail n c

/-- A request row is its frame, after the expiries due, in the light of its presence lines (R5, R169; log entries 2 and 15). -/
theorem exec_request {c : Instr} {k : RequestKind} {dst : Byte} {p : List Byte} (h : requestOfRow c = some (k, dst, p))
    (s : State) : exec c s = .next ((s.settled.seen c).requestOf k dst p) := by
  cases c <;> simp only [requestOfRow, Option.some.injEq, Prod.mk.injEq, reduceCtorEq] at h <;>
    (obtain ⟨rfl, rfl, rfl⟩ := h; rfl)

/-- The kind of a request row is a listed one. -/
theorem requestOfRow_mem {c : Instr} {k : RequestKind} {dst : Byte} {p : List Byte}
    (h : requestOfRow c = some (k, dst, p)) : k ∈ requestKinds := by
  cases c <;> simp only [requestOfRow, Option.some.injEq, Prod.mk.injEq, reduceCtorEq] at h <;>
    (obtain ⟨rfl, rfl, rfl⟩ := h; simp [requestKinds])

/-- An expiry row makes its expiry occur, that of the link silence also what is left of one under way (log entries 2 and 31). -/
theorem exec_expiry {c : Instr} {e : Expiry} (h : expiryOfRow c = some e) (s : State) :
    exec c s = .next (s.occur e) ∨ exec c s = .next (s.occur .releases) := by
  cases c <;> simp only [expiryOfRow, Option.some.injEq, reduceCtorEq] at h
  case linkSilenceExpiry =>
    subst h
    by_cases hd : Expiry.linkSilence ∈ s.due
    · exact .inl (by simp [exec, execLinkSilenceExpiry, hd])
    · exact .inr (by simp [exec, execLinkSilenceExpiry, hd])
  all_goals subst h; exact .inl rfl

/-- A report row takes its report, after what comes before a report (log entries 2, 3 and 31). -/
theorem exec_report {c : Instr} {n : Sock} {kind : ReportKind} (h : reportOfRow c = some ⟨n, kind⟩) (s : State) :
    exec c s = .next (s.beforeReport.takeReport n kind (·.taken n kind)) := by
  cases c <;> simp only [reportOfRow, Option.some.injEq, Report.mk.injEq, reduceCtorEq] at h <;>
    (obtain ⟨rfl, rfl⟩ := h; rfl)

/-- A kind byte that is listed gives a listed kind (R184). -/
theorem requestKindOf_listed {b : Byte} {r : RequestKind} (h : requestKindOf b = some r) : r ∈ requestKinds :=
  List.mem_of_find?_eq_some h

/-- A board that takes bytes has its link open (R165). -/
theorem State.listening_running {s : State} (h : s.listening = true) : s.phase = .running := by
  unfold State.listening at h
  simp only [Bool.and_eq_true, beq_iff_eq] at h
  exact h.1

/-! ### Induction over the bytes of the line and over a command -/

/-- A property that everything keeps that a byte of the line can bring about. -/
structure LineKeeps (Q : State → Prop) : Prop where
  reply : ∀ s r, Q s → Q (s.withReply r)
  count : ∀ s f, Q s → Q (s.count f)
  attend : ∀ s, Q s → Q s.attend
  receiver : ∀ s r, Q s → Q (s.withReceiver r)
  reset : ∀ s retain, Q s → Q (s.boardReset retain)
  owner : ∀ s code t, s.phase = .running → s.Answered code t → Q s → Q t

section line
variable {Q : State → Prop} (keeps : LineKeeps Q)
include keeps

theorem LineKeeps.respond {s : State} (kind : Byte) (r : Response) (hs : Q s) : Q (s.respond kind r) := by
  cases r <;> exact keeps.reply _ _ hs

theorem LineKeeps.abandonReply {s : State} (hs : Q s) : Q s.abandonReply := by
  unfold State.abandonReply
  split
  · exact hs
  · exact hs
  · exact keeps.reply _ _ hs
  · exact keeps.reply _ _ hs
  · exact keeps.reset _ _ hs

theorem LineKeeps.takeFrame {s : State} (dst kind : Byte) (k : Option RequestKind) (p : List Byte)
    (listed : ∀ r, k = some r → r ∈ requestKinds) (running : s.phase = .running) (hs : Q s) :
    Q (s.takeFrame dst kind k p) := by
  have hgood : Q (s.count LinkCounters.addGood) := keeps.count _ _ hs
  cases ha : s.link.addressing dst with
  | others => rw [State.takeFrame_others s _ _ _ _ ha]; exact keeps.count _ _ hs
  | individual =>
    rw [State.takeFrame_individual s _ _ _ _ ha]
    have heard := keeps.attend _ hgood
    cases k with
    | none => exact keeps.reply _ _ heard
    | some r =>
      unfold State.takeIndividual
      dsimp only
      split
      · exact keeps.respond _ _ (keeps.owner _ _ _ (by exact running) (carryOut_answered (listed r rfl) p _) heard)
      · exact keeps.reply _ _ heard
  | group =>
    rw [State.takeFrame_group s _ _ _ _ ha]
    cases k with
    | none => exact keeps.count _ _ hgood
    | some r =>
      unfold State.takeGroup
      dsimp only
      split
      · exact keeps.owner _ _ _ (by exact running) (carryOut_answered (listed r rfl) p _) hgood
      · exact keeps.count _ _ hgood

theorem LineKeeps.endFrame {s : State} (hs : Q s) : Q s.endFrame := by
  unfold State.endFrame
  split
  · exact hs
  · exact keeps.count _ _ (keeps.receiver _ _ hs)
  · exact keeps.receiver _ _ hs

theorem LineKeeps.receive {s : State} (b : Byte) (hs : Q s) : Q (s.receive b) := by
  unfold State.receive
  split
  next open_ =>
    have running := State.listening_running open_
    split
    · unfold State.huntByte
      split
      · dsimp only
        split
        · exact keeps.receiver _ _ (keeps.abandonReply hs)
        · exact keeps.abandonReply hs
      · exact hs
    · unfold State.requestByte
      dsimp only
      split_ifs
      · exact keeps.endFrame hs
      · unfold State.completeRequest
        dsimp only
        split
        · exact keeps.takeFrame _ _ _ _ (fun r h => requestKindOf_listed h) running (keeps.receiver _ _ hs)
        · exact keeps.count _ _ (keeps.receiver _ _ hs)
      · exact keeps.receiver _ _ hs
    · unfold State.passByte
      dsimp only
      split_ifs
      · exact keeps.endFrame hs
      · exact keeps.receiver _ _ hs
      · exact keeps.receiver _ _ hs
  · exact hs

theorem LineKeeps.receiveAll (bytes : List Byte) : ∀ {s : State}, Q s → Q (s.receiveAll bytes) := by
  induction bytes with
  | nil => exact fun hs => hs
  | cons b bytes ih => exact fun hs => ih (keeps.receive b hs)

theorem LineKeeps.lineBreak {s : State} (hs : Q s) : Q s.lineBreak := by
  unfold State.lineBreak
  split
  · exact keeps.endFrame hs
  · exact hs

theorem LineKeeps.request {s : State} (dst kind : Byte) (k : Option RequestKind) (p : List Byte)
    (listed : ∀ r, k = some r → r ∈ requestKinds) (hs : Q s) : Q (s.request dst kind k p) := by
  unfold State.request
  split
  · unfold State.receiveRequest
    split
    · dsimp only
      have marked := keeps.abandonReply hs
      split_ifs with running
      · exact keeps.takeFrame _ _ _ _ listed running marked
      · exact keeps.count _ _ marked
      · exact marked
    · exact hs
  · exact keeps.receiveAll _ hs

end line

/-- What every command leaves has a property that each of the ways a command works leaves or keeps. -/
theorem exec_ind {Q : State → Prop} {c : Instr} {s t : State} (h : exec c s = .next t)
    (power : ∀ l, Q { State.reset with link := { State.reset.link with address := l }, pending := s.pending })
    (expiry : ∀ e, Q (s.occur e))
    (report : ∀ n kind, Q (s.beforeReport.takeReport n kind (·.taken n kind)))
    (settled : Q s.settled)
    (seen : ∀ x, Q { s.settled with presence := x })
    (load : s.settled.phase ≠ .running → ∀ i, Q (s.settled.endLoad i))
    (sample : ∀ r, Q (s.settled.sampleTick r))
    (thermal : ∀ r, Q (s.settled.thermalTick r))
    (second : Q s.settled.secondTick)
    (vector : ∀ e r, Q (s.settled.vectorStep e r))
    (upset : ∀ u, Q { s.settled with store := s.settled.store.upset u })
    (line : LineKeeps Q) : Q t := by
  cases hr : requestOfRow c with
  | some x =>
    obtain ⟨k, dst, p⟩ := x
    rw [exec_request hr] at h
    cases h
    refine line.request _ _ _ _ (fun r e => Option.some.inj e ▸ requestOfRow_mem hr) ?_
    unfold State.seen
    split
    · exact seen _
    · exact settled
  | none =>
  cases he : expiryOfRow c with
  | some e => rcases exec_expiry he s with h' | h' <;> (rw [h'] at h; cases h; exact expiry _)
  | none =>
  cases ht : reportOfRow c with
  | some r => rw [exec_report (n := r.socket) (kind := r.kind) ht] at h; cases h; exact report _ _
  | none =>
  cases c <;> simp only [requestOfRow, expiryOfRow, reportOfRow, reduceCtorEq] at hr he ht <;>
    simp only [exec, execPowerOn, execIdentityLoadEnd, execSampleTick, execThermalTick, execSecondTick, execStoreUpset,
      execFrameGapTimeout, execFramingError, execOtherReplyPassed, execCrcErrorFrame, execFrameForOthers, execBadKindFrame,
      execReplyTransmitStart, execReplySent, execVectorStep, Host.Outcome.next.injEq] at h <;> subst h
  case powerOn => exact power _
  case identityLoadEnd => split; exacts [settled, load ‹_› _]
  case sampleTick => split; exacts [settled, sample _]
  case thermalTick => split; exacts [thermal _, settled]
  case secondTick => split; exacts [settled, second]
  case storeUpset => exact upset _
  case frameGapTimeout => exact line.lineBreak (line.receiveAll _ settled)
  case framingError => split; exacts [line.lineBreak (line.receiveAll _ settled), line.receiveAll _ settled]
  case otherReplyPassed => exact line.receiveAll _ settled
  case crcErrorFrame => exact line.receiveAll _ settled
  case frameForOthers => exact line.request _ _ _ _ (fun r e => requestKindOf_listed e) settled
  case badKindFrame => exact line.request _ _ _ _ (fun r e => requestKindOf_listed e) settled
  case replyTransmitStart => split; exacts [line.reply _ _ settled, settled]
  case replySent =>
    split
    · split
      · exact line.count _ _ (line.reply _ _ settled)
      · exact line.reset _ _ (line.count _ _ (line.reply _ _ settled))
    · exact settled
  case vectorStep => split; exacts [vector _ _, settled]

end Sys2Proof.Machine
end

section
/-!
PROOFS. The supplies stay sound (R29 to R36, R41, R43): what each operation of the SCU and the SSC does to the feeds, the rails and
the states of the sockets, and the invariant of every step.
-/

namespace Sys2Proof.Machine

/-- What every step of a fold keeps, the fold keeps. -/
theorem foldl_holds {α : Type} {P : State → Prop} {f : State → α → State} (l : List α) (h : ∀ s a, P s → P (f s a)) :
    ∀ {s : State}, P s → P (l.foldl f s) := by
  induction l with
  | nil => exact fun hs => hs
  | cons a l ih => exact fun hs => ih (h _ a hs)

/-! ### A rail that is off -/

/-- A rail that is off: target and output 0, no ramp or move, not qualified, its counts at 0 (R36, R41, R43; log entry 6). -/
def Rail.IsOff (r : Rail) : Prop :=
  r.commanded = 0 ∧ r.output = 0 ∧ r.motion = .still ∧ r.qualified = false ∧ r.qualCount = 0 ∧ r.unregCount = 0 ∧
    r.tripFilter = 0 ∧ r.contactCount = 0

theorem Rail.isOff_off (r : Rail) : r.off.IsOff := ⟨rfl, rfl, rfl, rfl, rfl, rfl, rfl, rfl⟩

theorem Rail.isOff_moved (r : Rail) {st : SocketState} (h : st.powered = false) : (r.moved st).IsOff := by
  simpa [Rail.moved, h] using r.isOff_off

theorem Rail.moved_profile (r : Rail) (st : SocketState) : (r.moved st).profile = r.profile := by
  unfold Rail.moved; split <;> rfl

theorem Rail.moved_commanded (r : Rail) {st : SocketState} (h : st.powered = true) : (r.moved st).commanded = r.commanded := by
  simp [Rail.moved, h]

theorem Rail.IsOff.moved {r : Rail} (h : r.IsOff) (st : SocketState) : (r.moved st).IsOff := by
  cases hst : st.powered with
  | false => exact r.isOff_moved hst
  | true =>
    obtain ⟨commanded, output, motion, qualified, qualCount, unregCount, tripFilter, -⟩ := h
    rw [Rail.moved, if_pos hst]
    exact ⟨commanded, output, motion, qualified, qualCount, unregCount, tripFilter, rfl⟩

/-! ### States of sockets and members of lists -/

theorem SocketState.busy_of_powered {st : SocketState} (h : st.powered = true) : st.busy = true := by simp [SocketState.busy, h]

theorem SocketState.not_powered_of_not_busy {st : SocketState} (h : st.busy = false) : st.powered = false := by
  cases st <;> simp_all [SocketState.busy, SocketState.powered]

theorem SocketState.busy_iff {st : SocketState} : st.busy = true ↔ st = .queued ∨ st.powered = true := by
  cases st <;> decide

theorem State.inOrder_iff {s : State} {n : Sock} : s.inOrder n = true ↔ n ∈ (s.feed (feedOf n)).order := by
  simp [State.inOrder]

theorem State.inOrder_false_iff {s : State} {n : Sock} : s.inOrder n = false ↔ n ∉ (s.feed (feedOf n)).order := by
  simp [State.inOrder]

theorem State.granted_iff {s : State} {n : Sock} :
    s.granted n = true ↔ (s.socket n).scu.state = .queued ∧ n ∉ (s.feed (feedOf n)).queue := by
  simp [State.granted, State.inQueue]

theorem State.ramping_false_iff {s : State} {f : FeedId} :
    s.ramping f = false ↔ ∀ n, feedOf n = f → (s.socket n).scu.state ≠ .ramp ∧ s.granted n = false := by
  simp [State.ramping, feedSocks, allSocks]

/-! ### Changes that the supplies do not notice -/

/-- Between `s` and `t` nothing changed that the soundness of the supplies speaks of: no list, limit, target or profile, no rail turned
on, and a socket's state at most within the powered states and not to RAMP. -/
structure State.SupplyKept (s t : State) : Prop where
  phase : t.phase = s.phase
  ceiling : t.ceiling = s.ceiling
  identity : t.identity = s.identity
  limit : ∀ f, (t.feed f).limit = (s.feed f).limit
  queue : ∀ f, (t.feed f).queue = (s.feed f).queue
  order : ∀ f, (t.feed f).order = (s.feed f).order
  busy : ∀ n, (t.socket n).scu.state.busy = (s.socket n).scu.state.busy
  queued : ∀ n, (t.socket n).scu.state = .queued ↔ (s.socket n).scu.state = .queued
  ramp : ∀ n, (t.socket n).scu.state = .ramp → (s.socket n).scu.state = .ramp
  profile : ∀ n, (t.socket n).rail.profile = (s.socket n).rail.profile
  commanded : ∀ n, (t.socket n).rail.commanded = (s.socket n).rail.commanded
  off : ∀ n, s.inOrder n = false → (s.socket n).rail.IsOff → (t.socket n).rail.IsOff

/-- A change of no socket's state. -/
theorem State.SupplyKept.of_states {s t : State} (phase : t.phase = s.phase) (ceiling : t.ceiling = s.ceiling)
    (identity : t.identity = s.identity)
    (feed : ∀ f, (t.feed f).limit = (s.feed f).limit ∧ (t.feed f).queue = (s.feed f).queue ∧
      (t.feed f).order = (s.feed f).order)
    (state : ∀ n, (t.socket n).scu.state = (s.socket n).scu.state)
    (rail : ∀ n, (t.socket n).rail.profile = (s.socket n).rail.profile ∧
      (t.socket n).rail.commanded = (s.socket n).rail.commanded ∧
      (s.inOrder n = false → (s.socket n).rail.IsOff → (t.socket n).rail.IsOff)) : s.SupplyKept t where
  phase := phase
  ceiling := ceiling
  identity := identity
  limit f := (feed f).1
  queue f := (feed f).2.1
  order f := (feed f).2.2
  busy n := by rw [state n]
  queued n := by rw [state n]
  ramp n h := by rwa [state n] at h
  profile n := (rail n).1
  commanded n := (rail n).2.1
  off n := (rail n).2.2

/-- A change of no socket's state and no rail. -/
theorem State.SupplyKept.of_eq {s t : State} (phase : t.phase = s.phase) (ceiling : t.ceiling = s.ceiling)
    (identity : t.identity = s.identity)
    (feed : ∀ f, (t.feed f).limit = (s.feed f).limit ∧ (t.feed f).queue = (s.feed f).queue ∧
      (t.feed f).order = (s.feed f).order)
    (socket : ∀ n, (t.socket n).scu.state = (s.socket n).scu.state ∧ (t.socket n).rail = (s.socket n).rail) :
    s.SupplyKept t :=
  .of_states phase ceiling identity feed (fun n => (socket n).1) fun n => by rw [(socket n).2]; exact ⟨rfl, rfl, fun _ h => h⟩

theorem State.SupplyKept.inOrder {s t : State} (h : s.SupplyKept t) (n : Sock) : t.inOrder n = s.inOrder n := by
  simp [State.inOrder, h.order]

theorem State.SupplyKept.granted {s t : State} (h : s.SupplyKept t) (n : Sock) : t.granted n = s.granted n := by
  rw [Bool.eq_iff_iff, State.granted_iff, State.granted_iff, h.queued, h.queue]

theorem State.SupplyKept.refl (s : State) : s.SupplyKept s :=
  .of_eq rfl rfl rfl (fun _ => ⟨rfl, rfl, rfl⟩) fun _ => ⟨rfl, rfl⟩

theorem State.SupplyKept.trans {s t u : State} (h : s.SupplyKept t) (h' : t.SupplyKept u) : s.SupplyKept u where
  phase := h'.phase.trans h.phase
  ceiling := h'.ceiling.trans h.ceiling
  identity := h'.identity.trans h.identity
  limit f := (h'.limit f).trans (h.limit f)
  queue f := (h'.queue f).trans (h.queue f)
  order f := (h'.order f).trans (h.order f)
  busy n := (h'.busy n).trans (h.busy n)
  queued n := (h'.queued n).trans (h.queued n)
  ramp n r := h.ramp n (h'.ramp n r)
  profile n := (h'.profile n).trans (h.profile n)
  commanded n := (h'.commanded n).trans (h.commanded n)
  off n hn ho := h'.off n (h.inOrder n ▸ hn) (h.off n hn ho)

/-- A fold of such changes is one. -/
theorem State.SupplyKept.foldl {α : Type} {f : State → α → State} (l : List α)
    (h : ∀ (s : State) a, s.SupplyKept (f s a)) (s : State) :
    s.SupplyKept (l.foldl f s) :=
  foldl_holds (P := s.SupplyKept) l (fun t a ht => ht.trans (h t a)) (.refl s)

/-- Such a change leaves sound supplies sound. -/
theorem State.SupplyOk.of_kept {s t : State} (h : s.SupplyOk) (k : s.SupplyKept t) : t.SupplyOk where
  quiet hp n := by rw [k.busy]; exact h.quiet (by rwa [← k.phase]) n
  feeds f := by
    obtain ⟨queueOnce, orderOnce, queued, ordered, committed, limit, oneRamp⟩ := h.feeds f
    have admission : t.admission = s.admission := funext fun n => congrArg RailProfile.admission (k.profile n)
    constructor
    · rwa [k.queue]
    · rwa [k.order]
    · intro n hn; rw [k.queue] at hn; rw [k.queued]; exact queued n hn
    · intro n hn; rw [k.order] at hn; rw [k.busy, k.queue]; exact ordered n hn
    · rwa [State.committed, k.order, k.limit, admission]
    · rwa [k.limit, k.identity]
    · intro n m hn hm rn rm
      rw [k.granted] at rn rm
      exact oneRamp n m hn hm (rn.imp_left (k.ramp n)) (rm.imp_left (k.ramp m))
  ceiling := by rw [k.ceiling, k.identity]; exact h.ceiling
  on n hn := by rw [k.inOrder] at hn; rw [k.commanded, h.on n hn, State.targetOf, State.targetOf, k.profile, k.ceiling]
  off n hn := by rw [k.inOrder] at hn; exact k.off n hn (h.off n hn)

/-! ### Changes of one socket and its place in the lists -/

/-- A socket that goes off its feed's order list, its rail off, leaves sound supplies sound, whatever becomes of its state, as long as
it stands in the queue only when QUEUED and does not begin to ramp. -/
theorem State.SupplyOk.of_unlisted {s t : State} {n : Sock} (h : s.SupplyOk)
    (phase : t.phase = s.phase) (ceiling : t.ceiling = s.ceiling) (identity : t.identity = s.identity)
    (others : ∀ m, m ≠ n → t.socket m = s.socket m) (feeds : ∀ g, g ≠ feedOf n → t.feed g = s.feed g)
    (limit : (t.feed (feedOf n)).limit = (s.feed (feedOf n)).limit)
    (order : (t.feed (feedOf n)).order = (s.feed (feedOf n)).order.filter (· != n))
    (once : (t.feed (feedOf n)).queue.Nodup)
    (members : ∀ m, m ≠ n → (m ∈ (t.feed (feedOf n)).queue ↔ m ∈ (s.feed (feedOf n)).queue))
    (queued : n ∈ (t.feed (feedOf n)).queue → (t.socket n).scu.state = .queued)
    (ramp : (t.socket n).scu.state = .ramp ∨ t.granted n = true → (s.socket n).scu.state = .ramp ∨ s.granted n = true)
    (quiet : s.phase ≠ .running → (t.socket n).scu.state.busy = false)
    (off : (t.socket n).rail.IsOff) : t.SupplyOk := by
  have listed : ∀ m, m ≠ n → t.inOrder m = s.inOrder m := by
    intro m hm
    rw [Bool.eq_iff_iff, State.inOrder_iff, State.inOrder_iff]
    by_cases hf : feedOf m = feedOf n
    · rw [hf, order]; simp [hm]
    · rw [feeds _ hf]
  have unlisted : t.inOrder n = false := by rw [State.inOrder_false_iff, order]; simp
  have inQueue : ∀ m, m ≠ n → (m ∈ (t.feed (feedOf m)).queue ↔ m ∈ (s.feed (feedOf m)).queue) := by
    intro m hm
    by_cases hf : feedOf m = feedOf n
    · rw [hf, members m hm]
    · rw [feeds _ hf]
  have granted : ∀ m, m ≠ n → t.granted m = s.granted m := by
    intro m hm
    rw [Bool.eq_iff_iff, State.granted_iff, State.granted_iff, others m hm, inQueue m hm]
  have ramps : ∀ m, (t.socket m).scu.state = .ramp ∨ t.granted m = true → (s.socket m).scu.state = .ramp ∨ s.granted m = true := by
    intro m
    by_cases hm : m = n
    · subst hm; exact ramp
    · rw [others m hm, granted m hm]; exact id
  refine ⟨fun hp m => ?_, fun f => ?_, by rw [ceiling, identity]; exact h.ceiling, fun m hm => ?_, fun m hm => ?_⟩
  · by_cases hm : m = n
    · subst hm; exact quiet (phase ▸ hp)
    · rw [others m hm]; exact h.quiet (phase ▸ hp) m
  · obtain ⟨queueOnce, orderOnce, inQueueOk, orderedOk, committed, limitOk, oneRamp⟩ := h.feeds f
    have one := fun a b ha hb ra rb => oneRamp a b ha hb (ramps a ra) (ramps b rb)
    by_cases hf : f = feedOf n
    · subst hf
      refine ⟨once, order ▸ orderOnce.filter _, fun m hm => ?_, fun m hm => ?_, ?_, ?_, one⟩
      · by_cases hmn : m = n
        · subst hmn; exact ⟨rfl, queued hm⟩
        · rw [others m hmn]; exact inQueueOk m ((members m hmn).mp hm)
      · rw [order, List.mem_filter] at hm
        have hmn : m ≠ n := by simpa using hm.2
        rw [others m hmn, members m hmn]
        exact orderedOk m hm.1
      · have admission : ((s.feed (feedOf n)).order.filter (· != n)).map t.admission =
            ((s.feed (feedOf n)).order.filter (· != n)).map s.admission :=
          List.map_congr_left fun m hm => by
            have hmn : m ≠ n := by simpa using (List.mem_filter.mp hm).2
            rw [State.admission, State.admission, others m hmn]
        rw [State.committed, order, admission, limit]
        exact le_trans (List.Sublist.sum_le_sum ((List.filter_sublist).map _) (by simp)) committed
      · rw [limit, identity]; exact limitOk
    · have other : ∀ m, feedOf m = f → m ≠ n := fun m hm e => hf (by rw [← hm, e])
      refine ⟨by rwa [feeds f hf], by rwa [feeds f hf], fun m hm => ?_, fun m hm => ?_, ?_, ?_, one⟩
      · rw [feeds f hf] at hm
        rw [others m (other m (inQueueOk m hm).1)]; exact inQueueOk m hm
      · rw [feeds f hf] at hm
        rw [others m (other m (orderedOk m hm).1), feeds f hf]; exact orderedOk m hm
      · have admission : (s.feed f).order.map t.admission = (s.feed f).order.map s.admission :=
          List.map_congr_left fun m hm => by
            rw [State.admission, State.admission, others m (other m (orderedOk m hm).1)]
        rw [State.committed, feeds f hf, admission]; exact committed
      · rw [feeds f hf, identity]; exact limitOk
  · have hmn : m ≠ n := fun e => by subst e; simp [unlisted] at hm
    rw [listed m hmn] at hm
    rw [others m hmn, State.targetOf, others m hmn, ceiling]; exact h.on m hm
  · by_cases hmn : m = n
    · subst hmn; exact off
    · rw [listed m hmn] at hm
      rw [others m hmn]; exact h.off m hm

/-- A move off the QUEUED and powered states. -/
theorem State.SupplyOk.move_out {s : State} (h : s.SupplyOk) (n : Sock) {st : SocketState} (hst : st.busy = false) :
    (s.move n st).SupplyOk := by
  have hp := SocketState.not_powered_of_not_busy hst
  have hfeed : (s.move n st).feed (feedOf n) = (s.feed (feedOf n)).leave n := by simp [State.move_feed, hp]
  have hstate : ((s.move n st).socket n).scu.state = st := by simp [Socket.moved, Record.moved]
  refine h.of_unlisted (n := n) (by simp) (by simp) (by simp) (fun m hm => by simp [hm])
    (fun g hg => by simp [State.move_feed, hg]) (by rw [hfeed]; rfl) (by rw [hfeed]; rfl) ?_ (fun m hm => ?_) (fun hm => ?_)
    (fun hr => ?_) (fun _ => by rw [hstate, hst]) (by simpa [Socket.moved] using Rail.isOff_moved _ hp)
  · rw [hfeed]; exact (h.feeds _).queueOnce.filter _
  · rw [hfeed]; simp [Feed.leave, hm]
  · rw [hfeed] at hm; simp [Feed.leave] at hm
  · rw [State.granted_iff, hstate] at hr
    rcases hr with rfl | ⟨rfl, -⟩ <;> simp [SocketState.busy, SocketState.powered] at hst

/-- A socket queued again, or for the first time: to QUEUED, and at one end of its feed's queue. -/
theorem State.SupplyOk.queue {s : State} (h : s.SupplyOk) (n : Sock) (place : List Sock → List Sock)
    (once : ∀ l, n ∉ l → l.Nodup → (place l).Nodup) (members : ∀ l m, m ∈ place l ↔ m = n ∨ m ∈ l)
    (open_ : s.phase = .running) :
    ((s.move n .queued).modFeed (feedOf n) fun g => { g with queue := place g.queue }).SupplyOk := by
  have hfeed : (s.move n .queued).feed (feedOf n) = (s.feed (feedOf n)).leave n := by
    simp [State.move_feed, SocketState.powered]
  refine h.of_unlisted (n := n) (by simp) (by simp) (by simp) (fun m hm => by simp [hm])
    (fun g hg => by simp [State.move_feed, hg]) (by simp [hfeed, Feed.leave]) (by simp [hfeed, Feed.leave]) ?_ (fun m hm => ?_)
    (fun _ => by simp [Socket.moved, Record.moved]) (fun hr => ?_) (fun hp => absurd open_ hp)
    (by simpa [Socket.moved] using Rail.isOff_moved _ rfl)
  · simp only [State.modFeed_feed, if_true, hfeed]
    exact once _ (by simp [Feed.leave]) ((h.feeds _).queueOnce.filter _)
  · simp [hfeed, members, Feed.leave, hm]
  · exfalso
    rcases hr with hr | hr
    · simp [Socket.moved, Record.moved] at hr
    · rw [State.granted_iff] at hr
      simp [members] at hr

/-- A rail turned off by the SSC, and its socket off the order list (R44, R47). -/
theorem State.SupplyOk.takeOff {s : State} (h : s.SupplyOk) (n : Sock) : (s.takeOff n).SupplyOk := by
  refine h.of_unlisted (n := n) (by simp) (by simp) (by simp) (fun m hm => by simp [State.takeOff, hm])
    (fun g hg => by simp [State.takeOff, hg]) (by simp [State.takeOff]) (by simp [State.takeOff]) ?_ (fun m hm => ?_)
    (fun hm => ?_) (fun hr => ?_) (fun hp => ?_) (by simpa [State.takeOff] using Rail.isOff_off _)
  · simpa [State.takeOff] using (h.feeds _).queueOnce
  · simp [State.takeOff]
  · simpa [State.takeOff] using ((h.feeds _).queued n (by simpa [State.takeOff] using hm)).2
  · simpa [State.takeOff, State.granted_iff] using hr
  · simpa [State.takeOff] using h.quiet hp n

/-- The head of a queue admitted, no socket of the feed ramping and its current within the limit (R35). -/
theorem State.SupplyOk.admitHead {s : State} (h : s.SupplyOk) {f : FeedId} {n : Sock} {rest : List Sock}
    (head : (s.feed f).queue = n :: rest) (free : s.ramping f = false)
    (fits : s.committed f + s.admission n ≤ (s.feed f).limit) : (s.admitHead f n rest).SupplyOk := by
  obtain ⟨queueOnce, orderOnce, queued, ordered, committed, limit, -⟩ := h.feeds f
  rw [head] at queueOnce queued ordered
  rw [State.ramping_false_iff] at free
  obtain ⟨fresh, restOnce⟩ := List.nodup_cons.mp queueOnce
  obtain ⟨hnf, hnq⟩ := queued n (by simp)
  have unlisted : n ∉ (s.feed f).order := fun hm => (ordered n hm).2.2 (by simp)
  set t := s.admitHead f n rest with ht
  have feeds : ∀ g, t.feed g = if g = f then { s.feed f with queue := rest, order := (s.feed f).order ++ [n] } else s.feed g := by
    intro g; simp [ht, State.admitHead]
  have sockets : ∀ m, t.socket m = if m = n then
      { s.socket n with rail := (s.socket n).rail.admitted (s.targetOf n) } else s.socket m := fun m =>
    State.admitHead_socket s f n m rest
  have states : ∀ m, (t.socket m).scu.state = (s.socket m).scu.state := by
    intro m; rw [sockets]; split <;> simp_all
  have profiles : ∀ m, (t.socket m).rail.profile = (s.socket m).rail.profile := by
    intro m; rw [sockets]; split
    · rename_i e; subst e; rfl
    · rfl
  have admission : t.admission = s.admission := funext fun m => congrArg RailProfile.admission (profiles m)
  have identity : t.identity = s.identity := by simp [ht]
  have ceiling : t.ceiling = s.ceiling := by simp [ht]
  have inOrder : ∀ m, t.inOrder m = true ↔ m = n ∨ s.inOrder m = true := by
    intro m
    rw [State.inOrder_iff, State.inOrder_iff, feeds]
    split
    · rename_i e; rw [e]; simp [or_comm]
    · rename_i e
      exact ⟨.inr, fun hm => hm.resolve_left fun hm => e (hm ▸ hnf)⟩
  have onlyHead : ∀ m, feedOf m = f → ((t.socket m).scu.state = .ramp ∨ t.granted m = true) → m = n := by
    intro m hm hr
    obtain ⟨noRamp, noGrant⟩ := free m hm
    rw [states, State.granted_iff, states, feeds, if_pos hm] at hr
    rw [← Bool.not_eq_true, State.granted_iff, hm, head] at noGrant
    rcases hr with hr | ⟨hq, hn⟩
    · exact absurd hr noRamp
    · by_contra hmn
      exact noGrant ⟨hq, by simpa [hmn] using hn⟩
  refine ⟨fun hp m => ?_, fun g => ?_, by rw [ceiling, identity]; exact h.ceiling, fun m hm => ?_, fun m hm => ?_⟩
  · rw [states]; exact h.quiet (by simpa [ht] using hp) m
  · by_cases hg : g = f
    · subst hg
      have hfeed := feeds g
      rw [if_pos rfl] at hfeed
      refine ⟨by rwa [hfeed], ?_, fun m hm => ?_, fun m hm => ?_, ?_, by rwa [hfeed, identity], fun a b ha hb ra rb =>
        (onlyHead a ha ra).trans (onlyHead b hb rb).symm⟩
      · rw [hfeed]; simpa using orderOnce.concat unlisted
      · rw [hfeed] at hm; rw [states]; exact queued m (by simp [hm])
      · rw [hfeed] at hm ⊢
        rw [states]
        rcases List.mem_append.mp hm with hm | hm
        · obtain ⟨a, b, c⟩ := ordered m hm
          exact ⟨a, b, fun hr => c (by simp [hr])⟩
        · obtain rfl : m = n := by simpa using hm
          exact ⟨hnf, SocketState.busy_iff.mpr (.inl hnq), fresh⟩
      · rw [State.committed, hfeed, admission]
        simpa [State.committed] using fits
    · obtain ⟨queueOnce, orderOnce, queued, ordered, committed, limit, oneRamp⟩ := h.feeds g
      have hfeed := feeds g
      rw [if_neg hg] at hfeed
      have granted : ∀ m, feedOf m = g → t.granted m = s.granted m := by
        intro m hm
        rw [Bool.eq_iff_iff, State.granted_iff, State.granted_iff, states, hm, hfeed]
      refine ⟨by rwa [hfeed], by rwa [hfeed], fun m hm => ?_, fun m hm => ?_, ?_, by rwa [hfeed, identity], fun a b ha hb ra rb => ?_⟩
      · rw [hfeed] at hm; rw [states]; exact queued m hm
      · rw [hfeed] at hm ⊢; rw [states]; exact ordered m hm
      · rw [State.committed, hfeed, admission]; exact committed
      · rw [states, granted a ha] at ra
        rw [states, granted b hb] at rb
        exact oneRamp a b ha hb ra rb
  · rw [sockets]
    by_cases hmn : m = n
    · subst hmn; simp [Rail.admitted, State.targetOf, profiles, ceiling]
    · rw [if_neg hmn, State.targetOf, profiles, ceiling]
      exact h.on m (((inOrder m).mp hm).resolve_left hmn)
  · have hmn : m ≠ n ∧ s.inOrder m = false := by
      rw [← Bool.not_eq_true, inOrder] at hm
      simpa [not_or] using hm
    rw [sockets, if_neg hmn.1]
    exact h.off m hmn.2

/-- An evaluation of admission (R35). -/
theorem State.SupplyOk.evaluate {s : State} (h : s.SupplyOk) (f : FeedId) : (s.evaluate f).SupplyOk := by
  rcases s.evaluate_cases f with e | ⟨n, rest, head, free, fits, e⟩
  · rwa [e]
  · rw [e]; exact h.admitHead head free fits

/-- A grant taken: the granted socket ramps in place of the grant (R6, R35). -/
theorem State.SupplyOk.takeGrant {s : State} (h : s.SupplyOk) (n : Sock) : (s.takeGrant n).SupplyOk := by
  unfold State.takeGrant
  split
  case isFalse => exact h
  case isTrue granted =>
  obtain ⟨hq, hout⟩ := State.granted_iff.mp granted
  set t := s.move n .ramp with ht
  have feeds : ∀ g, t.feed g = s.feed g := by intro g; simp [ht, State.move_feed, SocketState.powered]
  have sockets : ∀ m, t.socket m = if m = n then (s.socket n).moved .ramp else s.socket m := fun m => by
    rw [ht, State.move_socket]
  have here : (t.socket n).scu.state = .ramp := by simp [sockets, Socket.moved, Record.moved]
  have others : ∀ m, m ≠ n → t.socket m = s.socket m := fun m hm => by simp [sockets, hm]
  have busy : ∀ m, (t.socket m).scu.state.busy = (s.socket m).scu.state.busy := by
    intro m
    by_cases hm : m = n
    · subst hm; rw [here, hq]; rfl
    · rw [others m hm]
  have profiles : ∀ m, (t.socket m).rail.profile = (s.socket m).rail.profile := by
    intro m
    by_cases hm : m = n
    · subst hm; simp [sockets, Socket.moved, Rail.moved_profile]
    · rw [others m hm]
  have admission : t.admission = s.admission := funext fun m => congrArg RailProfile.admission (profiles m)
  have identity : t.identity = s.identity := by simp [ht]
  have ceiling : t.ceiling = s.ceiling := by simp [ht]
  have inOrder : ∀ m, t.inOrder m = s.inOrder m := fun m => by simp [State.inOrder, feeds]
  have ramps : ∀ m, (t.socket m).scu.state = .ramp ∨ t.granted m = true → (s.socket m).scu.state = .ramp ∨ s.granted m = true := by
    intro m hr
    by_cases hm : m = n
    · subst hm; exact .inr granted
    · rwa [others m hm, State.granted_iff, others m hm, feeds, ← State.granted_iff] at hr
  refine ⟨fun hp m => ?_, fun f => ?_, by rw [ceiling, identity]; exact h.ceiling, fun m hm => ?_, fun m hm => ?_⟩
  · rw [busy]; exact h.quiet (by simpa [ht] using hp) m
  · obtain ⟨queueOnce, orderOnce, queued, ordered, committed, limit, oneRamp⟩ := h.feeds f
    refine ⟨by rwa [feeds], by rwa [feeds], fun m hm => ?_, fun m hm => ?_, ?_, by rwa [feeds, identity],
      fun a b ha hb ra rb => oneRamp a b ha hb (ramps a ra) (ramps b rb)⟩
    · rw [feeds] at hm
      obtain ⟨hf, hm'⟩ := queued m hm
      have hmn : m ≠ n := fun e => hout (by rw [← e, hf]; exact hm)
      rw [others m hmn]; exact ⟨hf, hm'⟩
    · rw [feeds] at hm ⊢; rw [busy]; exact ordered m hm
    · rw [State.committed, feeds, admission]; exact committed
  · rw [inOrder] at hm
    rw [State.targetOf, profiles, ceiling, ← State.targetOf, ← h.on m hm, sockets]
    split
    · rename_i e; subst e; exact Rail.moved_commanded _ rfl
    · rfl
  · rw [inOrder] at hm
    rw [sockets]
    split
    · rename_i e; subst e; exact Rail.IsOff.moved (h.off m hm) _
    · exact h.off m hm

/-- A move within the powered states, and not to RAMP, is not noticed. -/
theorem State.SupplyKept.move {s : State} (n : Sock) {st : SocketState} (hst : st.powered = true) (noRamp : st ≠ .ramp)
    (from_ : (s.socket n).scu.state.powered = true) : s.SupplyKept (s.move n st) := by
  have queuedIff : ∀ x : SocketState, x.powered = true → x ≠ .queued := by intro x hx e; subst e; simp [SocketState.powered] at hx
  refine ⟨by simp, by simp, by simp, ?_, ?_, ?_, ?_, ?_, ?_, ?_, ?_, ?_⟩
  any_goals (intro f; simp [State.move_feed, hst])
  all_goals split
  all_goals try simp
  all_goals rename_i e; subst e
  · simp [Socket.moved, Record.moved, SocketState.busy_of_powered, hst, from_]
  · simp [Socket.moved, Record.moved, queuedIff _ hst, queuedIff _ from_]
  · simp [Socket.moved, Record.moved, noRamp]
  · exact Rail.moved_profile _ _
  · exact Rail.moved_commanded _ hst
  · exact fun _ h => h.moved _

/-! ### The SCU's operations -/

theorem State.SupplyKept.modSocket (s : State) (n : Sock) {f : Socket → Socket}
    (state : ∀ k, (f k).scu.state = k.scu.state := by intro k; rfl)
    (rail : ∀ k, (f k).rail = k.rail := by intro k; rfl) : s.SupplyKept (s.modSocket n f) :=
  .of_eq rfl rfl rfl (fun _ => by simp) fun m => by
    rw [State.modSocket_socket]
    split
    · rename_i e; subst e; exact ⟨state _, rail _⟩
    · exact ⟨rfl, rfl⟩

theorem State.SupplyKept.modRail (s : State) (n : Sock) {f : Rail → Rail}
    (off : s.inOrder n = false → ∀ r : Rail, r.IsOff → (f r).IsOff)
    (profile : ∀ r, (f r).profile = r.profile := by intro r; rfl)
    (commanded : ∀ r, (f r).commanded = r.commanded := by intro r; rfl) : s.SupplyKept (s.modRail n f) :=
  .of_states rfl rfl rfl (fun _ => by simp) (fun m => by rw [State.modRail_socket]; split <;> simp_all) fun m => by
    rw [State.modRail_socket]
    split
    · rename_i e; subst e; exact ⟨profile _, commanded _, fun hm => off hm _⟩
    · exact ⟨rfl, rfl, fun _ h => h⟩

theorem State.SupplyKept.send (s : State) (n : Sock) (k : ReportKind) : s.SupplyKept (s.send n k) :=
  .of_eq rfl rfl rfl (fun _ => by simp) fun _ => ⟨rfl, rfl⟩

theorem State.SupplyKept.drop (s : State) (r : Report) : s.SupplyKept (s.drop r) :=
  .of_eq rfl rfl rfl (fun _ => by simp) fun _ => ⟨rfl, rfl⟩

theorem State.SupplyKept.raise (s : State) (e : EventFlag) (x : SocketSet) : s.SupplyKept (s.raise e x) :=
  .of_eq rfl rfl rfl (fun _ => by simp) fun _ => ⟨rfl, rfl⟩

theorem State.SupplyKept.modScu (s : State) (n : Sock) {f : Record → Record}
    (state : ∀ r, (f r).state = r.state := by intro r; rfl) : s.SupplyKept (s.modScu n f) :=
  .modSocket s n (fun _ => state _)

theorem State.SupplyKept.modAccount (s : State) (n : Sock) (f : Account → Account) : s.SupplyKept (s.modAccount n f) :=
  .modSocket s n

theorem State.SupplyKept.modHeat (s : State) (n : Sock) (f : Heat → Heat) : s.SupplyKept (s.modHeat n f) :=
  .modSocket s n

theorem State.SupplyKept.modFeed (s : State) (f : FeedId) {g : Feed → Feed}
    (lists : ∀ x, (g x).limit = x.limit ∧ (g x).queue = x.queue ∧ (g x).order = x.order := by
      intro x; exact ⟨rfl, rfl, rfl⟩) : s.SupplyKept (s.modFeed f g) :=
  .of_eq (by simp) (by simp) (by simp) (fun h => by by_cases e : h = f <;> simp [e, lists]) fun n => by simp

/-- Only what stands beside the sockets and the feeds changed. -/
theorem State.SupplyKept.of_sockets {s t : State} (sockets : t.sockets = s.sockets) (feedA : t.feedA = s.feedA)
    (feedB : t.feedB = s.feedB) (phase : t.phase = s.phase) (ceiling : t.ceiling = s.ceiling)
    (identity : t.identity = s.identity) : s.SupplyKept t :=
  .of_eq phase ceiling identity (fun f => by cases f <;> simp [State.feed, feedA, feedB]) fun n => by
    rw [State.socket_congr sockets]; exact ⟨rfl, rfl⟩

theorem State.SupplyKept.settleToRun (s : State) (n : Sock) : s.SupplyKept (s.settleToRun n) := by
  unfold State.settleToRun
  split
  · rename_i may
    refine .move n rfl (by simp) ?_
    simp only [State.mayRun, Bool.and_eq_true, beq_iff_eq] at may
    rw [may.1.1]; rfl
  · exact .refl s

theorem State.SupplyKept.decideAll (s : State) : s.SupplyKept s.decideAll := .foldl _ .settleToRun s

theorem State.SupplyKept.mapSockets (s : State) {f : Sock → Socket → Socket}
    (state : ∀ n k, (f n k).scu.state = k.scu.state := by intro n k; rfl)
    (rail : ∀ n k, (f n k).rail = k.rail := by intro n k; rfl) : s.SupplyKept (s.mapSockets f) :=
  .of_eq rfl rfl rfl (fun _ => by simp) fun m => by simp [state, rail]

theorem State.SupplyKept.idle (s : State) (c : StopCause) : s.SupplyKept (s.idle c) := by
  have dropped : s.SupplyKept ({ s with engine := s.engine.stopped c } : State).dropResults.recomputeRate :=
    .of_eq (by simp) (by simp) (by simp) (fun f => by cases f <;> simp [State.feed]) fun n => by
      simp only [State.dropResults, State.recomputeRate_socket, State.mapSockets_socket]
      exact ⟨rfl, rfl⟩
  exact dropped.trans (.decideAll _)

/-- A socket whose failure its account has taken: the first-fail flag set, the first-fail fields or the count of secondary failures,
and the captures that COMPARE_FAIL takes (R18, R139). -/
def Socket.accounted (k : Socket) (kind : RecordKind) (c : Cause) (time : Nat) : Socket :=
  { k with
      scu := { k.scu with firstFail := true },
      account := k.account.failed kind c time k.credit.credit,
      lane := if c = .compareFail then { k.lane with captures := [], truncated := false } else k.lane }

theorem State.logRecord_socket (s : State) (r : FailRecord) (m : Sock) : (s.logRecord r).socket m = s.socket m :=
  State.socket_congr (by simp) m

/-- A failure taken into account changes the failed socket alone. -/
theorem State.accountFailure_socket (s : State) (n m : Sock) (c : Cause) (d : SocketState) :
    (s.accountFailure n c d).socket m =
      if m = n then (s.socket n).accounted (s.kindOf n) c s.clock else s.socket m := by
  unfold State.accountFailure State.takeCaptures State.markFailed Socket.accounted
  split <;> by_cases hm : m = n <;> simp_all [State.logRecord_socket]

theorem State.accountFailure_feed (s : State) (n : Sock) (c : Cause) (d : SocketState) (f : FeedId) :
    (s.accountFailure n c d).feed f = s.feed f := by
  cases f <;> simp [State.feed]

theorem State.SupplyKept.accountFailure (s : State) (n : Sock) (c : Cause) (d : SocketState) :
    s.SupplyKept (s.accountFailure n c d) :=
  .of_eq (by simp) (by simp) (by simp) (fun f => by simp [State.accountFailure_feed]) fun m => by
    rw [State.accountFailure_socket]
    split
    · rename_i e; subst e; exact ⟨rfl, rfl⟩
    · exact ⟨rfl, rfl⟩

theorem State.SupplyOk.moveAdmit {s : State} (h : s.SupplyOk) (n : Sock) {st : SocketState} (hst : st.busy = false) :
    (s.moveAdmit n st).SupplyOk := (h.move_out n hst).evaluate _

/-- A disposition is HOLD or SAFE (R17). -/
theorem Cause.disposition_cases (c : Cause) (m : Attendance) : c.disposition m = .hold ∨ c.disposition m = .safe := by
  cases c <;> cases m <;> decide

/-- A monitor runs in powered states alone (R17). -/
theorem Cause.powered_of_runsIn {c : Cause} {st : SocketState} (h : c.runsIn st = true) : st.powered = true := by
  cases c <;> cases st <;> simp_all [Cause.runsIn, SocketState.powered]

theorem State.SupplyOk.fail {s : State} (h : s.SupplyOk) (n : Sock) (c : Cause) : (s.fail n c).SupplyOk := by
  cases runs : c.runsIn (s.socket n).scu.state with
  | false => rwa [s.fail_discarded n c runs]
  | true =>
    rw [s.fail_taken n c runs]
    refine State.SupplyOk.of_kept ?_ (.raise _ _ _)
    have kept := State.SupplyKept.accountFailure s n c (c.disposition s.link.mode)
    have counted := h.of_kept kept
    unfold State.dispose
    rcases Cause.disposition_cases c s.link.mode with e | e
    · rw [if_pos e]
      refine counted.of_kept (.move n rfl (by simp) ?_)
      rw [State.accountFailure_socket, if_pos rfl]
      exact Cause.powered_of_runsIn runs
    · rw [if_neg (by rw [e]; simp), e]
      exact State.SupplyOk.moveAdmit (e ▸ counted) n rfl

end Sys2Proof.Machine
end

section
/-!
PROOFS. The supplies stay sound through every expiry, report, tick and request, and so through every step.
-/

namespace Sys2Proof.Machine

/-! ### Reports taken -/

/-- A busy socket stands in a running part alone. -/
theorem State.SupplyOk.running {s : State} (h : s.SupplyOk) {n : Sock} (busy : (s.socket n).scu.state.busy = true) :
    s.phase = .running := by
  by_contra hp
  simp [h.quiet hp n] at busy

theorem State.SupplyOk.requeued {s : State} (h : s.SupplyOk) (n : Sock) : (s.requeued n).SupplyOk := by
  unfold State.requeued
  dsimp only
  split
  · exact (h.move_out n rfl).evaluate _
  · exact h.evaluate _

theorem State.SupplyOk.takeTrip {s : State} (h : s.SupplyOk) (n : Sock) : (s.takeTrip n).SupplyOk := by
  unfold State.takeTrip
  split
  case isFalse => exact h
  case isTrue powered =>
  have counted : (s.modSocket n fun k => k.tripped (s.isRetry n)).SupplyOk :=
    h.of_kept (.modSocket s n)
  dsimp only
  split
  · exact (counted.queue n (n :: ·) (fun l fresh once => List.nodup_cons.mpr ⟨fresh, once⟩) (fun l m => List.mem_cons)
      (h.running (SocketState.busy_of_powered powered))).requeued n
  · exact counted.fail n _

theorem State.SupplyKept.countShed (s : State) (n : Sock) : s.SupplyKept (s.countShed n) :=
  .modAccount s n _

theorem State.SupplyOk.shedMove {s : State} (h : s.SupplyOk) (n : Sock) : (s.shedMove n).SupplyOk := by
  have counted := h.of_kept (.countShed s n)
  unfold State.shedMove
  dsimp only
  split_ifs with hold powered
  · exact counted.move_out n rfl
  · exact counted.queue n (· ++ [n])
      (fun l fresh once => List.nodup_append.mpr ⟨once, by simp, fun a ha b hb e =>
        fresh (by rw [← List.mem_singleton.mp hb, ← e]; exact ha)⟩)
      (fun l m => by rw [List.mem_append, List.mem_singleton, or_comm]) (h.running (SocketState.busy_of_powered powered))
  · exact h

theorem State.SupplyOk.takeShed {s : State} (h : s.SupplyOk) (n : Sock) : (s.takeShed n).SupplyOk := by
  unfold State.takeShed
  dsimp only
  split_ifs
  · exact (h.shedMove n).evaluate _
  · exact (h.shedMove n).requeued n
  · exact h

theorem State.SupplyOk.taken {s : State} (h : s.SupplyOk) (n : Sock) (kind : ReportKind) : (s.taken n kind).SupplyOk := by
  cases kind with
  | grant => exact h.takeGrant n
  | qualified =>
    simp only [State.taken, State.takeQualified]
    split
    · rename_i ramp
      exact (h.of_kept (.move n rfl (by simp) (by rw [ramp]; rfl))).evaluate _
    · exact h
  | settled =>
    simp only [State.taken, State.takeSettled]
    split
    · exact h.of_kept ((State.SupplyKept.modScu s n).trans (.settleToRun _ n))
    · exact h
  | notSettled =>
    simp only [State.taken, State.takeNotSettled]
    exact h.of_kept (State.SupplyKept.modScu s n)
  | target =>
    simp only [State.taken, State.takeTarget]
    split
    · exact State.SupplyOk.of_kept ((h.of_kept (.modAccount s n _)).moveAdmit n (st := .done) rfl) (.raise _ _ _)
    · exact h
  | trip => exact h.takeTrip n
  | shed => exact h.takeShed n
  | failure c => exact h.fail n c

theorem State.SupplyOk.takeNotices (n : Sock) : ∀ (k : Nat) {s : State}, s.SupplyOk → (State.takeNotices n k s).SupplyOk
  | 0, _, h => h
  | k + 1, s, h => by
    unfold State.takeNotices
    split
    · split
      · exact State.SupplyOk.takeNotices n k ((h.of_kept (.drop s _)).taken n .notSettled)
      · exact h
    · exact h

theorem State.SupplyOk.takeReport {s : State} (h : s.SupplyOk) (n : Sock) (kind : ReportKind) :
    (s.takeReport n kind (·.taken n kind)).SupplyOk := by
  rcases s.takeReport_cases n kind (·.taken n kind) with ⟨-, e⟩ | ⟨-, e⟩ <;> rw [e]
  · exact .takeNotices n _ ((h.of_kept (.drop s _)).taken n kind)
  · exact h

/-! ### The engine -/

theorem State.SupplyKept.settlePass (s : State) (n : Sock) : s.SupplyKept (s.settlePass n) := by
  have counted : ∀ lane failing, s.SupplyKept (s.setSocket n { s.socket n with
      lane, scu := { (s.socket n).scu with failingPassSinceRead := failing } }) := fun lane failing =>
    .of_eq rfl rfl rfl (fun _ => by simp) fun m => by
      rw [State.setSocket_socket]
      split
      · rename_i e; subst e; exact ⟨rfl, rfl⟩
      · exact ⟨rfl, rfl⟩
  unfold State.settlePass
  dsimp only
  split
  · exact (counted _ _).trans (.send _ n _)
  · exact counted _ _

theorem State.SupplyKept.engine (s : State) (g : Engine) : s.SupplyKept { s with engine := g } :=
  .of_sockets rfl rfl rfl rfl rfl rfl

theorem State.SupplyKept.startPass (s : State) : s.SupplyKept s.startPass := by
  refine (State.SupplyKept.mapSockets s (f := fun n k =>
    if SocketSet.has s.runSet n then { k with lane := k.lane.startPass } else k) ?_ ?_).trans (.engine _ _)
  all_goals intro n k; split <;> rfl

theorem State.SupplyKept.nextPass (s : State) : s.SupplyKept s.nextPass :=
  ((State.SupplyKept.engine s _).trans (.decideAll _)).trans (.startPass _)

theorem State.SupplyKept.arrive (s : State) (e : EntryNo) : s.SupplyKept (s.arrive e).1 := by
  unfold State.arrive
  dsimp only
  split_ifs
  · exact (State.SupplyKept.idle s _).trans (.raise _ _ _)
  · exact (State.SupplyKept.idle s _).trans (.raise _ _ _)
  · exact .engine s _

theorem State.SupplyKept.followLink (s : State) : s.SupplyKept s.followLink := by
  unfold State.followLink
  split
  · exact (State.SupplyKept.idle s _).trans (.raise _ _ _)
  · rename_i e _
    have arrived := State.SupplyKept.arrive s e
    split <;> rename_i t ht <;> rw [ht] at arrived
    · exact arrived.trans (.nextPass t)
    · exact arrived

theorem State.SupplyKept.passEnd (s : State) : s.SupplyKept s.passEnd := by
  have settled : s.SupplyKept s.settlePasses := .foldl _ .settlePass s
  unfold State.passEnd
  dsimp only
  split
  · exact .refl s
  · exact settled.trans (.idle _ _)
  · split
    · exact (settled.trans (.engine _ _)).trans (.followLink _)
    · exact (settled.trans (.engine _ _)).trans (.nextPass _)

theorem State.SupplyKept.start (s : State) (e : EntryNo) : s.SupplyKept (s.start e) := by
  have arrived := State.SupplyKept.arrive s e
  unfold State.start
  split <;> rename_i t ht <;> rw [ht] at arrived
  · exact arrived.trans (.startPass t)
  · exact arrived

theorem State.SupplyKept.pageCorrupt (s : State) (p : Page) : s.SupplyKept (s.pageCorrupt p) := by
  have marked : s.SupplyKept ({ s with store := s.store.setCondition p .corrupt }.raise .storeFault 0#16) :=
    .of_sockets rfl rfl rfl rfl rfl rfl
  refine marked.trans ?_
  unfold State.pageCorrupt State.stopForPage
  split_ifs
  · exact .refl _
  · exact .idle _ _
  · exact .engine _ _
  · exact .refl _

theorem State.SupplyKept.checkPage (s : State) (p : Page) : s.SupplyKept (s.checkPage p).1 := by
  unfold State.checkPage
  split
  · exact .pageCorrupt s p
  · exact .refl s

theorem State.SupplyKept.verify : ∀ (pages : List Page) (s : State), s.SupplyKept (State.verify pages s).1
  | [], s => .refl s
  | p :: rest, s => by
    unfold State.verify
    split
    · exact State.SupplyKept.verify rest s
    · exact .refl s
    · have checked := State.SupplyKept.checkPage s p
      split <;> rename_i t ht <;> rw [ht] at checked
      · exact checked.trans (.verify rest t)
      · exact checked

theorem State.SupplyKept.scrub (s : State) : s.SupplyKept s.scrub := by
  unfold State.scrub
  split
  · exact .refl s
  · split
    · exact .refl s
    · rename_i p _
      have moved : s.SupplyKept { s with store := { s.store with scrub := p + 1, lastScrubbed := some p } } :=
        .of_sockets rfl rfl rfl rfl rfl rfl
      exact moved.trans (.checkPage _ _)

/-! ### Expiries -/

theorem State.SupplyOk.releaseAll {s : State} (h : s.SupplyOk) : s.releaseAll.SupplyOk := by
  refine State.SupplyOk.of_kept (foldl_holds allSocks (fun t n ht => ?_) h) (.raise _ _ _)
  unfold State.releaseUnattended
  split
  · exact (ht.of_kept (.modAccount t n _)).moveAdmit n (st := .safe) rfl
  · exact ht

theorem State.SupplyKept.goUnattended (s : State) : s.SupplyKept s.goUnattended := .of_sockets rfl rfl rfl rfl rfl rfl

theorem State.SupplyOk.fire {s : State} (h : s.SupplyOk) (e : Expiry) : (s.fire e).SupplyOk := by
  cases e with
  | rampTimeout n | moveTimeout n =>
    simp only [State.fire, State.rampTimedOut, State.moveTimedOut]
    refine State.SupplyOk.of_kept (h.of_kept (.modRail s n fun _ r off => ?_)) (.send _ _ _)
    obtain ⟨a, b, _, c⟩ := off
    exact ⟨a, b, rfl, c⟩
  | qualification n =>
    simp only [State.fire, State.qualify]
    split
    · rename_i listed
      exact h.of_kept ((State.SupplyKept.modRail s n fun unlisted => by simp [listed] at unlisted).trans (.send _ _ _))
    · exact h
  | unregulated n =>
    simp only [State.fire, State.unregulated]
    refine State.SupplyOk.of_kept (h.of_kept (.modRail s n fun _ r off => ?_)) (.send _ _ _)
    obtain ⟨a, b, c, d, e, _, f⟩ := off
    exact ⟨a, b, c, d, e, rfl, f⟩
  | trip n => exact (h.takeOff n).of_kept (.send _ _ _)
  | contactLoss n =>
    simp only [State.fire, State.contactLost]
    refine State.SupplyOk.of_kept (h.of_kept (.modRail s n fun _ r off => ?_)) (.send _ _ _)
    obtain ⟨a, b, c, d, e, f, g, _⟩ := off
    exact ⟨a, b, c, d, e, f, g, rfl⟩
  | shed f =>
    have counted : s.SupplyKept (s.modFeed f fun g => { g with overCount := 0 }) :=
      .modFeed s f
    simp only [State.fire, State.shedNewest]
    split
    · exact h.of_kept counted
    · exact ((h.of_kept counted).takeOff _).of_kept ((State.SupplyKept.send _ _ _).trans (.raise _ _ _))
  | calibrationEnd n =>
    simp only [State.fire, State.endCalibration]
    split
    · exact h
    · rename_i c _
      refine (h.of_kept (.modRail s n (f := fun r => r.calibrated c.mean) (fun _ r off => ?_) (fun r => ?_) fun r => ?_)).of_kept
        (.of_sockets (by simp) (by simp) (by simp) (by simp) (by simp) (by simp))
      · unfold Rail.calibrated; split <;> exact off
      · unfold Rail.calibrated; split <;> rfl
      · unfold Rail.calibrated; split <;> rfl
  | thermallySettled n => exact h.of_kept (.send s n _)
  | notSettled n =>
    simp only [State.fire, State.noticeNotSettled]
    split
    · exact h.of_kept (.send s n _)
    · exact h.taken n .notSettled
  | excursion n | runaway n =>
    simp only [State.fire, State.reportExcursion, State.reportRunaway]
    exact h.of_kept ((State.SupplyKept.modHeat s n _).trans (.send _ _ _))
  | settleTimeout n => exact h.fail n _
  | cleanRun n =>
    simp only [State.fire, State.cleanRunDone]
    exact h.of_kept (State.SupplyKept.modScu s n)
  | linkSilence => exact (h.of_kept (.goUnattended s)).releaseAll
  | releases => exact h.releaseAll
  | passEnd => exact h.of_kept (.passEnd s)

theorem State.SupplyKept.due (s : State) (l : List Expiry) : s.SupplyKept { s with due := l } :=
  .of_sockets rfl rfl rfl rfl rfl rfl

theorem State.SupplyOk.settled {s : State} (h : s.SupplyOk) : s.settled.SupplyOk :=
  foldl_holds _ (fun _ e ht => ht.fire e) (h.of_kept (.due s []))

theorem State.SupplyOk.occur {s : State} (h : s.SupplyOk) (e : Expiry) : (s.occur e).SupplyOk := by
  unfold State.occur
  split
  · exact foldl_holds _ (fun _ e ht => ht.fire e) (h.of_kept (.due s _))
  · exact h

theorem State.SupplyOk.occurBefore {s : State} (h : s.SupplyOk) (e : Expiry) : (s.occurBefore e).SupplyOk :=
  foldl_holds _ (fun _ e ht => ht.fire e) (h.of_kept (.due s _))

theorem State.SupplyOk.beforeReport {s : State} (h : s.SupplyOk) : s.beforeReport.SupplyOk := by
  unfold State.beforeReport
  split_ifs
  · exact (h.occurBefore _).of_kept (.of_sockets rfl rfl rfl rfl rfl rfl)
  · exact h.occurBefore _
  · exact h.settled

/-! ### Ticks and vector steps -/

theorem Rail.IsOff.sense {r : Rail} (h : r.IsOff) (x : SenseReading) : ((r.calibrate x).sense x).IsOff := h

theorem State.SupplyKept.sampleTick (s : State) (readings : Vector SenseReading 16) : s.SupplyKept (s.sampleTick readings) := by
  have sampled : s.SupplyKept (s.mapSockets fun n k => k.sample (s.inOrder n) s.identity.tripMax (readings.get n)) := by
    refine .of_states (by simp) (by simp) (by simp) (fun f => by simp) (fun n => by simp [Socket.sample]) fun n => ?_
    simp only [State.mapSockets_socket, Socket.sample]
    refine ⟨?_, ?_, fun unlisted off => ?_⟩
    · split <;> rfl
    · split <;> rfl
    · rw [unlisted]; exact off.sense _
  exact ((sampled.trans (.modFeed _ .a)).trans (.modFeed _ .b)).trans (.due _ _)

theorem State.SupplyKept.scale (s : State) : s.SupplyKept s.scale := by
  have scaled : ∀ d : Sock → Nat, s.SupplyKept (s.mapSockets fun n k => k.withDuty (d n)) := fun d =>
    .mapSockets s (fun _ _ => rfl) fun _ _ => rfl
  unfold State.scale
  dsimp only
  split
  · exact (scaled _).trans (.raise _ _ _)
  · exact scaled _

theorem State.SupplyKept.thermalReport (before : Vector Socket 16) (s : State) (n : Sock) :
    s.SupplyKept (State.thermalReport before s n) := by
  have reported : ∀ t : State, t.SupplyKept (t.limitReports n) := by
    intro t
    unfold State.limitReports
    dsimp only
    split_ifs
    · exact (State.SupplyKept.send t _ _).trans (.send _ _ _)
    · exact .send t _ _
    · exact .send t _ _
    · exact .refl t
    · exact .refl t
  unfold State.thermalReport
  dsimp only
  refine State.SupplyKept.trans ?_ (.due _ _)
  split
  · exact (State.SupplyKept.raise s _ _).trans (reported _)
  · exact reported _

theorem Socket.notices_frame (k : Socket) :
    k.notices.scu.state = k.scu.state ∧ k.notices.rail = k.rail := by
  unfold Socket.notices; split <;> exact ⟨rfl, rfl⟩

theorem State.SupplyKept.thermalTick (s : State) (readings : Vector Int 16) : s.SupplyKept (s.thermalTick readings) := by
  have demanded : s.SupplyKept (s.mapSockets fun n k => k.thermalFirst (readings.get n)) :=
    .mapSockets s
  refine ((demanded.trans (.scale _)).trans (.mapSockets _ (fun n k => ?_) fun n k => ?_)).trans
    (.foldl _ (.thermalReport s.sockets) _)
  · exact (Socket.notices_frame _).1
  · exact (Socket.notices_frame _).2

theorem State.SupplyKept.accrueSocket (s : State) (n : Sock) : s.SupplyKept (s.accrueSocket n) := by
  have counted : ∀ credit account, s.SupplyKept (s.setSocket n { s.socket n with credit, account }) := fun credit account =>
    .of_eq rfl rfl rfl (fun _ => by simp) fun m => by
      rw [State.setSocket_socket]
      split
      · rename_i e; subst e; exact ⟨rfl, rfl⟩
      · exact ⟨rfl, rfl⟩
  unfold State.accrueSocket
  dsimp only
  generalize (if s.eligible n = true then (s.socket n).credit.accrue (s.tickFactor n) else (s.socket n).credit) = credit
  split
  · split
    · exact (counted _ _).trans (.send _ _ _)
    · exact counted _ _
  · exact .refl s

theorem State.SupplyKept.timers (s : State) : s.SupplyKept s.timers := by
  have timed : s.SupplyKept (s.mapSockets fun _ k => { k with scu := k.scu.second }) := .mapSockets s
  exact timed.trans (.due _ _)

theorem State.SupplyKept.silenceTick (s : State) : s.SupplyKept s.silenceTick := by
  unfold State.silenceTick
  split
  · exact .refl s
  · dsimp only
    split <;> exact .of_sockets rfl rfl rfl rfl rfl rfl

theorem State.SupplyKept.secondTick (s : State) : s.SupplyKept s.secondTick := by
  have clocked : s.SupplyKept { s with clock := (s.clock + 1) % 4294967296 } := .of_sockets rfl rfl rfl rfl rfl rfl
  exact (((clocked.trans (.foldl _ .accrueSocket _)).trans (.timers _)).trans (.scrub _)).trans (.silenceTick _)

/-- A participant's vector is compared, and no other socket changes (R110). -/
theorem State.vectorStep_socket (s : State) (e : EntryNo) (responses : Vector Byte 16) (n : Sock) :
    (s.vectorStep e responses).socket n =
      if SocketSet.has s.engine.participants n then
        { s.socket n with
            lane := (s.socket n).lane.compareVector (s.store.vector s.engine.vectorIndex) (responses.get n) fun mask =>
              { loopIndex := s.engine.loopIndex, entry := e, vector := s.engine.vectorIndex, observed := responses.get n,
                expected := expectedOf (s.store.vector s.engine.vectorIndex), mask } }
      else s.socket n := by
  unfold State.vectorStep
  exact s.mapSockets_socket n _

/-- `vectorStep` changes nothing but the sockets, the engine and what is due. -/
theorem State.vectorStep_frame (s : State) (e : EntryNo) (responses : Vector Byte 16) :
    (s.vectorStep e responses).phase = s.phase ∧ (s.vectorStep e responses).feedA = s.feedA ∧
    (s.vectorStep e responses).feedB = s.feedB ∧ (s.vectorStep e responses).ceiling = s.ceiling ∧
    (s.vectorStep e responses).budget = s.budget ∧ (s.vectorStep e responses).store = s.store ∧
    (s.vectorStep e responses).factors = s.factors ∧ (s.vectorStep e responses).log = s.log ∧
    (s.vectorStep e responses).events = s.events ∧ (s.vectorStep e responses).link = s.link ∧
    (s.vectorStep e responses).identity = s.identity ∧ (s.vectorStep e responses).clock = s.clock ∧
    (s.vectorStep e responses).presence = s.presence ∧ (s.vectorStep e responses).reports = s.reports ∧
    (s.vectorStep e responses).pending = s.pending := by
  simp [State.vectorStep]

theorem State.SupplyKept.vectorStep (s : State) (e : EntryNo) (responses : Vector Byte 16) :
    s.SupplyKept (s.vectorStep e responses) := by
  refine .of_eq ?_ ?_ ?_ (fun f => ?_) fun n => ?_
  · simp [State.vectorStep_frame]
  · simp [State.vectorStep_frame]
  · simp [State.vectorStep_frame]
  · cases f <;> simp [State.feed, State.vectorStep_frame]
  · rw [State.vectorStep_socket]
    split <;> exact ⟨rfl, rfl⟩

end Sys2Proof.Machine
end

section
/-!
PROOFS. The supplies stay sound through requests, loads and resets, and so through every step.
-/

namespace Sys2Proof.Machine

/-! ### Set requests -/

/-- A set request keeps a property of open parts that its action keeps for the sockets it is not refused for (R4). -/
theorem State.SupplyOk.forSet {s : State} (h : s.SupplyOk) (x : SocketSet) (judge : State → Sock → Option Status)
    (act : State → Sock → State) (running : s.phase = .running)
    (keeps : ∀ t n, t.SupplyOk → t.phase = .running → judge t n = none → (act t n).SupplyOk)
    (phase : ∀ t n, (act t n).phase = t.phase) : (s.forSet x judge act).1.SupplyOk :=
  (s.forSet_keeps (fun t => t.SupplyOk ∧ t.phase = .running) x judge act
    (fun t n ⟨ok, running⟩ free => ⟨keeps t n ok running free, (phase t n).trans running⟩) ⟨h, running⟩).1

theorem State.arm_phase (s : State) (n : Sock) : (s.arm n).phase = s.phase := by simp [State.arm]

theorem State.powerDown_phase (s : State) (n : Sock) : (s.powerDown n).phase = s.phase := by
  unfold State.powerDown; dsimp only; split <;> simp

theorem State.SupplyOk.arm {s : State} (h : s.SupplyOk) (n : Sock) (running : s.phase = .running) : (s.arm n).SupplyOk := by
  have armed : (s.modSocket n Socket.armed).SupplyOk := h.of_kept (.modSocket s n)
  exact (armed.queue n (· ++ [n])
    (fun l fresh once => by simpa using once.concat fresh)
    (fun l m => by rw [List.mem_append, List.mem_singleton, or_comm]) running).evaluate _

theorem State.SupplyOk.powerDown {s : State} (h : s.SupplyOk) (n : Sock) : (s.powerDown n).SupplyOk := by
  unfold State.powerDown
  dsimp only
  have free : (if (s.socket n).scu.state = .hold then SocketState.safe else .off).busy = false := by split <;> rfl
  split
  · exact h.move_out n free
  · exact h.moveAdmit n free

/-- A socket that a set request is not refused for is in a state that the request allows. -/
theorem State.unless_eq_none {s : State} {n : Sock} {allowed : SocketState → Bool} (h : s.unless n allowed = none) :
    allowed (s.socket n).scu.state = true := by
  unfold State.unless at h
  split_ifs at h with _ ok
  exact ok

theorem allSocks_nodup : allSocks.Nodup := List.nodup_finRange 16

@[simp] theorem mem_allSocks (n : Sock) : n ∈ allSocks := List.mem_finRange n

/-! ### A change of the ceiling (R28, R29) -/

/-- Whether a socket is retargeted, and to what, depends on the feeds, the ceiling and the socket alone. -/
theorem State.retarget_socket (s : State) (n m : Sock) :
    (s.retarget n).socket m =
      if m = n ∧ s.retargets n = true then
        { s.socket n with
            rail := if (s.socket n).scu.state.regulated then (s.socket n).rail.startMove (s.targetOf n)
              else (s.socket n).rail.retargetRamp (s.targetOf n) }
      else s.socket m := by
  unfold State.retarget
  by_cases h : s.retargets n = true <;> by_cases hm : m = n <;> simp [h, hm]

/-- Retargeting changes nothing but sockets. -/
theorem State.retarget_frame (s : State) (n : Sock) :
    (s.retarget n).phase = s.phase ∧ (s.retarget n).feedA = s.feedA ∧ (s.retarget n).feedB = s.feedB ∧
    (s.retarget n).ceiling = s.ceiling ∧ (s.retarget n).budget = s.budget ∧ (s.retarget n).store = s.store ∧
    (s.retarget n).engine = s.engine ∧ (s.retarget n).factors = s.factors ∧ (s.retarget n).log = s.log ∧
    (s.retarget n).events = s.events ∧ (s.retarget n).link = s.link ∧ (s.retarget n).identity = s.identity ∧
    (s.retarget n).clock = s.clock ∧ (s.retarget n).presence = s.presence ∧ (s.retarget n).due = s.due ∧
    (s.retarget n).reports = s.reports ∧ (s.retarget n).pending = s.pending := by
  unfold State.retarget
  split <;> simp

theorem State.retargets_retarget (s : State) {n m : Sock} (h : m ≠ n) : (s.retarget n).retargets m = s.retargets m := by
  have socket : (s.retarget n).socket m = s.socket m := by simp [State.retarget_socket, h]
  have feed : ∀ f, (s.retarget n).feed f = s.feed f := fun f => by cases f <;> simp [State.feed, State.retarget_frame]
  simp [State.retargets, State.inOrder, State.targetOf, socket, feed, State.retarget_frame]

/-- Retargeting a list of sockets retargets each of them by itself. -/
theorem State.retarget_fold (m : Sock) : ∀ (l : List Sock) (s : State), l.Nodup →
    (l.foldl State.retarget s).socket m = if m ∈ l then (s.retarget m).socket m else s.socket m
  | [], s, _ => by simp
  | n :: l, s, once => by
    obtain ⟨fresh, once⟩ := List.nodup_cons.mp once
    rw [List.foldl_cons, State.retarget_fold m l _ once]
    by_cases e : m = n
    · subst e; simp [fresh]
    · have socket : (s.retarget n).socket m = s.socket m := by simp [State.retarget_socket, e]
      have target : (s.retarget n).targetOf m = s.targetOf m := by simp [State.targetOf, socket, State.retarget_frame]
      simp [e, State.retarget_socket (m := m), State.retargets_retarget s e, target]

/-- Set Ceiling retargets every socket by itself, under the new ceiling (R28, R29). -/
theorem State.setCeiling_socket (s : State) (mv : Nat) (m : Sock) :
    (s.setCeiling mv).socket m =
      (({ s with ceiling := clamp 400 s.identity.nativeCeiling mv } : State).retarget m).socket m := by
  rw [State.setCeiling, State.retarget_fold m _ _ allSocks_nodup, if_pos (mem_allSocks m)]

/-- Set Ceiling changes nothing but the sockets and the ceiling. -/
theorem State.setCeiling_frame (s : State) (mv : Nat) :
    (s.setCeiling mv).phase = s.phase ∧ (s.setCeiling mv).feedA = s.feedA ∧ (s.setCeiling mv).feedB = s.feedB ∧
    (s.setCeiling mv).ceiling = clamp 400 s.identity.nativeCeiling mv ∧ (s.setCeiling mv).budget = s.budget ∧
    (s.setCeiling mv).store = s.store ∧ (s.setCeiling mv).engine = s.engine ∧ (s.setCeiling mv).factors = s.factors ∧
    (s.setCeiling mv).log = s.log ∧ (s.setCeiling mv).events = s.events ∧ (s.setCeiling mv).link = s.link ∧
    (s.setCeiling mv).identity = s.identity ∧ (s.setCeiling mv).clock = s.clock ∧
    (s.setCeiling mv).presence = s.presence ∧ (s.setCeiling mv).due = s.due ∧ (s.setCeiling mv).reports = s.reports ∧
    (s.setCeiling mv).pending = s.pending := by
  have fold : ∀ {β : Type} (p : State → β), (∀ t n, p (State.retarget t n) = p t) →
      p (s.setCeiling mv) = p { s with ceiling := clamp 400 s.identity.nativeCeiling mv } := fun p h =>
    foldl_keeps p State.retarget h _ _
  refine ⟨fold State.phase ?_, fold State.feedA ?_, fold State.feedB ?_, fold State.ceiling ?_, fold State.budget ?_,
    fold State.store ?_, fold State.engine ?_, fold State.factors ?_, fold State.log ?_, fold State.events ?_,
    fold State.link ?_, fold State.identity ?_, fold State.clock ?_, fold State.presence ?_, fold State.due ?_,
    fold State.reports ?_, fold State.pending ?_⟩ <;> simp [State.retarget_frame]

/-- What retargeting makes of a rail: nothing of a rail off the order lists; of a listed one the new target. -/
theorem State.retarget_rail (s : State) (n : Sock) :
    ((s.retarget n).socket n).scu = (s.socket n).scu ∧
    ((s.retarget n).socket n).rail.profile = (s.socket n).rail.profile ∧
    (s.inOrder n = true → ((s.retarget n).socket n).rail.commanded = s.targetOf n) ∧
    (s.inOrder n = false → ((s.retarget n).socket n).rail = (s.socket n).rail) := by
  rw [State.retarget_socket]
  by_cases h : s.retargets n = true
  · have listed : s.inOrder n = true := by simp [State.retargets] at h; exact h.1
    rw [if_pos ⟨rfl, h⟩]
    refine ⟨rfl, ?_, fun _ => ?_, fun off => by simp [listed] at off⟩ <;> dsimp only <;> split <;> rfl
  · rw [if_neg fun x => h x.2]
    refine ⟨rfl, rfl, fun listed => ?_, fun _ => rfl⟩
    simp only [State.retargets, listed, Bool.true_and, bne_iff_ne, ne_eq, not_not] at h
    exact h.symm

theorem State.SupplyOk.setCeiling {s : State} (h : s.SupplyOk) (mv : Nat) : (s.setCeiling mv).SupplyOk := by
  set t := s.setCeiling mv with ht
  set u : State := { s with ceiling := clamp 400 s.identity.nativeCeiling mv } with hu
  obtain ⟨phase, feedA, feedB, ceiling, -, -, -, -, -, -, -, identity, -⟩ := s.setCeiling_frame mv
  have feed : ∀ f, t.feed f = s.feed f := fun f => by cases f <;> simp [State.feed, ht, feedA, feedB]
  have rails := fun n => State.retarget_rail u n
  have socket : ∀ n, t.socket n = (u.retarget n).socket n := fun n => s.setCeiling_socket mv n
  have state : ∀ n, (t.socket n).scu.state = (s.socket n).scu.state := fun n => by
    rw [socket, (rails n).1]; rfl
  have profile : ∀ n, (t.socket n).rail.profile = (s.socket n).rail.profile := fun n => by
    rw [socket, (rails n).2.1]; rfl
  have admission : t.admission = s.admission := funext fun n => congrArg RailProfile.admission (profile n)
  have inOrder : ∀ n, t.inOrder n = s.inOrder n := fun n => by simp [State.inOrder, feed]
  have listed : ∀ n, u.inOrder n = s.inOrder n := fun n => by
    simp only [State.inOrder]; cases feedOf n <;> rfl
  have granted : ∀ n, t.granted n = s.granted n := fun n => by simp [State.granted, State.inQueue, feed, state]
  refine ⟨fun hp n => ?_, fun f => ?_, ?_, fun n hn => ?_, fun n hn => ?_⟩
  · rw [state]; exact h.quiet (phase ▸ hp) n
  · obtain ⟨queueOnce, orderOnce, queued, ordered, committed, limit, oneRamp⟩ := h.feeds f
    refine ⟨by rwa [feed], by rwa [feed], fun n hn => ?_, fun n hn => ?_, ?_, ?_, fun n m hn hm rn rm => ?_⟩
    · rw [feed] at hn; rw [state]; exact queued n hn
    · rw [feed] at hn ⊢; rw [state]; exact ordered n hn
    · rw [State.committed, feed, admission]; exact committed
    · rw [feed, identity]; exact limit
    · rw [state, granted] at rn rm; exact oneRamp n m hn hm rn rm
  · rw [ceiling, identity]
    have native : 400 ≤ s.identity.nativeCeiling := le_trans h.ceiling.1 h.ceiling.2
    simp only [clamp]
    omega
  · rw [inOrder, ← listed] at hn
    rw [State.targetOf, profile, ceiling, socket, (rails n).2.2.1 hn]
    rfl
  · rw [inOrder] at hn
    rw [socket, (rails n).2.2.2 (by rw [listed, hn])]
    exact h.off n hn

/-! ### A change of a feed limit (R48) -/

/-- What a shed by Set Feed Limit leaves of the order list. -/
theorem State.shedNow_order (s : State) (n : Sock) :
    ((s.shedNow n).feed (feedOf n)).order = (s.feed (feedOf n)).order.filter (· != n) := by
  have granted : ∀ f, ((if s.granted n then (s.takeGrant n).drop ⟨n, .grant⟩ else s).feed f) = s.feed f := by
    intro f
    split
    · rename_i hg
      simp [State.takeGrant, hg, State.move_feed, SocketState.powered]
    · rfl
  have shed : ∀ t : State, ((t.shedMove n).feed (feedOf n)).order = (t.feed (feedOf n)).order ∨
      ((t.shedMove n).feed (feedOf n)).order = (t.feed (feedOf n)).order.filter (· != n) := by
    intro t
    unfold State.shedMove
    dsimp only
    split_ifs
    · right; simp [State.move_feed, SocketState.powered, Feed.leave, State.countShed]
    · right; simp [State.move_feed, SocketState.powered, Feed.leave, State.countShed]
    · left; rfl
  unfold State.shedNow
  dsimp only
  rcases shed ((((if s.granted n then (s.takeGrant n).drop ⟨n, .grant⟩ else s).takeOff n).modFeed (feedOf n) fun g =>
    { g with overCount := 0 }).raise .feedShed (single n)) with e | e <;> rw [e]
  · simp [State.takeOff, granted]
  · simp [State.takeOff, granted, List.filter_filter]

theorem State.SupplyOk.shedNow {s : State} (h : s.SupplyOk) (n : Sock) : (s.shedNow n).SupplyOk := by
  have taken : (if s.granted n then (s.takeGrant n).drop ⟨n, .grant⟩ else s).SupplyOk := by
    split
    · exact (h.takeGrant n).of_kept (.drop _ _)
    · exact h
  unfold State.shedNow
  exact State.SupplyOk.shedMove (((taken.takeOff n).of_kept (.modFeed _ _)).of_kept (.raise _ _ _)) n

/-- The sheds of step 1 of R48 keep the supplies sound and bring the committed current within the limit. -/
theorem State.SupplyOk.shedToFit {f : FeedId} {limit : Nat} : ∀ (k : Nat) {s : State}, s.SupplyOk →
    (s.feed f).order.length ≤ k →
    (State.shedToFit f limit k s).1.SupplyOk ∧ (State.shedToFit f limit k s).1.committed f ≤ limit
  | 0, s, h, hk => by
    refine ⟨h, ?_⟩
    simp [State.shedToFit, State.committed, List.length_eq_zero_iff.mp (Nat.le_zero.mp hk)]
  | k + 1, s, h, hk => by
    unfold State.shedToFit
    split
    · exact ⟨h, ‹_›⟩
    · cases hl : (s.feed f).order.getLast? with
      | none =>
        refine ⟨h, ?_⟩
        simp [State.committed, List.getLast?_eq_none_iff.mp hl]
      | some n =>
        have hn : n ∈ (s.feed f).order := List.mem_of_getLast? hl
        obtain rfl := ((h.feeds f).ordered n hn).1
        refine State.SupplyOk.shedToFit k (h.shedNow n) ?_
        rw [State.shedNow_order]
        have shorter := (s.feed (feedOf n)).order.length_filter_lt_length_iff_exists (p := (· != n)) |>.mpr ⟨n, hn, by simp⟩
        omega

theorem State.committed_move_le (s : State) (n : Sock) (st : SocketState) (f : FeedId) :
    (s.move n st).committed f ≤ s.committed f := by
  have admission : (s.move n st).admission = s.admission := funext fun m => by
    simp only [State.admission, State.move_socket]
    split
    · rename_i e; subst e; exact congrArg _ (Rail.moved_profile _ _)
    · rfl
  simp only [State.committed, State.move_feed, admission]
  split
  · exact List.Sublist.sum_le_sum ((List.filter_sublist).map _) (by simp)
  · exact le_rfl

/-- `shedNow` changes nothing but the sockets, the feeds, the engine, the reports, the flags. -/
theorem State.shedNow_frame (s : State) (n : Sock) :
    (s.shedNow n).phase = s.phase ∧ (s.shedNow n).ceiling = s.ceiling ∧ (s.shedNow n).budget = s.budget ∧
    (s.shedNow n).store = s.store ∧ (s.shedNow n).factors = s.factors ∧ (s.shedNow n).log = s.log ∧
    (s.shedNow n).link = s.link ∧ (s.shedNow n).identity = s.identity ∧ (s.shedNow n).clock = s.clock ∧
    (s.shedNow n).presence = s.presence ∧ (s.shedNow n).due = s.due ∧ (s.shedNow n).pending = s.pending := by
  unfold State.shedNow
  dsimp only
  split <;> simp

/-- What each shed keeps, step 1 of R48 keeps. -/
theorem State.shedToFit_holds {P : State → Prop} (f : FeedId) (limit : Nat) (h : ∀ s n, P s → P (State.shedNow s n)) :
    ∀ (k : Nat) {s : State}, P s → P (State.shedToFit f limit k s).1
  | 0, _, hs => hs
  | k + 1, s, hs => by
    unfold State.shedToFit
    split
    · exact hs
    · split
      · exact hs
      · exact State.shedToFit_holds f limit h k (h _ _ hs)

/-- Set Feed Limit keeps what sheds, withdrawals, the change of the limit itself and an evaluation keep (R48). -/
theorem State.setFeedLimit_holds {P : State → Prop} {s : State} (f : FeedId) (limit : Nat) (hs : P s)
    (shed : ∀ s n, P s → P (State.shedNow s n)) (withdraw : ∀ s n, P s → P (State.withdraw limit s n))
    (set : ∀ s, P s → P (State.modFeed s f fun g => g.setLimit limit)) (evaluate : ∀ s, P s → P (State.evaluate s f)) :
    P (s.setFeedLimit f limit).1 :=
  evaluate _ (set _ (foldl_holds _ withdraw (State.shedToFit_holds f limit shed _ hs)))

/-- The limit of a feed, changed to one that its committed current fits. -/
theorem State.SupplyOk.setLimit {s : State} (h : s.SupplyOk) (f : FeedId) {limit : Nat} (fits : s.committed f ≤ limit)
    (native : limit ≤ s.identity.nativeLimit f) : (s.modFeed f fun g => g.setLimit limit).SupplyOk := by
  have lists : ∀ g, ((s.modFeed f fun g => g.setLimit limit).feed g).queue = (s.feed g).queue ∧
      ((s.modFeed f fun g => g.setLimit limit).feed g).order = (s.feed g).order := by
    intro g
    rw [State.modFeed_feed]
    split
    · rename_i e; subst e; exact ⟨rfl, rfl⟩
    · exact ⟨rfl, rfl⟩
  set t := s.modFeed f fun g => g.setLimit limit with ht
  have socket : ∀ n, t.socket n = s.socket n := fun n => by simp [ht]
  have inOrder : ∀ n, t.inOrder n = s.inOrder n := fun n => by simp [State.inOrder, lists]
  have granted : ∀ n, t.granted n = s.granted n := fun n => by simp [State.granted, State.inQueue, lists, socket]
  have admission : t.admission = s.admission := funext fun n => by simp [State.admission, socket]
  refine ⟨fun hp n => ?_, fun g => ?_, by simpa [ht] using h.ceiling, fun n hn => ?_, fun n hn => ?_⟩
  · rw [socket]; exact h.quiet (by simpa [ht] using hp) n
  · obtain ⟨queueOnce, orderOnce, queued, ordered, committed, limitOk, oneRamp⟩ := h.feeds g
    refine ⟨by rwa [(lists g).1], by rwa [(lists g).2], fun n hn => ?_, fun n hn => ?_, ?_, ?_, fun n m hn hm rn rm => ?_⟩
    · rw [(lists g).1] at hn; rw [socket]; exact queued n hn
    · rw [(lists g).2] at hn; rw [socket, (lists g).1]; exact ordered n hn
    · rw [State.committed, (lists g).2, admission, ht, State.modFeed_feed]
      split
      · rename_i e; subst e; exact fits
      · exact committed
    · rw [ht, State.modFeed_feed, State.modFeed_identity]
      split
      · rename_i e; subst e; exact native
      · exact limitOk
    · rw [socket, granted] at rn rm; exact oneRamp n m hn hm rn rm
  · rw [inOrder] at hn
    rw [State.targetOf, socket, show t.ceiling = s.ceiling by simp [ht]]; exact h.on n hn
  · rw [inOrder] at hn; rw [socket]; exact h.off n hn

theorem State.SupplyOk.setFeedLimit {s : State} (h : s.SupplyOk) (f : FeedId) (limit : Nat)
    (native : limit ≤ s.identity.nativeLimit f) : (s.setFeedLimit f limit).1.SupplyOk := by
  obtain ⟨fitted, fits⟩ := h.shedToFit (f := f) (limit := limit) _ le_rfl
  have identity : (State.shedToFit f limit (s.feed f).order.length s).1.identity = s.identity :=
    State.shedToFit_holds (P := fun t => t.identity = s.identity) f limit
      (fun t n e => by simpa [State.shedNow_frame] using e) _ rfl
  obtain ⟨cleared, clearedFits, same⟩ := foldl_holds
    (P := fun t => t.SupplyOk ∧ t.committed f ≤ limit ∧ t.identity = s.identity) (f := State.withdraw limit)
    ((State.shedToFit f limit (s.feed f).order.length s).1.feed f).queue (fun t n ⟨ok, fits, same⟩ => by
      unfold State.withdraw
      split
      · exact ⟨ok.move_out n rfl, (State.committed_move_le t n .off f).trans fits, by simpa using same⟩
      · exact ⟨ok, fits, same⟩) ⟨fitted, fits, identity⟩
  exact (cleared.setLimit f clearedFits (same ▸ native)).evaluate f

/-! ### Loads and resets -/

/-- With no socket QUEUED or powered the lists are empty. -/
theorem State.SupplyOk.lists_empty {s : State} (h : s.SupplyOk) (idle : ∀ n, (s.socket n).scu.state.busy = false) (f : FeedId) :
    (s.feed f).queue = [] ∧ (s.feed f).order = [] := by
  constructor <;> rw [List.eq_nil_iff_forall_not_mem] <;> intro n hn
  · have := idle n
    rw [((h.feeds f).queued n hn).2] at this
    simp [SocketState.busy] at this
  · simpa [idle n] using ((h.feeds f).ordered n hn).2.1

/-- With empty lists, no socket QUEUED or powered and every rail off, the supplies are sound. -/
theorem State.SupplyOk.of_empty {s : State} (idle : ∀ n, (s.socket n).scu.state.busy = false)
    (lists : ∀ f, (s.feed f).queue = [] ∧ (s.feed f).order = []) (limit : ∀ f, (s.feed f).limit ≤ s.identity.nativeLimit f)
    (ceiling : 400 ≤ s.ceiling ∧ s.ceiling ≤ s.identity.nativeCeiling) (off : ∀ n, (s.socket n).rail.IsOff) : s.SupplyOk where
  quiet _ := idle
  feeds f := by
    obtain ⟨queue, order⟩ := lists f
    refine ⟨by simp [queue], by simp [order], by simp [queue], by simp [order], by simp [State.committed, order], limit f, ?_⟩
    intro n m _ _ rn
    exfalso
    have := idle n
    rw [State.granted_iff] at rn
    rcases rn with rn | ⟨rn, -⟩ <;> rw [rn] at this <;> simp [SocketState.busy, SocketState.powered] at this
  ceiling := ceiling
  on n hn := by simp [State.inOrder, lists] at hn
  off n _ := off n

theorem SocketState.afterReset_not_busy (st : SocketState) : st.afterReset.busy = false := by cases st <;> rfl

theorem State.boardReset_socket (s : State) (retain : Bool) (n : Sock) :
    (s.boardReset retain).socket n = (s.socket n).afterReset retain :=
  (State.socket_congr (t := s.mapSockets fun _ k => k.afterReset retain) (by simp [State.boardReset]) n).trans
    (s.mapSockets_socket n _)

theorem State.boardReset_feed (s : State) (retain : Bool) (f : FeedId) :
    (s.boardReset retain).feed f = (s.feed f).afterReset := by
  cases f <;> simp [State.boardReset, State.feed]

theorem State.SupplyOk.boardReset {s : State} (h : s.SupplyOk) (retain : Bool) : (s.boardReset retain).SupplyOk := by
  have identity : (s.boardReset retain).identity = s.identity := by simp [State.boardReset]
  have ceiling : (s.boardReset retain).ceiling = s.ceiling := by simp [State.boardReset]
  refine .of_empty (fun n => ?_) (fun f => ?_) (fun f => ?_) (by rw [identity, ceiling]; exact h.ceiling) fun n => ?_
  · rw [State.boardReset_socket]; exact SocketState.afterReset_not_busy _
  · rw [State.boardReset_feed]; exact ⟨rfl, rfl⟩
  · rw [State.boardReset_feed, identity]; exact (h.feeds f).limit
  · rw [State.boardReset_socket]; exact ⟨rfl, rfl, rfl, rfl, rfl, rfl, rfl, rfl⟩

theorem State.endLoad_socket (s : State) (i : Identity) (n : Sock) :
    (s.endLoad i).socket n = (s.socket n).populate (SocketSet.has i.population n) :=
  (State.socket_congr (t := s.mapSockets fun n k => k.populate (SocketSet.has i.population n)) (by simp [State.endLoad]) n).trans
    (s.mapSockets_socket n _)

theorem State.endLoad_feed (s : State) (i : Identity) (f : FeedId) :
    (s.endLoad i).feed f = { s.feed f with limit := s.limitAfterLoad i f } := by
  cases f <;> simp [State.endLoad, State.feed]

theorem Socket.populate_busy {k : Socket} (h : k.scu.state.busy = false) (fitted : Bool) :
    (k.populate fitted).scu.state.busy = false := by
  unfold Socket.populate
  split_ifs
  exacts [rfl, h, h, rfl]

theorem Socket.populate_isOff {k : Socket} (h : k.rail.IsOff) (fitted : Bool) : (k.populate fitted).rail.IsOff := by
  unfold Socket.populate
  split_ifs
  exacts [h.moved _, h, h, h.moved _]

theorem State.SupplyOk.endLoad {s : State} (h : s.SupplyOk) (loading : s.phase ≠ .running) (i : Identity) :
    (s.endLoad i).SupplyOk := by
  have idle := h.quiet loading
  have empty := h.lists_empty idle
  have identity : (s.endLoad i).identity = i := by simp [State.endLoad]
  have ceilingEq : (s.endLoad i).ceiling = s.ceilingAfterLoad i := by simp [State.endLoad]
  refine .of_empty (fun n => ?_) (fun f => ?_) (fun f => ?_) ?_ fun n => ?_
  · rw [State.endLoad_socket]; exact Socket.populate_busy (idle n) _
  · rw [State.endLoad_feed]; exact empty f
  · rw [State.endLoad_feed, identity]
    dsimp only
    unfold State.limitAfterLoad
    split
    · exact min_le_right _ _
    · exact le_rfl
  · rw [ceilingEq, identity]
    have native : 400 ≤ i.nativeCeiling := by simp [Identity.nativeCeiling, clamp]
    have ceiling := h.ceiling.1
    unfold State.ceilingAfterLoad
    split <;> omega
  · rw [State.endLoad_socket]
    exact Socket.populate_isOff (h.off n (by simp [State.inOrder, empty])) _

/-! ### Requests, and every step -/

theorem State.reset_socket (n : Sock) : State.reset.socket n = {} := by
  simp [State.reset, State.socket, Vector.get_eq_getElem]

theorem State.reset_supplyOk : State.reset.SupplyOk := by
  refine .of_empty (fun n => ?_) (fun f => ?_) (fun f => ?_) ⟨le_rfl, ?_⟩ fun n => ?_
  · rw [State.reset_socket]; rfl
  · cases f <;> exact ⟨rfl, rfl⟩
  · cases f <;> exact Nat.zero_le _
  · simp [Identity.nativeCeiling, clamp, State.reset]
  · rw [State.reset_socket]; exact ⟨rfl, rfl, rfl, rfl, rfl, rfl, rfl, rfl⟩

/-- A profile written to a socket neither QUEUED nor powered (R26). -/
theorem State.SupplyOk.writeProfile {s : State} (h : s.SupplyOk) {n : Sock} (free : (s.socket n).scu.state.busy = false)
    (p : RailProfile) : (s.modRail n fun r => { r with profile := p, written := true }).SupplyOk := by
  have unlisted : ∀ f, n ∉ (s.feed f).order := fun f hn => by simpa [free] using ((h.feeds f).ordered n hn).2.1
  have state : ∀ m, ((s.modRail n fun r => { r with profile := p, written := true }).socket m).scu = (s.socket m).scu := by
    intro m; rw [State.modRail_socket]; split <;> simp_all
  set t := s.modRail n fun r => { r with profile := p, written := true } with ht
  have feed : ∀ f, t.feed f = s.feed f := fun f => by simp [ht]
  have others : ∀ m, m ≠ n → t.socket m = s.socket m := fun m hm => by simp [ht, hm]
  have inOrder : ∀ m, t.inOrder m = s.inOrder m := fun m => by simp [State.inOrder, feed]
  have granted : ∀ m, t.granted m = s.granted m := fun m => by simp [State.granted, State.inQueue, feed, state]
  refine ⟨fun hp m => ?_, fun f => ?_, h.ceiling, fun m hm => ?_, fun m hm => ?_⟩
  · rw [state]; exact h.quiet hp m
  · obtain ⟨queueOnce, orderOnce, queued, ordered, committed, limit, oneRamp⟩ := h.feeds f
    refine ⟨by rwa [feed], by rwa [feed], fun m hm => ?_, fun m hm => ?_, ?_, by rwa [feed], fun a b ha hb ra rb => ?_⟩
    · rw [feed] at hm; rw [state]; exact queued m hm
    · rw [feed] at hm ⊢; rw [state]; exact ordered m hm
    · have admission : (s.feed f).order.map t.admission = (s.feed f).order.map s.admission :=
        List.map_congr_left fun m hm => by
          rw [State.admission, State.admission, others m fun e => unlisted f (e ▸ hm)]
      rw [State.committed, feed, admission]; exact committed
    · rw [state, granted] at ra rb; exact oneRamp a b ha hb ra rb
  · rw [inOrder] at hm
    have hmn : m ≠ n := fun e => unlisted _ (State.inOrder_iff.mp (e ▸ hm))
    rw [State.targetOf, others m hmn]; exact h.on m hm
  · rw [inOrder] at hm
    have off := h.off m hm
    rw [ht, State.modRail_socket]
    split
    · rename_i e; subst e; exact off
    · exact off

/-- Accounts cleared: QUEUED and powered sockets are not touched, and no other becomes one (R22, R149, R150). -/
theorem State.SupplyOk.of_cleared {s t : State} (h : s.SupplyOk) (phase : t.phase = s.phase) (ceiling : t.ceiling = s.ceiling)
    (identity : t.identity = s.identity) (feed : ∀ f, t.feed f = s.feed f)
    (socket : ∀ n, (t.socket n).rail = (s.socket n).rail ∧ ((t.socket n).scu.state = (s.socket n).scu.state ∨
      (t.socket n).scu.state.busy = false ∧ (s.socket n).scu.state.busy = false)) : t.SupplyOk := by
  refine h.of_kept ⟨phase, ceiling, identity, fun f => by rw [feed], fun f => by rw [feed], fun f => by rw [feed],
    fun n => ?_, fun n => ?_, fun n => ?_, fun n => by rw [(socket n).1], fun n => by rw [(socket n).1], fun n _ off => ?_⟩
  · rcases (socket n).2 with e | ⟨e, e'⟩
    · rw [e]
    · rw [e, e']
  · rcases (socket n).2 with e | ⟨e, e'⟩
    · rw [e]
    · constructor <;> intro hq <;> simp [hq, SocketState.busy] at e e'
  · rcases (socket n).2 with e | ⟨e, -⟩
    · rw [e]; exact id
    · intro hr; simp [hr, SocketState.busy, SocketState.powered] at e
  · rw [(socket n).1]; exact off

theorem SocketState.afterClear_of_not_busy {st : SocketState} (h : st.busy = false) : st.afterClear.busy = false := by
  cases st <;> simp_all [SocketState.afterClear, SocketState.busy, SocketState.powered]

theorem State.not_busy_of_not_anyBusy {s : State} (h : s.anyBusy = false) (n : Sock) : (s.socket n).scu.state.busy = false := by
  simp only [State.anyBusy, List.any_eq_false, Bool.not_eq_true] at h
  exact h n (mem_allSocks n)

theorem State.SupplyKept.setBudget (s : State) (value : Nat) : s.SupplyKept (s.setBudget value) := by
  have limited : s.SupplyKept { s with budget := min value s.identity.budgetMax } := .of_sockets rfl rfl rfl rfl rfl rfl
  exact limited.trans (.scale _)

theorem clamp_le_hi {lo hi : Nat} (h : lo ≤ hi) (n : Nat) : clamp lo hi n ≤ hi := by simp only [clamp]; omega

/-- Whatever the owner of a request does keeps the supplies sound. -/
theorem State.SupplyOk.answered {s t : State} {code : Byte} (h : s.SupplyOk) (running : s.phase = .running)
    (ha : s.Answered code t) : t.SupplyOk := by
  cases ha with
  | same => exact h
  | groups | silenceParam | acked | enables | loaded | factors | trimmed | threshold | entry | stopped =>
    exact h.of_kept (.of_sockets rfl rfl rfl rfl rfl rfl)
  | arm x => exact h.forSet x _ _ running (fun t n ok running _ => ok.arm n running) State.arm_phase
  | powerDown x => exact h.forSet x _ _ running (fun t n ok _ _ => ok.powerDown n) State.powerDown_phase
  | pause x =>
    refine h.forSet x _ _ running (fun t n ok _ free => ok.of_kept (.move n rfl (by simp) ?_)) (fun t n => by simp)
    have st := State.unless_eq_none free
    simp only [Bool.or_eq_true, beq_iff_eq] at st
    rcases st with e | e <;> rw [e] <;> rfl
  | resume x =>
    refine h.forSet x _ _ running (fun t n ok _ free => ok.of_kept (.move n rfl (by simp) ?_)) (fun t n => by simp)
    have st := State.unless_eq_none free
    rw [beq_iff_eq] at st
    rw [st]; rfl
  | release x => exact h.forSet x _ _ running (fun t n ok _ _ => ok.moveAdmit n rfl) (fun t n => by simp)
  | statusRead n => exact h.of_kept (.modScu s n)
  | accountCleared n _ free =>
    refine h.of_cleared rfl rfl rfl (fun f => by simp) fun m => ?_
    rw [State.modSocket_socket]
    split
    · rename_i e; subst e; exact ⟨rfl, .inr ⟨rfl, free⟩⟩
    · exact ⟨rfl, .inl rfl⟩
  | accountsCleared free =>
    refine h.of_cleared (by simp) (by simp) (by simp) (fun f => by cases f <;> simp [State.feed]) fun m => ?_
    have busy := State.not_busy_of_not_anyBusy free m
    rw [State.socket_congr (t := s.mapSockets fun _ k => k.cleared k.scu.state.afterClear) (by simp), State.mapSockets_socket]
    exact ⟨rfl, .inr ⟨SocketState.afterClear_of_not_busy busy, busy⟩⟩
  | railProfile n p free => exact h.writeProfile free p
  | ceiling mv => exact h.setCeiling mv
  | feedLimit f mv => exact h.setFeedLimit f _ (clamp_le_hi (Nat.zero_le _) _)
  | calibration n => exact h.of_kept (.modRail s n fun _ _ off => off)
  | thermalProfile n p => exact h.of_kept (.modHeat s n _)
  | budget value => exact h.of_kept (.setBudget s value)
  | verified pages => exact h.of_kept (.verify pages s)
  | started e _ => exact h.of_kept (.start s e)
  | testProfile n p => exact h.of_kept (.modSocket s n)

theorem State.SupplyOk.lineKeeps : LineKeeps State.SupplyOk where
  reply _ _ h := h.of_kept (.of_sockets rfl rfl rfl rfl rfl rfl)
  count _ _ h := h.of_kept (.of_sockets rfl rfl rfl rfl rfl rfl)
  attend _ h := h.of_kept (.of_sockets rfl rfl rfl rfl rfl rfl)
  receiver _ _ h := h.of_kept (.of_sockets rfl rfl rfl rfl rfl rfl)
  reset _ retain h := h.boardReset retain
  owner _ _ _ running ha h := h.answered running ha

theorem State.SupplyOk.exec {c : Instr} {s t : State} (h : s.SupplyOk) (ht : exec c s = .next t) : t.SupplyOk :=
  exec_ind ht
    (power := fun _ => State.reset_supplyOk.of_kept (.of_sockets rfl rfl rfl rfl rfl rfl))
    (expiry := h.occur)
    (report := h.beforeReport.takeReport)
    (settled := h.settled)
    (seen := fun _ => h.settled.of_kept (.of_sockets rfl rfl rfl rfl rfl rfl))
    (load := fun loading i => h.settled.endLoad loading i)
    (sample := fun r => h.settled.of_kept (.sampleTick _ r))
    (thermal := fun r => h.settled.of_kept (.thermalTick _ r))
    (second := h.settled.of_kept (.secondTick _))
    (vector := fun e r => h.settled.of_kept (.vectorStep _ e r))
    (upset := fun _ => h.settled.of_kept (.of_sockets rfl rfl rfl rfl rfl rfl))
    (line := State.SupplyOk.lineKeeps)

/-- A step keeps what every command keeps, if taking a command off the queue does. -/
theorem step_keeps {P : State → Prop} (taken : ∀ s l, P s → P { s with pending := l })
    (exec_keeps : ∀ c s t, P s → exec c s = .next t → P t) {s t : State} (h : P s) (ht : step s = .next t) : P t := by
  unfold step at ht
  split at ht
  · cases ht; exact h
  · exact exec_keeps _ _ _ (taken s _ h) ht

/-- Settles O57. -/
theorem everyStepKeepsTheSuppliesSound : Obligations.EveryStepKeepsTheSuppliesSound := by
  refine ⟨fun st => ?_, fun n => rfl, fun s n => ⟨rfl, State.inOrder_iff, State.granted_iff, rfl⟩, fun s f => rfl,
    fun s t h ht => step_keeps (fun _ _ h => h.of_kept (.of_sockets rfl rfl rfl rfl rfl rfl)) (fun _ _ _ h ht => h.exec ht) h ht⟩
  cases st <;> decide

end Sys2Proof.Machine
end

section
/-!
PROOFS. What the shared operations leave alone: settings, accounts' first causes, the sensed values and the log. An operation of a
request keeps more (`State.Handled`) than one of an event (`State.Steady`), and a link silence keeps the settings alone
(`State.SettingsKept`).
-/

namespace Sys2Proof.Machine

/-! ### One socket -/

/-- A socket's profiles, marks and target stand, and the first cause too while the first-fail flag stands (R18, R26, R54, R108). -/
structure Socket.SettingsKept (k k' : Socket) : Prop where
  railProfile : k'.rail.profile = k.rail.profile
  railWritten : k'.rail.written = k.rail.written
  heatProfile : k'.heat.profile = k.heat.profile
  heatWritten : k'.heat.written = k.heat.written
  laneProfile : k'.lane.profile = k.lane.profile
  laneWritten : k'.lane.written = k.lane.written
  target : k'.credit.target = k.credit.target
  first : k.scu.firstFail = true → k'.scu.firstFail = true ∧ k'.account.firstCause = k.account.firstCause ∧
    k'.account.firstFailTime = k.account.firstFailTime ∧ k'.account.firstFailCredit = k.account.firstFailCredit

/-- A socket's settings stand, and with them its credit, its first cause, its sensed values and its counts of seconds and passes. -/
structure Socket.Handled (k k' : Socket) : Prop where
  railProfile : k'.rail.profile = k.rail.profile
  railWritten : k'.rail.written = k.rail.written
  sensedMv : k'.rail.sensedMv = k.rail.sensedMv
  sensedMa : k'.rail.sensedMa = k.rail.sensedMa
  offset : k'.rail.offset = k.rail.offset
  heatProfile : k'.heat.profile = k.heat.profile
  heatWritten : k'.heat.written = k.heat.written
  temperature : k'.heat.held = k.heat.held
  laneProfile : k'.lane.profile = k.lane.profile
  laneWritten : k'.lane.written = k.lane.written
  compared : k'.lane.comparedPasses = k.lane.comparedPasses
  credit : k'.credit = k.credit
  firstFail : k'.scu.firstFail = k.scu.firstFail
  firstCause : k'.account.firstCause = k.account.firstCause
  firstTime : k'.account.firstFailTime = k.account.firstFailTime
  firstCredit : k'.account.firstFailCredit = k.account.firstFailCredit
  runSeconds : k'.account.runSeconds = k.account.runSeconds

theorem Socket.Handled.refl (k : Socket) : k.Handled k :=
  ⟨rfl, rfl, rfl, rfl, rfl, rfl, rfl, rfl, rfl, rfl, rfl, rfl, rfl, rfl, rfl, rfl, rfl⟩

theorem Socket.Handled.trans {k k' k'' : Socket} (h : k.Handled k') (h' : k'.Handled k'') : k.Handled k'' where
  railProfile := h'.railProfile.trans h.railProfile
  railWritten := h'.railWritten.trans h.railWritten
  sensedMv := h'.sensedMv.trans h.sensedMv
  sensedMa := h'.sensedMa.trans h.sensedMa
  offset := h'.offset.trans h.offset
  heatProfile := h'.heatProfile.trans h.heatProfile
  heatWritten := h'.heatWritten.trans h.heatWritten
  temperature := h'.temperature.trans h.temperature
  laneProfile := h'.laneProfile.trans h.laneProfile
  laneWritten := h'.laneWritten.trans h.laneWritten
  compared := h'.compared.trans h.compared
  credit := h'.credit.trans h.credit
  firstFail := h'.firstFail.trans h.firstFail
  firstCause := h'.firstCause.trans h.firstCause
  firstTime := h'.firstTime.trans h.firstTime
  firstCredit := h'.firstCredit.trans h.firstCredit
  runSeconds := h'.runSeconds.trans h.runSeconds

theorem Socket.Handled.settingsKept {k k' : Socket} (h : k.Handled k') : k.SettingsKept k' :=
  ⟨h.railProfile, h.railWritten, h.heatProfile, h.heatWritten, h.laneProfile, h.laneWritten, congrArg Credit.target h.credit,
    fun ff => ⟨h.firstFail.trans ff, h.firstCause, h.firstTime, h.firstCredit⟩⟩

theorem Socket.SettingsKept.refl (k : Socket) : k.SettingsKept k := (Socket.Handled.refl k).settingsKept

theorem Socket.SettingsKept.trans {k k' k'' : Socket} (h : k.SettingsKept k') (h' : k'.SettingsKept k'') :
    k.SettingsKept k'' where
  railProfile := h'.railProfile.trans h.railProfile
  railWritten := h'.railWritten.trans h.railWritten
  heatProfile := h'.heatProfile.trans h.heatProfile
  heatWritten := h'.heatWritten.trans h.heatWritten
  laneProfile := h'.laneProfile.trans h.laneProfile
  laneWritten := h'.laneWritten.trans h.laneWritten
  target := h'.target.trans h.target
  first ff := by
    obtain ⟨ff', cause, time, credit⟩ := h.first ff
    obtain ⟨ff'', cause', time', credit'⟩ := h'.first ff'
    exact ⟨ff'', cause'.trans cause, time'.trans time, credit'.trans credit⟩

theorem Rail.moved_frame (r : Rail) (st : SocketState) :
    (r.moved st).profile = r.profile ∧ (r.moved st).written = r.written ∧ (r.moved st).sensedMv = r.sensedMv ∧
    (r.moved st).sensedMa = r.sensedMa ∧ (r.moved st).offset = r.offset := by
  unfold Rail.moved; split <;> exact ⟨rfl, rfl, rfl, rfl, rfl⟩

theorem Heat.moved_frame (h : Heat) (before st : SocketState) :
    (h.moved before st).profile = h.profile ∧ (h.moved before st).written = h.written ∧ (h.moved before st).held = h.held := by
  unfold Heat.moved; dsimp only; split <;> exact ⟨rfl, rfl, rfl⟩

theorem Socket.Handled.moved (k : Socket) (st : SocketState) : k.Handled (k.moved st) := by
  obtain ⟨a, b, c, d, e⟩ := k.rail.moved_frame st
  obtain ⟨f, g, h⟩ := k.heat.moved_frame k.scu.state st
  exact ⟨a, b, c, d, e, f, g, h, rfl, rfl, rfl, rfl, rfl, rfl, rfl, rfl, rfl⟩

/-! ### The state -/

/-- The settings of the board and of every socket stand, and first causes too (R18). -/
structure State.SettingsKept (s t : State) : Prop where
  identity : t.identity = s.identity
  phase : t.phase = s.phase
  ceiling : t.ceiling = s.ceiling
  budget : t.budget = s.budget
  factors : t.factors = s.factors
  table : t.engine.table = s.engine.table
  presence : t.presence = s.presence
  address : t.link.address = s.link.address
  groups : t.link.groups = s.link.groups
  silenceParam : t.link.silenceParam = s.link.silenceParam
  pending : t.pending = s.pending
  limit : ∀ f, (t.feed f).limit = (s.feed f).limit
  enabled : ∀ e, (t.flag e).enabled = (s.flag e).enabled
  sockets : ∀ n, (s.socket n).SettingsKept (t.socket n)

/-- The settings stand, the mode too, and no socket goes to HOLD while the board is UNATTENDED (R21). -/
structure State.Steady (s t : State) : Prop extends s.SettingsKept t where
  mode : t.link.mode = s.link.mode
  hold : s.link.mode = .unattended → ∀ n, (t.socket n).scu.state = .hold → (s.socket n).scu.state = .hold

/-- What a request or a report does to the sockets leaves the settings, the link, the log and what the sensors gave as they are. -/
structure State.Handled (s t : State) : Prop where
  identity : t.identity = s.identity
  phase : t.phase = s.phase
  ceiling : t.ceiling = s.ceiling
  budget : t.budget = s.budget
  factors : t.factors = s.factors
  table : t.engine.table = s.engine.table
  presence : t.presence = s.presence
  link : t.link = s.link
  pending : t.pending = s.pending
  clock : t.clock = s.clock
  log : t.log = s.log
  due : t.due = s.due
  mem : t.store.mem = s.store.mem
  checks : t.store.checks = s.store.checks
  limit : ∀ f, (t.feed f).limit = (s.feed f).limit
  enabled : ∀ e, (t.flag e).enabled = (s.flag e).enabled
  sockets : ∀ n, (s.socket n).Handled (t.socket n)
  hold : ∀ n, (t.socket n).scu.state = .hold → (s.socket n).scu.state = .hold

theorem State.Handled.refl (s : State) : s.Handled s :=
  ⟨rfl, rfl, rfl, rfl, rfl, rfl, rfl, rfl, rfl, rfl, rfl, rfl, rfl, rfl, fun _ => rfl, fun _ => rfl, fun _ => .refl _, fun _ h => h⟩

theorem State.Handled.trans {s t u : State} (h : s.Handled t) (h' : t.Handled u) : s.Handled u where
  identity := h'.identity.trans h.identity
  phase := h'.phase.trans h.phase
  ceiling := h'.ceiling.trans h.ceiling
  budget := h'.budget.trans h.budget
  factors := h'.factors.trans h.factors
  table := h'.table.trans h.table
  presence := h'.presence.trans h.presence
  link := h'.link.trans h.link
  pending := h'.pending.trans h.pending
  clock := h'.clock.trans h.clock
  log := h'.log.trans h.log
  due := h'.due.trans h.due
  mem := h'.mem.trans h.mem
  checks := h'.checks.trans h.checks
  limit f := (h'.limit f).trans (h.limit f)
  enabled e := (h'.enabled e).trans (h.enabled e)
  sockets n := (h.sockets n).trans (h'.sockets n)
  hold n hn := h.hold n (h'.hold n hn)

theorem State.Handled.foldl {α : Type} {f : State → α → State} (l : List α) (h : ∀ (s : State) a, s.Handled (f s a))
    (s : State) : s.Handled (l.foldl f s) :=
  foldl_holds (P := s.Handled) l (fun t a ht => ht.trans (h t a)) (.refl s)

theorem State.SettingsKept.refl (s : State) : s.SettingsKept s :=
  ⟨rfl, rfl, rfl, rfl, rfl, rfl, rfl, rfl, rfl, rfl, rfl, fun _ => rfl, fun _ => rfl, fun _ => .refl _⟩

theorem State.SettingsKept.trans {s t u : State} (h : s.SettingsKept t) (h' : t.SettingsKept u) : s.SettingsKept u where
  identity := h'.identity.trans h.identity
  phase := h'.phase.trans h.phase
  ceiling := h'.ceiling.trans h.ceiling
  budget := h'.budget.trans h.budget
  factors := h'.factors.trans h.factors
  table := h'.table.trans h.table
  presence := h'.presence.trans h.presence
  address := h'.address.trans h.address
  groups := h'.groups.trans h.groups
  silenceParam := h'.silenceParam.trans h.silenceParam
  pending := h'.pending.trans h.pending
  limit f := (h'.limit f).trans (h.limit f)
  enabled e := (h'.enabled e).trans (h.enabled e)
  sockets n := (h.sockets n).trans (h'.sockets n)

theorem State.Steady.refl (s : State) : s.Steady s := ⟨.refl s, rfl, fun _ _ h => h⟩

theorem State.Steady.trans {s t u : State} (h : s.Steady t) (h' : t.Steady u) : s.Steady u :=
  ⟨h.toSettingsKept.trans h'.toSettingsKept, h'.mode.trans h.mode, fun un n hn => h.hold un n (h'.hold (h.mode.trans un) n hn)⟩

theorem State.Steady.foldl {α : Type} {f : State → α → State} (l : List α) (h : ∀ (s : State) a, s.Steady (f s a))
    (s : State) : s.Steady (l.foldl f s) :=
  foldl_holds (P := s.Steady) l (fun t a ht => ht.trans (h t a)) (.refl s)

theorem State.Handled.steady {s t : State} (h : s.Handled t) : s.Steady t where
  identity := h.identity
  phase := h.phase
  ceiling := h.ceiling
  budget := h.budget
  factors := h.factors
  table := h.table
  presence := h.presence
  address := by rw [h.link]
  groups := by rw [h.link]
  silenceParam := by rw [h.link]
  pending := h.pending
  limit := h.limit
  enabled := h.enabled
  sockets n := (h.sockets n).settingsKept
  mode := by rw [h.link]
  hold _ := h.hold

/-! ### Single updates -/

theorem State.flag_raise (s : State) (e e' : EventFlag) (x : SocketSet) :
    (s.raise e x).flag e' =
      if e' = e then { s.flag e with isSet := true, sockets := (s.flag e).sockets ||| x } else s.flag e' := by
  have inj : e.index = e'.index ↔ e' = e := by cases e <;> cases e' <;> decide
  simp only [State.flag, State.raise, Vector.get_eq_getElem, Vector.getElem_set]
  simp only [← Fin.ext_iff, inj]

/-- Two states with the same flags read the same for every flag. -/
theorem State.flag_congr {s t : State} (h : s.events = t.events) (e : EventFlag) : s.flag e = t.flag e := by
  simp [State.flag, h]

/-- Two states with the same feeds read the same for every feed. -/
theorem State.feed_congr {s t : State} (ha : s.feedA = t.feedA) (hb : s.feedB = t.feedB) (f : FeedId) : s.feed f = t.feed f := by
  cases f <;> simp [State.feed, ha, hb]

theorem State.Handled.modSocket (s : State) (n : Sock) {f : Socket → Socket}
    (h : ∀ k, Socket.Handled k (f k) := by intro k; constructor <;> rfl)
    (state : ∀ k, (f k).scu.state = k.scu.state := by intro k; rfl) : s.Handled (s.modSocket n f) where
  identity := rfl
  phase := rfl
  ceiling := rfl
  budget := rfl
  factors := rfl
  table := rfl
  presence := rfl
  link := rfl
  pending := rfl
  clock := rfl
  log := rfl
  due := rfl
  mem := rfl
  checks := rfl
  limit f := by simp
  enabled e := rfl
  sockets m := by
    rw [State.modSocket_socket]
    split
    · rename_i e; subst e; exact h _
    · exact .refl _
  hold m := by
    rw [State.modSocket_socket]
    split
    · rename_i e; subst e; rw [state]; exact id
    · exact id

/-- A change of what stands beside the settings, of the lists and of the flags that are set. -/
theorem State.Handled.of_sockets {s t : State} (sockets : t.sockets = s.sockets) (identity : t.identity = s.identity)
    (phase : t.phase = s.phase) (ceiling : t.ceiling = s.ceiling) (budget : t.budget = s.budget)
    (factors : t.factors = s.factors) (table : t.engine.table = s.engine.table) (presence : t.presence = s.presence)
    (link : t.link = s.link) (pending : t.pending = s.pending) (clock : t.clock = s.clock) (log : t.log = s.log)
    (due : t.due = s.due) (mem : t.store.mem = s.store.mem) (checks : t.store.checks = s.store.checks)
    (limit : ∀ f, (t.feed f).limit = (s.feed f).limit) (enabled : ∀ e, (t.flag e).enabled = (s.flag e).enabled) :
    s.Handled t :=
  ⟨identity, phase, ceiling, budget, factors, table, presence, link, pending, clock, log, due, mem, checks, limit, enabled,
    fun n => by rw [State.socket_congr sockets]; exact .refl _, fun n => by rw [State.socket_congr sockets]; exact id⟩

theorem State.Handled.modFeed (s : State) (f : FeedId) {g : Feed → Feed}
    (limit : ∀ x, (g x).limit = x.limit := by intro x; rfl) : s.Handled (s.modFeed f g) := by
  refine .of_sockets ?_ ?_ ?_ ?_ ?_ ?_ ?_ ?_ ?_ ?_ ?_ ?_ ?_ ?_ ?_ (fun h => ?_) fun e => ?_
  all_goals try simp
  · split
    · rename_i e; subst e; exact limit _
    · rfl
  · rw [State.flag_congr (t := s) (by simp)]

theorem State.Handled.raise (s : State) (e : EventFlag) (x : SocketSet) : s.Handled (s.raise e x) :=
  .of_sockets rfl rfl rfl rfl rfl rfl rfl rfl rfl rfl rfl rfl rfl rfl rfl (fun f => by simp) fun e' => by
    rw [State.flag_raise]; split
    · rename_i e; subst e; rfl
    · rfl

theorem State.Handled.send (s : State) (n : Sock) (k : ReportKind) : s.Handled (s.send n k) :=
  .of_sockets rfl rfl rfl rfl rfl rfl rfl rfl rfl rfl rfl rfl rfl rfl rfl (fun f => by simp) fun _ => rfl

theorem State.Handled.drop (s : State) (r : Report) : s.Handled (s.drop r) :=
  .of_sockets rfl rfl rfl rfl rfl rfl rfl rfl rfl rfl rfl rfl rfl rfl rfl (fun f => by simp) fun _ => rfl

theorem State.Handled.engine (s : State) {g : Engine} (table : g.table = s.engine.table) : s.Handled { s with engine := g } :=
  .of_sockets rfl rfl rfl rfl rfl rfl table rfl rfl rfl rfl rfl rfl rfl rfl (fun f => by cases f <;> rfl) fun _ => rfl

theorem State.move_flag (s : State) (n : Sock) (st : SocketState) (e : EventFlag) : (s.move n st).flag e = s.flag e :=
  State.flag_congr (by simp) e

/-- A move, not to HOLD. -/
theorem State.Handled.move (s : State) (n : Sock) {st : SocketState} (noHold : st ≠ .hold) : s.Handled (s.move n st) := by
  refine ⟨?_, ?_, ?_, ?_, ?_, ?_, ?_, ?_, ?_, ?_, ?_, ?_, ?_, ?_, fun f => ?_, fun e => ?_, fun m => ?_, fun m => ?_⟩
  case refine_6 => exact (s.move_sets n st).2.2.2.1
  case refine_15 => rw [State.move_feed]; split <;> rfl
  case refine_16 => rw [State.move_flag]
  case refine_17 =>
    rw [State.move_socket]
    split
    · rename_i e; subst e; exact .moved _ _
    · exact .refl _
  case refine_18 =>
    rw [State.move_socket]
    split
    · intro h; exact absurd h noHold
    · exact id
  all_goals simp

theorem State.Handled.admitHead (s : State) (f : FeedId) (n : Sock) (rest : List Sock) : s.Handled (s.admitHead f n rest) :=
  ((State.Handled.modFeed s f (g := fun g => { g with queue := rest, order := g.order ++ [n] })).trans
    (.modSocket _ n (f := fun k => { k with rail := k.rail.admitted _ }))).trans (.send _ n .grant)

theorem State.Handled.evaluate (s : State) (f : FeedId) : s.Handled (s.evaluate f) := by
  rcases s.evaluate_cases f with e | ⟨n, rest, -, -, -, e⟩ <;> rw [e]
  · exact .refl s
  · exact .admitHead s f n rest

theorem State.Handled.moveAdmit (s : State) (n : Sock) {st : SocketState} (noHold : st ≠ .hold) : s.Handled (s.moveAdmit n st) :=
  (State.Handled.move s n noHold).trans (.evaluate _ _)

theorem State.Handled.requeued (s : State) (n : Sock) : s.Handled (s.requeued n) := by
  unfold State.requeued
  dsimp only
  split
  · exact (State.Handled.move s n (by simp)).trans (.evaluate _ _)
  · exact .evaluate _ _

theorem State.Handled.settleToRun (s : State) (n : Sock) : s.Handled (s.settleToRun n) := by
  unfold State.settleToRun
  split
  · exact .move s n (by simp)
  · exact .refl s

theorem State.Handled.decideAll (s : State) : s.Handled s.decideAll := .foldl _ .settleToRun s

/-- Every socket changed in what a request or a report may change of it. -/
theorem State.Handled.mapSockets (s : State) {f : Sock → Socket → Socket}
    (h : ∀ n k, Socket.Handled k (f n k) := by intro n k; constructor <;> rfl)
    (state : ∀ n k, (f n k).scu.state = k.scu.state := by intro n k; rfl) : s.Handled (s.mapSockets f) := by
  refine ⟨?_, ?_, ?_, ?_, ?_, ?_, ?_, ?_, ?_, ?_, ?_, ?_, ?_, ?_, fun f => ?_, fun e => ?_, fun m => ?_, fun m => ?_⟩
  case refine_16 => rw [State.flag_congr (t := s) (by simp)]
  case refine_17 => rw [State.mapSockets_socket]; exact h _ _
  case refine_18 => rw [State.mapSockets_socket, state]; exact id
  all_goals simp

theorem State.Handled.recomputeRate (s : State) : s.Handled s.recomputeRate := .engine s rfl

theorem State.Handled.idle (s : State) (c : StopCause) : s.Handled (s.idle c) := by
  have stopped : s.Handled { s with engine := s.engine.stopped c } := .engine s rfl
  have dropped := stopped.trans (.mapSockets _ (f := fun _ k => { k with lane := { k.lane with result := {} } }))
  exact (dropped.trans (.recomputeRate _)).trans (.decideAll _)

theorem State.Handled.takeOff (s : State) (n : Sock) : s.Handled (s.takeOff n) := by
  have off : s.Handled (s.modSocket n fun k => { k with rail := k.rail.off }) := .modSocket s n
  exact off.trans (.modFeed _ _)

theorem State.Handled.startPass (s : State) : s.Handled s.startPass := by
  have started : s.Handled (s.mapSockets fun n k =>
      if SocketSet.has s.runSet n then { k with lane := k.lane.startPass } else k) := by
    refine .mapSockets s (fun n k => ?_) fun n k => ?_
    · split
      · constructor <;> rfl
      · exact .refl k
    · split <;> rfl
  exact started.trans (.engine _ rfl)

theorem State.Handled.nextPass (s : State) : s.Handled s.nextPass :=
  ((State.Handled.recomputeRate s).trans (.decideAll _)).trans (.startPass _)

theorem State.Handled.arrive (s : State) (e : EntryNo) : s.Handled (s.arrive e).1 := by
  unfold State.arrive
  dsimp only
  split_ifs
  · exact (State.Handled.idle s _).trans (.raise _ _ _)
  · exact (State.Handled.idle s _).trans (.raise _ _ _)
  · exact .engine s rfl

theorem State.Handled.start (s : State) (e : EntryNo) : s.Handled (s.start e) := by
  have arrived := State.Handled.arrive s e
  unfold State.start
  split <;> rename_i t ht <;> rw [ht] at arrived
  · exact arrived.trans (.startPass t)
  · exact arrived

theorem State.Handled.followLink (s : State) : s.Handled s.followLink := by
  unfold State.followLink
  split
  · exact (State.Handled.idle s _).trans (.raise _ _ _)
  · rename_i e _
    have arrived := State.Handled.arrive s e
    split <;> rename_i t ht <;> rw [ht] at arrived
    · exact arrived.trans (.nextPass t)
    · exact arrived

theorem State.Handled.pageCorrupt (s : State) (p : Page) : s.Handled (s.pageCorrupt p) := by
  have marked : s.Handled { s with store := s.store.setCondition p .corrupt } :=
    .of_sockets rfl rfl rfl rfl rfl rfl rfl rfl rfl rfl rfl rfl rfl rfl rfl (fun f => by cases f <;> rfl) fun _ => rfl
  refine (marked.trans (.raise _ .storeFault 0#16)).trans ?_
  unfold State.pageCorrupt State.stopForPage
  split_ifs
  · exact .refl _
  · exact .idle _ _
  · exact .engine _ rfl
  · exact .refl _

theorem State.Handled.checkPage (s : State) (p : Page) : s.Handled (s.checkPage p).1 := by
  unfold State.checkPage
  split
  · exact .pageCorrupt s p
  · exact .refl s

theorem State.Handled.verify : ∀ (pages : List Page) (s : State), s.Handled (State.verify pages s).1
  | [], s => .refl s
  | p :: rest, s => by
    unfold State.verify
    split
    · exact State.Handled.verify rest s
    · exact .refl s
    · have checked := State.Handled.checkPage s p
      split <;> rename_i t ht <;> rw [ht] at checked
      · exact checked.trans (.verify rest t)
      · exact checked

theorem State.Handled.scrub (s : State) : s.Handled s.scrub := by
  unfold State.scrub
  split
  · exact .refl s
  · split
    · exact .refl s
    · rename_i p _
      have moved : s.Handled { s with store := { s.store with scrub := p + 1, lastScrubbed := some p } } :=
        .of_sockets rfl rfl rfl rfl rfl rfl rfl rfl rfl rfl rfl rfl rfl rfl rfl (fun f => by cases f <;> rfl) fun _ => rfl
      exact moved.trans (.checkPage _ _)

theorem State.Handled.takeGrant (s : State) (n : Sock) : s.Handled (s.takeGrant n) := by
  unfold State.takeGrant
  split
  · exact .move s n (by simp)
  · exact .refl s

theorem State.Handled.shedMove (s : State) (n : Sock) : s.Handled (s.shedMove n) := by
  have counted : s.Handled (s.countShed n) := by
    unfold State.countShed State.modAccount
    exact .modSocket s n
  unfold State.shedMove
  dsimp only
  split_ifs
  · exact counted.trans (.move _ n (by simp))
  · exact (counted.trans (.move _ n (by simp))).trans (.modFeed _ _)
  · exact .refl s

theorem State.Handled.shedNow (s : State) (n : Sock) : s.Handled (s.shedNow n) := by
  have taken : s.Handled (if s.granted n then (s.takeGrant n).drop ⟨n, .grant⟩ else s) := by
    split
    · exact (State.Handled.takeGrant s n).trans (.drop _ _)
    · exact .refl s
  exact (((taken.trans (.takeOff _ n)).trans (.modFeed _ _)).trans (.raise _ _ _)).trans (.shedMove _ n)

theorem State.Handled.arm (s : State) (n : Sock) : s.Handled (s.arm n) := by
  have armed : s.Handled (s.modSocket n Socket.armed) := .modSocket s n
  exact ((armed.trans (.move _ n (by simp))).trans (.modFeed _ _)).trans (.evaluate _ _)

theorem State.Handled.powerDown (s : State) (n : Sock) : s.Handled (s.powerDown n) := by
  have noHold : (if (s.socket n).scu.state = .hold then SocketState.safe else .off) ≠ .hold := by split <;> simp
  unfold State.powerDown
  dsimp only
  split
  · exact .move s n noHold
  · exact .moveAdmit s n noHold

theorem State.Handled.forSet (s : State) (x : SocketSet) (judge : State → Sock → Option Status) (act : State → Sock → State)
    (h : ∀ t n, State.Handled t (act t n)) : s.Handled (s.forSet x judge act).1 :=
  s.forSet_keeps s.Handled x judge act (fun t n ht _ => ht.trans (h t n)) (.refl s)

end Sys2Proof.Machine
end

section
/-!
PROOFS. Events change no setting: every expiry, report taken and tick, and what of the mode and of the HOLD sockets they keep.
-/

namespace Sys2Proof.Machine

/-! ### Single updates of an event -/

/-- A change that shows in no setting, no first cause, no mode and no socket's state. -/
theorem State.Steady.of_sockets {s t : State} (identity : t.identity = s.identity) (phase : t.phase = s.phase)
    (ceiling : t.ceiling = s.ceiling) (budget : t.budget = s.budget) (factors : t.factors = s.factors)
    (table : t.engine.table = s.engine.table) (presence : t.presence = s.presence) (address : t.link.address = s.link.address)
    (groups : t.link.groups = s.link.groups) (silenceParam : t.link.silenceParam = s.link.silenceParam)
    (pending : t.pending = s.pending) (mode : t.link.mode = s.link.mode) (limit : ∀ f, (t.feed f).limit = (s.feed f).limit)
    (enabled : ∀ e, (t.flag e).enabled = (s.flag e).enabled)
    (sockets : ∀ n, (s.socket n).SettingsKept (t.socket n) ∧ (t.socket n).scu.state = (s.socket n).scu.state) : s.Steady t :=
  ⟨⟨identity, phase, ceiling, budget, factors, table, presence, address, groups, silenceParam, pending, limit, enabled,
    fun n => (sockets n).1⟩, mode, fun _ n h => by rwa [(sockets n).2] at h⟩

theorem State.Steady.modSocket (s : State) (n : Sock) {f : Socket → Socket}
    (h : (s.socket n).SettingsKept (f (s.socket n))) (state : (f (s.socket n)).scu.state = (s.socket n).scu.state) :
    s.Steady (s.modSocket n f) := by
  refine .of_sockets rfl rfl rfl rfl rfl rfl rfl rfl rfl rfl rfl rfl (fun f => by simp) (fun _ => rfl) fun m => ?_
  rw [State.modSocket_socket]
  split
  · rename_i e; subst e; exact ⟨h, state⟩
  · exact ⟨.refl _, rfl⟩

theorem State.Steady.mapSockets (s : State) {f : Sock → Socket → Socket}
    (h : ∀ n k, Socket.SettingsKept k (f n k)) (state : ∀ n k, (f n k).scu.state = k.scu.state) :
    s.Steady (s.mapSockets f) := by
  refine .of_sockets ?_ ?_ ?_ ?_ ?_ ?_ ?_ ?_ ?_ ?_ ?_ ?_ (fun f => ?_) (fun e => ?_) fun m => ?_
  case refine_14 => rw [State.flag_congr (t := s) (by simp)]
  case refine_15 => rw [State.mapSockets_socket]; exact ⟨h _ _, state _ _⟩
  all_goals simp

theorem State.Steady.due (s : State) (l : List Expiry) : s.Steady { s with due := l } :=
  .of_sockets rfl rfl rfl rfl rfl rfl rfl rfl rfl rfl rfl rfl (fun f => by cases f <;> rfl) (fun _ => rfl)
    fun _ => ⟨.refl _, rfl⟩

theorem State.Steady.send (s : State) (n : Sock) (k : ReportKind) : s.Steady (s.send n k) := (State.Handled.send s n k).steady

theorem State.Steady.drop (s : State) (r : Report) : s.Steady (s.drop r) := (State.Handled.drop s r).steady

theorem State.Steady.raise (s : State) (e : EventFlag) (x : SocketSet) : s.Steady (s.raise e x) :=
  (State.Handled.raise s e x).steady

theorem State.Steady.modRail (s : State) (n : Sock) {f : Rail → Rail}
    (h : ∀ r, (f r).profile = r.profile ∧ (f r).written = r.written := by intro r; exact ⟨rfl, rfl⟩) :
    s.Steady (s.modRail n f) :=
  .modSocket s n ⟨(h _).1, (h _).2, rfl, rfl, rfl, rfl, rfl, fun ff => ⟨ff, rfl, rfl, rfl⟩⟩ rfl

theorem State.Steady.modHeat (s : State) (n : Sock) {f : Heat → Heat}
    (h : ∀ r, (f r).profile = r.profile ∧ (f r).written = r.written := by intro r; exact ⟨rfl, rfl⟩) :
    s.Steady (s.modHeat n f) :=
  .modSocket s n ⟨rfl, rfl, (h _).1, (h _).2, rfl, rfl, rfl, fun ff => ⟨ff, rfl, rfl, rfl⟩⟩ rfl

theorem State.Steady.modScu (s : State) (n : Sock) {f : Record → Record}
    (h : ∀ r, (f r).state = r.state ∧ (f r).firstFail = r.firstFail := by intro r; exact ⟨rfl, rfl⟩) :
    s.Steady (s.modScu n f) :=
  .modSocket s n ⟨rfl, rfl, rfl, rfl, rfl, rfl, rfl, fun ff => ⟨(h _).2.trans ff, rfl, rfl, rfl⟩⟩ (h _).1

theorem State.Steady.modAccount (s : State) (n : Sock) {f : Account → Account}
    (h : ∀ r, (f r).firstCause = r.firstCause ∧ (f r).firstFailTime = r.firstFailTime ∧
      (f r).firstFailCredit = r.firstFailCredit := by intro r; exact ⟨rfl, rfl, rfl⟩) :
    s.Steady (s.modAccount n f) :=
  .modSocket s n ⟨rfl, rfl, rfl, rfl, rfl, rfl, rfl, fun ff => ⟨ff, h _⟩⟩ rfl

/-- A move while ATTENDED, or not to HOLD. -/
theorem State.Steady.move (s : State) (n : Sock) {st : SocketState} (h : st = .hold → s.link.mode = .attended) :
    s.Steady (s.move n st) := by
  by_cases hold : st = .hold
  · subst hold
    refine ⟨⟨?_, ?_, ?_, ?_, ?_, ?_, ?_, ?_, ?_, ?_, ?_, fun f => ?_, fun e => ?_, fun m => ?_⟩, ?_, fun un => ?_⟩
    case refine_6 => exact (s.move_sets n _).2.2.2.1
    case refine_12 => rw [State.move_feed]; split <;> rfl
    case refine_13 => rw [State.move_flag]
    case refine_14 =>
      rw [State.move_socket]
      split
      · rename_i e; subst e; exact (Socket.Handled.moved _ _).settingsKept
      · exact .refl _
    case refine_16 => rw [h rfl] at un; cases un
    all_goals simp
  · exact (State.Handled.move s n hold).steady

/-! ### Failures -/

theorem State.logRecord_enabled (s : State) (r : FailRecord) (e : EventFlag) :
    ((s.logRecord r).flag e).enabled = (s.flag e).enabled := by
  unfold State.logRecord
  dsimp only
  split
  · unfold State.storeRecord
    dsimp only
    split
    · rw [(State.Handled.raise _ _ _).enabled]; rfl
    · rfl
  · unfold State.dropRecord
    dsimp only
    split
    · rw [(State.Handled.raise _ _ _).enabled]; rfl
    · rfl

theorem Socket.SettingsKept.accounted (k : Socket) (c : Cause) (time : Nat) :
    k.SettingsKept (k.accounted (if k.scu.firstFail then .secondary else .primary) c time) := by
  unfold Socket.accounted
  refine ⟨rfl, rfl, rfl, rfl, ?_, ?_, rfl, fun ff => ⟨rfl, ?_⟩⟩
  · dsimp only; split <;> rfl
  · dsimp only; split <;> rfl
  · rw [if_pos ff]; exact ⟨rfl, rfl, rfl⟩

theorem State.Steady.accountFailure (s : State) (n : Sock) (c : Cause) (d : SocketState) :
    s.Steady (s.accountFailure n c d) := by
  refine .of_sockets ?_ ?_ ?_ ?_ ?_ ?_ ?_ ?_ ?_ ?_ ?_ ?_ (fun f => ?_) (fun e => ?_) fun m => ?_
  case refine_13 => rw [State.accountFailure_feed]
  case refine_14 =>
    rw [State.flag_congr (t := (s.markFailed n (s.kindOf n) c).logRecord (s.recordOf n (s.kindOf n) c d))
      (by simp [State.accountFailure]), State.logRecord_enabled, State.flag_congr (t := s) (by simp)]
  case refine_15 =>
    rw [State.accountFailure_socket]
    split
    · rename_i e; subst e; exact ⟨.accounted _ _ _, rfl⟩
    · exact ⟨.refl _, rfl⟩
  all_goals simp

/-- A disposition HOLD is one of an attended board (R17). -/
theorem Cause.attended_of_hold {c : Cause} {m : Attendance} (h : c.disposition m = .hold) : m = .attended := by
  cases c <;> cases m <;> simp_all [Cause.disposition]

theorem State.Steady.fail (s : State) (n : Sock) (c : Cause) : s.Steady (s.fail n c) := by
  cases runs : c.runsIn (s.socket n).scu.state with
  | false => rw [s.fail_discarded n c runs]; exact .refl s
  | true =>
    rw [s.fail_taken n c runs]
    refine ((State.Steady.accountFailure s n c (c.disposition s.link.mode)).trans ?_).trans (.raise _ _ _)
    unfold State.dispose
    split
    · rename_i hold
      exact .move _ n fun _ => by simpa using Cause.attended_of_hold hold
    · rename_i hold
      exact (State.Handled.moveAdmit _ n hold).steady

/-! ### Reports taken -/

theorem State.Steady.countTrip (s : State) (n : Sock) (retry : Bool) : s.Steady (s.modSocket n fun k => k.tripped retry) :=
  .modSocket s n ⟨rfl, rfl, rfl, rfl, rfl, rfl, rfl, fun ff => ⟨ff, rfl, rfl, rfl⟩⟩ rfl

theorem State.Steady.taken (s : State) (n : Sock) (kind : ReportKind) : s.Steady (s.taken n kind) := by
  cases kind with
  | grant => exact (State.Handled.takeGrant s n).steady
  | qualified =>
    simp only [State.taken, State.takeQualified]
    split
    · exact (State.Handled.moveAdmit s n (by simp)).steady
    · exact .refl s
  | settled =>
    simp only [State.taken, State.takeSettled]
    split
    · exact (State.Steady.modScu s n).trans (State.Handled.settleToRun _ n).steady
    · exact .refl s
  | notSettled => exact .modScu s n (f := fun r => { r with settledMark := false })
  | target =>
    simp only [State.taken, State.takeTarget]
    split
    · exact ((State.Steady.modAccount s n).trans (State.Handled.moveAdmit _ n (by simp)).steady).trans (.raise _ _ _)
    · exact .refl s
  | trip =>
    simp only [State.taken, State.takeTrip]
    split
    · split
      · exact (State.Steady.countTrip s n _).trans (((State.Handled.move _ n (by simp)).trans (.modFeed _ _)).trans
          (.requeued _ n)).steady
      · exact (State.Steady.countTrip s n _).trans (.fail _ n _)
    · exact .refl s
  | shed =>
    simp only [State.taken, State.takeShed]
    split_ifs
    · exact ((State.Handled.shedMove s n).trans (.evaluate _ _)).steady
    · exact ((State.Handled.shedMove s n).trans (.requeued _ n)).steady
    · exact .refl s
  | failure c => exact .fail s n c

theorem State.Steady.takeNotices (n : Sock) : ∀ (k : Nat) (s : State), s.Steady (State.takeNotices n k s)
  | 0, s => .refl s
  | k + 1, s => by
    unfold State.takeNotices
    split
    · split
      · exact ((State.Steady.drop s _).trans (.taken _ n .notSettled)).trans (.takeNotices n k _)
      · exact .refl s
    · exact .refl s

theorem State.Steady.takeReport (s : State) (n : Sock) (kind : ReportKind) :
    s.Steady (s.takeReport n kind (·.taken n kind)) := by
  rcases s.takeReport_cases n kind (·.taken n kind) with ⟨-, e⟩ | ⟨-, e⟩ <;> rw [e]
  · exact ((State.Steady.drop s _).trans (.taken _ n kind)).trans (.takeNotices n _ _)
  · exact .refl s

/-! ### Expiries -/

theorem Lane.countPass_frame (l : Lane) : l.countPass.profile = l.profile ∧ l.countPass.written = l.written := by
  unfold Lane.countPass Lane.appendCapture
  dsimp only
  split
  · exact ⟨rfl, rfl⟩
  · split
    · exact ⟨rfl, rfl⟩
    · split <;> exact ⟨rfl, rfl⟩

theorem State.Steady.settlePass (s : State) (n : Sock) : s.Steady (s.settlePass n) := by
  have counted : ∀ failing, s.Steady (s.modSocket n fun k => { k with
      lane := k.lane.countPass, scu := { k.scu with failingPassSinceRead := failing } }) := fun failing =>
    .modSocket s n ⟨rfl, rfl, rfl, rfl, (Lane.countPass_frame _).1, (Lane.countPass_frame _).2, rfl,
      fun ff => ⟨ff, rfl, rfl, rfl⟩⟩ rfl
  unfold State.settlePass
  dsimp only
  split
  · exact (counted _).trans (.send _ n _)
  · exact counted _

theorem State.Steady.passEnd (s : State) : s.Steady s.passEnd := by
  have settled : s.Steady s.settlePasses := .foldl _ .settlePass s
  unfold State.passEnd
  dsimp only
  split
  · exact .refl s
  · exact settled.trans (State.Handled.idle _ _).steady
  · have counted : ∀ left, s.settlePasses.Handled { s.settlePasses with
        engine := { s.settlePasses.engine with repeatsLeft := left } } := fun left =>
      .engine _ (g := { s.settlePasses.engine with repeatsLeft := left }) rfl
    split
    · exact settled.trans ((counted _).trans (.followLink _)).steady
    · exact settled.trans ((counted _).trans (.nextPass _)).steady

theorem State.Steady.releaseUnattended (s : State) (n : Sock) : s.Steady (s.releaseUnattended n) := by
  unfold State.releaseUnattended
  split
  · exact (State.Steady.modAccount s n).trans (State.Handled.moveAdmit _ n (by simp)).steady
  · exact .refl s

theorem State.Steady.releaseAll (s : State) : s.Steady s.releaseAll :=
  (State.Steady.foldl _ .releaseUnattended s).trans (.raise _ _ _)

theorem State.Steady.endCalibration (s : State) (n : Sock) : s.Steady (s.endCalibration n) := by
  unfold State.endCalibration
  split
  · exact .refl s
  · rename_i c _
    refine (State.Steady.modRail s n (f := fun r => r.calibrated c.mean) fun r => ?_).trans ?_
    · unfold Rail.calibrated; split <;> exact ⟨rfl, rfl⟩
    · unfold State.answerCalibration
      split
      · exact .of_sockets rfl rfl rfl rfl rfl rfl rfl rfl rfl rfl rfl rfl (fun f => by cases f <;> rfl) (fun _ => rfl)
          fun _ => ⟨.refl _, rfl⟩
      · exact .refl _

/-- Every expiry but the link silence is steady: that one alone changes the mode. -/
theorem State.Steady.fire (s : State) {e : Expiry} (h : e ≠ .linkSilence) : s.Steady (s.fire e) := by
  cases e with
  | rampTimeout n | moveTimeout n | unregulated n | contactLoss n =>
    simp only [State.fire, State.rampTimedOut, State.moveTimedOut, State.unregulated, State.contactLost]
    exact (State.Steady.modRail s n).trans (.send _ _ _)
  | qualification n =>
    simp only [State.fire, State.qualify]
    split
    · exact (State.Steady.modRail s n).trans (.send _ _ _)
    · exact .refl s
  | trip n => exact (State.Handled.takeOff s n).steady.trans (.send _ _ _)
  | shed f =>
    simp only [State.fire, State.shedNewest]
    split
    · exact (State.Handled.modFeed s f).steady
    · exact ((State.Handled.modFeed s f).trans (.takeOff _ _)).steady.trans ((State.Steady.send _ _ _).trans (.raise _ _ _))
  | calibrationEnd n => exact .endCalibration s n
  | thermallySettled n => exact .send s n _
  | notSettled n =>
    simp only [State.fire, State.noticeNotSettled]
    split
    · exact .send s n _
    · exact .taken s n .notSettled
  | excursion n | runaway n =>
    simp only [State.fire, State.reportExcursion, State.reportRunaway]
    exact (State.Steady.modHeat s n).trans (.send _ _ _)
  | settleTimeout n => exact .fail s n _
  | cleanRun n =>
    simp only [State.fire, State.cleanRunDone]
    exact .modScu s n
  | linkSilence => exact absurd rfl h
  | releases => exact .releaseAll s
  | passEnd => exact .passEnd s

theorem State.SettingsKept.goUnattended (s : State) : s.SettingsKept s.goUnattended :=
  ⟨rfl, rfl, rfl, rfl, rfl, rfl, rfl, rfl, rfl, rfl, rfl, fun f => by cases f <;> rfl, fun _ => rfl, fun _ => .refl _⟩

theorem State.SettingsKept.fire (s : State) (e : Expiry) : s.SettingsKept (s.fire e) := by
  by_cases h : e = .linkSilence
  · subst h; exact (State.SettingsKept.goUnattended s).trans (State.Steady.releaseAll _).toSettingsKept
  · exact (State.Steady.fire s h).toSettingsKept

theorem State.SettingsKept.fires (l : List Expiry) (s : State) : s.SettingsKept (l.foldl State.fire s) :=
  foldl_holds (P := s.SettingsKept) l (fun t e ht => ht.trans (.fire t e)) (.refl s)

theorem State.SettingsKept.due (s : State) (l : List Expiry) : s.SettingsKept { s with due := l } :=
  (State.Steady.due s l).toSettingsKept

theorem State.SettingsKept.settled (s : State) : s.SettingsKept s.settled :=
  (State.SettingsKept.due s []).trans (.fires _ _)

theorem State.SettingsKept.occur (s : State) (e : Expiry) : s.SettingsKept (s.occur e) := by
  unfold State.occur
  split
  · exact (State.SettingsKept.due s _).trans (.fires _ _)
  · exact .refl s

theorem State.SettingsKept.beforeReport (s : State) : s.SettingsKept s.beforeReport := by
  unfold State.beforeReport
  split_ifs
  · exact (((State.SettingsKept.due s _).trans (.fires _ _)).trans (.due _ _)).trans (.goUnattended _)
  · exact (State.SettingsKept.due s _).trans (.fires _ _)
  · exact .settled s

/-! ### Ticks and vector steps -/

theorem State.Steady.sampleTick (s : State) (readings : Vector SenseReading 16) : s.Steady (s.sampleTick readings) := by
  have sampled : s.Steady (s.mapSockets fun n k => k.sample (s.inOrder n) s.identity.tripMax (readings.get n)) := by
    refine .mapSockets s (fun n k => ⟨?_, ?_, rfl, rfl, rfl, rfl, rfl, fun ff => ⟨ff, ?_⟩⟩) fun n k => rfl <;>
      simp only [Socket.sample]
    · split <;> rfl
    · split <;> rfl
    · split <;> exact ⟨rfl, rfl, rfl⟩
  exact ((sampled.trans (State.Handled.modFeed _ .a).steady).trans (State.Handled.modFeed _ .b).steady).trans (.due _ _)

theorem Heat.demandStage_frame (h : Heat) (heated : Bool) :
    (h.demandStage heated).profile = h.profile ∧ (h.demandStage heated).written = h.written := by
  unfold Heat.demandStage
  split
  · split <;> exact ⟨rfl, rfl⟩
  · exact ⟨rfl, rfl⟩

theorem Heat.read_frame (h : Heat) (t : Int) : (h.read t).profile = h.profile ∧ (h.read t).written = h.written := by
  unfold Heat.read; split <;> exact ⟨rfl, rfl⟩

theorem Socket.SettingsKept.thermalFirst (k : Socket) (t : Int) : k.SettingsKept (k.thermalFirst t) := by
  have read : (if k.scu.state = .absent then k.heat else (k.heat.read t).judge).profile = k.heat.profile ∧
      (if k.scu.state = .absent then k.heat else (k.heat.read t).judge).written = k.heat.written := by
    split
    · exact ⟨rfl, rfl⟩
    · exact Heat.read_frame _ _
  unfold Socket.thermalFirst
  obtain ⟨profile, written⟩ := Heat.demandStage_frame
    (if k.scu.state = .absent then k.heat else (k.heat.read t).judge) k.scu.state.powered
  exact ⟨rfl, rfl, profile.trans read.1, written.trans read.2, rfl, rfl, rfl, fun ff => ⟨ff, rfl, rfl, rfl⟩⟩

theorem State.Steady.scale (s : State) : s.Steady s.scale := by
  have scaled : ∀ d : Sock → Nat, s.Steady (s.mapSockets fun n k => k.withDuty (d n)) := fun d =>
    .mapSockets s (fun _ _ => ⟨rfl, rfl, rfl, rfl, rfl, rfl, rfl, fun ff => ⟨ff, rfl, rfl, rfl⟩⟩) fun _ _ => rfl
  unfold State.scale
  dsimp only
  split
  · exact (scaled _).trans (.raise _ _ _)
  · exact scaled _

theorem Socket.SettingsKept.notices (k : Socket) : k.SettingsKept k.notices := by
  unfold Socket.notices
  split
  · refine ⟨rfl, rfl, rfl, rfl, rfl, rfl, rfl, fun ff => ⟨ff, ?_⟩⟩
    dsimp only
    split <;> exact ⟨rfl, rfl, rfl⟩
  · exact .refl k

theorem State.Steady.limitReports (s : State) (n : Sock) : s.Steady (s.limitReports n) := by
  unfold State.limitReports
  dsimp only
  split_ifs
  · exact (State.Steady.send s _ _).trans (.send _ _ _)
  · exact .send s _ _
  · exact .send s _ _
  · exact .refl s
  · exact .refl s

theorem State.Steady.thermalReport (before : Vector Socket 16) (s : State) (n : Sock) :
    s.Steady (State.thermalReport before s n) := by
  unfold State.thermalReport
  dsimp only
  refine State.Steady.trans ?_ (.due _ _)
  split
  · exact (State.Steady.raise s _ _).trans (.limitReports _ n)
  · exact .limitReports _ n

theorem State.Steady.thermalTick (s : State) (readings : Vector Int 16) : s.Steady (s.thermalTick readings) := by
  have demanded : s.Steady (s.mapSockets fun n k => k.thermalFirst (readings.get n)) :=
    .mapSockets s (fun n k => .thermalFirst k _) fun _ _ => rfl
  refine ((demanded.trans (.scale _)).trans (.mapSockets _ (fun n k => ?_) fun n k => ?_)).trans
    (.foldl _ (.thermalReport s.sockets) _)
  · have monitored : k.SettingsKept { k with heat := k.heat.monitor (s.socket n).heat k.scu.state } :=
      ⟨rfl, rfl, rfl, rfl, rfl, rfl, rfl, fun ff => ⟨ff, rfl, rfl, rfl⟩⟩
    exact monitored.trans (.notices _)
  · exact (Socket.notices_frame _).1

theorem State.Steady.accrueSocket (s : State) (n : Sock) : s.Steady (s.accrueSocket n) := by
  have counted : ∀ credit : Credit, credit.target = (s.socket n).credit.target → ∀ eligible inWindow,
      s.Steady (s.modSocket n fun k => { k with credit, account := k.account.countSecond eligible inWindow }) :=
    fun credit target _ _ => .modSocket s n ⟨rfl, rfl, rfl, rfl, rfl, rfl, target, fun ff => ⟨ff, rfl, rfl, rfl⟩⟩ rfl
  unfold State.accrueSocket
  dsimp only
  have target : (if s.eligible n = true then (s.socket n).credit.accrue (s.tickFactor n) else (s.socket n).credit).target =
      (s.socket n).credit.target := by split <;> rfl
  generalize (if s.eligible n = true then (s.socket n).credit.accrue (s.tickFactor n) else (s.socket n).credit) = credit at target
  split
  · split
    · exact (counted credit target _ _).trans (.send _ _ _)
    · exact counted credit target _ _
  · exact .refl s

theorem State.Steady.timers (s : State) : s.Steady s.timers := by
  have timed : s.Steady (s.mapSockets fun _ k => { k with scu := k.scu.second }) :=
    .mapSockets s (fun _ _ => ⟨rfl, rfl, rfl, rfl, rfl, rfl, rfl, fun ff => ⟨ff, rfl, rfl, rfl⟩⟩) fun _ _ => rfl
  exact timed.trans (.due _ _)

theorem State.Steady.silenceTick (s : State) : s.Steady s.silenceTick := by
  have counted : ∀ count, s.Steady { s with link := { s.link with silence := count } } := fun count =>
    .of_sockets rfl rfl rfl rfl rfl rfl rfl rfl rfl rfl rfl rfl (fun f => by cases f <;> rfl) (fun _ => rfl)
      fun _ => ⟨.refl _, rfl⟩
  unfold State.silenceTick
  split
  · exact .refl s
  · dsimp only
    split
    · exact (counted (min 7200 (s.link.silence + 1))).trans (.due _ _)
    · exact counted (min 7200 (s.link.silence + 1))

theorem State.Steady.secondTick (s : State) : s.Steady s.secondTick := by
  have clocked : s.Steady { s with clock := (s.clock + 1) % 4294967296 } :=
    .of_sockets rfl rfl rfl rfl rfl rfl rfl rfl rfl rfl rfl rfl (fun f => by cases f <;> rfl) (fun _ => rfl)
      fun _ => ⟨.refl _, rfl⟩
  exact (((clocked.trans (.foldl _ .accrueSocket _)).trans (.timers _)).trans (State.Handled.scrub _).steady).trans
    (.silenceTick _)

theorem Lane.compareVector_frame (l : Lane) (v : List Byte) (r : Byte) (made : Byte → Capture) :
    (l.compareVector v r made).profile = l.profile ∧ (l.compareVector v r made).written = l.written := by
  unfold Lane.compareVector; dsimp only; split <;> exact ⟨rfl, rfl⟩

theorem State.Steady.vectorStep (s : State) (e : EntryNo) (responses : Vector Byte 16) : s.Steady (s.vectorStep e responses) := by
  refine .of_sockets ?_ ?_ ?_ ?_ ?_ ?_ ?_ ?_ ?_ ?_ ?_ ?_ (fun f => ?_) (fun e => ?_) fun n => ?_
  case refine_6 => simp [State.vectorStep]
  case refine_13 => rw [State.feed_congr (t := s)] <;> simp [State.vectorStep_frame]
  case refine_14 => rw [State.flag_congr (t := s)]; simp [State.vectorStep_frame]
  case refine_15 =>
    rw [State.vectorStep_socket]
    split
    · obtain ⟨profile, written⟩ := Lane.compareVector_frame (s.socket n).lane _ _ _
      exact ⟨⟨rfl, rfl, rfl, rfl, profile, written, rfl, fun ff => ⟨ff, rfl, rfl, rfl⟩⟩, rfl⟩
    · exact ⟨.refl _, rfl⟩
  all_goals simp [State.vectorStep_frame]

end Sys2Proof.Machine
end

section
/-!
PROOFS. First causes, HOLD and the link silence (R18, R21, R160, R162): what a request leaves of them, what an expiry does to the
sockets in HOLD, and how many link-silence expiries are due.
-/

namespace Sys2Proof.Machine

/-! ### An evaluation of admission, socket by socket -/

/-- An evaluation of admission changes of a socket its rail alone (R35). -/
theorem State.evaluate_socket (s : State) (f : FeedId) (n : Sock) :
    (s.evaluate f).socket n = { s.socket n with rail := ((s.evaluate f).socket n).rail } := by
  rcases s.evaluate_cases f with e | ⟨m, rest, -, -, -, e⟩ <;> rw [e]
  rw [State.admitHead_socket]
  split
  · rename_i e; subst e; rfl
  · rfl

theorem State.evaluate_scu (s : State) (f : FeedId) (n : Sock) : ((s.evaluate f).socket n).scu = (s.socket n).scu := by
  rw [State.evaluate_socket]

/-! ### What a request leaves of first causes and of HOLD -/

/-- A first-fail flag that stands afterwards stood before, with the same first cause (R18). -/
def Socket.FirstOf (k k' : Socket) : Prop :=
  k'.scu.firstFail = true → k.scu.firstFail = true ∧ k'.account.firstCause = k.account.firstCause ∧
    k'.account.firstFailTime = k.account.firstFailTime ∧ k'.account.firstFailCredit = k.account.firstFailCredit

theorem Socket.FirstOf.refl (k : Socket) : k.FirstOf k := fun ff => ⟨ff, rfl, rfl, rfl⟩

theorem Socket.FirstOf.trans {k k' k'' : Socket} (h : k.FirstOf k') (h' : k'.FirstOf k'') : k.FirstOf k'' := fun ff => by
  obtain ⟨ff', cause', time', credit'⟩ := h' ff
  obtain ⟨ff, cause, time, credit⟩ := h ff'
  exact ⟨ff, cause'.trans cause, time'.trans time, credit'.trans credit⟩

theorem Socket.Handled.firstOf {k k' : Socket} (h : k.Handled k') : k.FirstOf k' := fun ff =>
  ⟨h.firstFail.symm.trans ff, h.firstCause, h.firstTime, h.firstCredit⟩

/-- A request makes no first cause, brings no socket to HOLD, and leaves the mode and what is due as they are. -/
structure State.Owned (s t : State) : Prop where
  mode : t.link.mode = s.link.mode
  due : t.due = s.due
  first : ∀ n, (s.socket n).FirstOf (t.socket n)
  hold : ∀ n, (t.socket n).scu.state = .hold → (s.socket n).scu.state = .hold

theorem State.Owned.refl (s : State) : s.Owned s := ⟨rfl, rfl, fun _ => .refl _, fun _ => id⟩

theorem State.Owned.trans {s t u : State} (h : s.Owned t) (h' : t.Owned u) : s.Owned u :=
  ⟨h'.mode.trans h.mode, h'.due.trans h.due, fun n => (h.first n).trans (h'.first n), fun n hn => h.hold n (h'.hold n hn)⟩

theorem State.Handled.owned {s t : State} (h : s.Handled t) : s.Owned t :=
  ⟨by rw [h.link], h.due, fun n => (h.sockets n).firstOf, h.hold⟩

theorem State.Owned.of_sockets {s t : State} (sockets : t.sockets = s.sockets) (mode : t.link.mode = s.link.mode)
    (due : t.due = s.due) : s.Owned t :=
  ⟨mode, due, fun n => by rw [State.socket_congr sockets]; exact .refl _, fun n => by rw [State.socket_congr sockets]; exact id⟩

theorem State.Owned.modSocket (s : State) (n : Sock) {f : Socket → Socket} (first : (s.socket n).FirstOf (f (s.socket n)))
    (hold : (f (s.socket n)).scu.state = .hold → (s.socket n).scu.state = .hold) : s.Owned (s.modSocket n f) := by
  refine ⟨rfl, rfl, fun m => ?_, fun m => ?_⟩ <;> rw [State.modSocket_socket] <;> split
  · rename_i e; subst e; exact first
  · exact .refl _
  · rename_i e; subst e; exact hold
  · exact id

theorem Socket.FirstOf.cleared (k : Socket) (st : SocketState) : k.FirstOf (k.cleared st) := fun ff => nomatch ff

theorem State.clearAccounts_socket (s : State) (n : Sock) :
    ({ s.mapSockets (fun _ k => k.cleared k.scu.state.afterClear) with log := s.log.cleared } : State).socket n =
      (s.socket n).cleared (s.socket n).scu.state.afterClear :=
  (State.socket_congr (t := s.mapSockets fun _ k => k.cleared k.scu.state.afterClear) (by simp) n).trans
    (s.mapSockets_socket n _)

theorem State.Owned.setFeedLimit (s : State) (f : FeedId) (limit : Nat) : s.Owned (s.setFeedLimit f limit).1 := by
  refine State.setFeedLimit_holds f limit (.refl s) (fun t n ht => ht.trans (State.Handled.shedNow t n).owned)
    (fun t n ht => ht.trans ?_) (fun t ht => ht.trans (.of_sockets (by simp) (by simp) (by simp)))
    fun t ht => ht.trans (State.Handled.evaluate t f).owned
  unfold State.withdraw
  split
  · exact (State.Handled.move t n (by simp)).owned
  · exact .refl t

theorem State.Owned.scale (s : State) : s.Owned s.scale := by
  have scaled : s.Owned (s.mapSockets fun n k => k.withDuty ((scaleDuties s.budget s.demands).getD n.val 0)) := by
    refine ⟨rfl, rfl, fun n => ?_, fun n => ?_⟩ <;> rw [State.mapSockets_socket]
    · exact .refl _
    · exact id
  unfold State.scale
  dsimp only
  split
  · exact scaled.trans (.of_sockets rfl rfl rfl)
  · exact scaled

/-- Whatever the owner of a request does makes no first cause and brings no socket to HOLD. -/
theorem State.Answered.owned {s t : State} {code : Byte} (h : s.Answered code t) : s.Owned t := by
  cases h with
  | same => exact .refl s
  | groups | silenceParam | acked | enables | loaded | factors | trimmed | threshold | entry | stopped =>
    exact .of_sockets rfl rfl rfl
  | arm x => exact (State.Handled.forSet s x _ _ .arm).owned
  | powerDown x => exact (State.Handled.forSet s x _ _ .powerDown).owned
  | pause x => exact (State.Handled.forSet s x _ _ fun t n => .move t n (by simp)).owned
  | resume x => exact (State.Handled.forSet s x _ _ fun t n => .move t n (by simp)).owned
  | release x => exact (State.Handled.forSet s x _ _ fun t n => .moveAdmit t n (by simp)).owned
  | statusRead n => exact .modSocket s n (.refl _) id
  | accountCleared n => exact .modSocket s n (.cleared _ _) nofun
  | accountsCleared free =>
    refine ⟨by simp, by simp, fun n => ?_, fun n => ?_⟩ <;> rw [State.clearAccounts_socket]
    · exact .cleared _ _
    · intro (h : (s.socket n).scu.state.afterClear = .hold)
      have free := SocketState.afterClear_of_not_busy (State.not_busy_of_not_anyBusy free n)
      rw [h] at free
      exact absurd free (by decide)
  | railProfile n | calibration n | thermalProfile n | testProfile n => exact .modSocket s n (.refl _) id
  | ceiling mv =>
    have frame := s.setCeiling_frame mv
    refine ⟨by simp [frame], by simp [frame], fun n => ?_, fun n => ?_⟩ <;>
      rw [State.setCeiling_socket, State.retarget_socket]
    · split
      · rename_i e; exact .refl _
      · exact .refl _
    · split <;> exact id
  | feedLimit f mv => exact .setFeedLimit s f _
  | budget value =>
    have limited : s.Owned { s with budget := min value s.identity.budgetMax } := .of_sockets rfl rfl rfl
    exact limited.trans (.scale _)
  | verified pages => exact (State.Handled.verify pages s).owned
  | started e _ => exact (State.Handled.start s e).owned

/-! ### First causes -/

/-- After events that keep first causes, and requests that make none. -/
def State.FirstsFrom (s t : State) : Prop :=
  ∃ v, s.SettingsKept v ∧ ∀ n, (v.socket n).FirstOf (t.socket n)

theorem State.FirstsFrom.of_kept {s t : State} (h : s.SettingsKept t) : s.FirstsFrom t := ⟨t, h, fun _ => .refl _⟩

theorem State.FirstsFrom.next {s t u : State} (h : s.FirstsFrom t) (next : ∀ n, (t.socket n).FirstOf (u.socket n)) :
    s.FirstsFrom u := by
  obtain ⟨v, kept, first⟩ := h
  exact ⟨v, kept, fun n => (first n).trans (next n)⟩

theorem Socket.FirstOf.afterReset (k : Socket) (retain : Bool) : k.FirstOf (k.afterReset retain) := .refl k

theorem Socket.FirstOf.populate (k : Socket) (fitted : Bool) : k.FirstOf (k.populate fitted) := by
  unfold Socket.populate
  split_ifs
  · exact (Socket.Handled.moved k _).firstOf
  · exact .refl k
  · exact .refl k
  · exact (Socket.Handled.moved k _).firstOf

theorem State.FirstsFrom.exec {c : Instr} {s t : State} (ht : exec c s = .next t) : s.FirstsFrom t := by
  have settled := State.SettingsKept.settled s
  refine exec_ind (Q := s.FirstsFrom) ht
    (power := fun l => ⟨s, .refl s, fun n ff => ?_⟩)
    (expiry := fun e => .of_kept (.occur s e))
    (report := fun n kind => .of_kept ((State.SettingsKept.beforeReport s).trans (State.Steady.takeReport _ n kind).toSettingsKept))
    (settled := .of_kept settled)
    (seen := fun _ => (State.FirstsFrom.of_kept settled).next fun _ => .refl _)
    (load := fun _ i => (State.FirstsFrom.of_kept settled).next fun n => by
      rw [State.endLoad_socket]; exact .populate _ _)
    (sample := fun r => .of_kept (settled.trans (State.Steady.sampleTick _ r).toSettingsKept))
    (thermal := fun r => .of_kept (settled.trans (State.Steady.thermalTick _ r).toSettingsKept))
    (second := .of_kept (settled.trans (State.Steady.secondTick _).toSettingsKept))
    (vector := fun e r => .of_kept (settled.trans (State.Steady.vectorStep _ e r).toSettingsKept))
    (upset := fun _ => (State.FirstsFrom.of_kept settled).next fun _ => .refl _)
    (line := ⟨fun _ _ h => h.next fun _ => .refl _, fun _ _ h => h.next fun _ => .refl _, fun _ h => h.next fun _ => .refl _,
      fun _ _ h => h.next fun _ => .refl _, fun _ _ h => h.next fun n => by rw [State.boardReset_socket]; exact .afterReset _ _,
      fun _ _ _ _ ha h => h.next ha.owned.first⟩)
  have fresh : (({ State.reset with link := { State.reset.link with address := l }, pending := s.pending } : State).socket n) = {} :=
    State.reset_socket n
  rw [fresh] at ff
  exact nomatch ff

/-! ### HOLD while the board is UNATTENDED -/

/-- While the board is UNATTENDED a socket is in HOLD only if its release is among the expiries of a list. -/
def State.HeldBy (s : State) (l : List Expiry) : Prop :=
  s.link.mode = .unattended → ∀ n, (s.socket n).scu.state = .hold → .releases ∈ l

theorem State.HeldBy.steady {s t : State} {l l' : List Expiry} (h : s.HeldBy l) (st : s.Steady t) (sub : .releases ∈ l → .releases ∈ l') :
    t.HeldBy l' := fun un n hn =>
  have un' := st.mode.symm.trans un
  sub (h un' n (st.hold un' n hn))

theorem State.HeldBy.of_none {s : State} {l : List Expiry} (h : ∀ n, (s.socket n).scu.state ≠ .hold) : s.HeldBy l :=
  fun _ n hn => absurd hn (h n)

/-- A release changes the state of no other socket, and its own from HOLD to SAFE (R21). -/
theorem State.releaseUnattended_state (s : State) (n m : Sock) :
    ((s.releaseUnattended n).socket m).scu.state =
      if m = n ∧ (s.socket n).scu.state = .hold then .safe else (s.socket m).scu.state := by
  unfold State.releaseUnattended
  split
  next held =>
    rw [State.moveAdmit, State.evaluate_scu, State.move_socket, State.modAccount_socket]
    by_cases e : m = n
    · subst e; simp [held, Socket.moved, Record.moved]
    · simp [e]
  next free => simp [free]

/-- The releases of a list of sockets leave no socket of it in HOLD (R21). -/
theorem State.releases_state (m : Sock) : ∀ (l : List Sock) (s : State),
    ((l.foldl State.releaseUnattended s).socket m).scu.state =
      if m ∈ l ∧ (s.socket m).scu.state = .hold then .safe else (s.socket m).scu.state
  | [], s => by simp
  | n :: l, s => by
    rw [List.foldl_cons, State.releases_state m l, State.releaseUnattended_state]
    by_cases e : m = n
    · subst e
      by_cases held : (s.socket m).scu.state = .hold <;> simp [held]
    · simp [e]

theorem State.releaseAll_state (s : State) (m : Sock) :
    (s.releaseAll.socket m).scu.state = if (s.socket m).scu.state = .hold then .safe else (s.socket m).scu.state := by
  rw [State.releaseAll, State.raise_socket, State.releases_state]
  simp

theorem State.releaseAll_noHold (s : State) (m : Sock) : (s.releaseAll.socket m).scu.state ≠ .hold := by
  rw [State.releaseAll_state]
  split
  · simp
  · assumption

/-- Each expiry carried out leaves a socket in HOLD only if its release is still to come (R21, R162). -/
theorem State.HeldBy.fire {s : State} {e : Expiry} {l : List Expiry} (h : s.HeldBy (e :: l)) : (s.fire e).HeldBy l := by
  by_cases silence : e = .linkSilence
  · have none : s.goUnattended.releaseAll.HeldBy l := .of_none (State.releaseAll_noHold _)
    rw [silence]; exact none
  · by_cases releases : e = .releases
    · have none : s.releaseAll.HeldBy l := .of_none (State.releaseAll_noHold _)
      rw [releases]; exact none
    · exact h.steady (.fire s silence) fun mem => (List.mem_cons.mp mem).resolve_left fun e' => releases e'.symm

theorem State.HeldBy.fires {d : List Expiry} : ∀ (l : List Expiry) {s : State}, s.HeldBy (l ++ d) → (l.foldl State.fire s).HeldBy d
  | [], _, h => h
  | e :: l, _, h => State.HeldBy.fires l (State.HeldBy.fire (e := e) h)

theorem State.HeldBy.settled {s : State} (h : s.HeldBy s.due) : s.settled.HeldBy [] :=
  State.HeldBy.fires s.due (s := { s with due := [] }) (by rw [List.append_nil]; exact h)

/-- What is carried out up to a place of the list leaves the releases that stand behind it. -/
theorem State.HeldBy.firesTo {s : State} (h : s.HeldBy s.due) (k : Nat) :
    ((s.due.take k).foldl State.fire { s with due := s.due.drop k }).HeldBy (s.due.drop k) :=
  State.HeldBy.fires _ (s := { s with due := s.due.drop k }) (by rw [List.take_append_drop]; exact h)

theorem State.fires_due (l : List Expiry) (s : State) : (l.foldl State.fire s).due = s.due :=
  State.fires_keep State.due (by simp) l s

theorem State.AttendedOk.occur {s : State} (h : s.AttendedOk) (e : Expiry) : (s.occur e).AttendedOk := by
  unfold State.occur
  split
  · dsimp only
    rw [State.AttendedOk, State.fires_due]
    exact State.HeldBy.firesTo h _
  · exact h

theorem State.AttendedOk.beforeReport {s : State} (h : s.AttendedOk) : s.beforeReport.AttendedOk := by
  unfold State.beforeReport State.occurBefore
  split
  · exact fun _ _ _ => List.mem_cons_self
  · split
    · dsimp only
      rw [State.AttendedOk, State.fires_due]
      exact State.HeldBy.firesTo h _
    · rw [State.AttendedOk, State.settled_due]
      exact State.HeldBy.settled h

theorem State.takeReport_due (s : State) (n : Sock) (kind : ReportKind) :
    (s.takeReport n kind (·.taken n kind)).due = s.due := by
  have notices : ∀ (k : Nat) (t : State), (State.takeNotices n k t).due = t.due := by
    intro k
    induction k with
    | zero => exact fun _ => rfl
    | succ k ih =>
      intro t
      unfold State.takeNotices
      split
      · split
        · rw [ih]; rfl
        · rfl
      · rfl
  have taken : ∀ t : State, (t.taken n kind).due = t.due := by
    intro t
    cases kind <;> simp [State.taken]
  rcases s.takeReport_cases n kind (·.taken n kind) with ⟨-, e⟩ | ⟨-, e⟩ <;> rw [e]
  rw [notices, taken]
  rfl

theorem State.AttendedOk.exec {c : Instr} {s t : State} (h : s.AttendedOk) (ht : exec c s = .next t) : t.AttendedOk := by
  have settled : s.settled.HeldBy [] := State.HeldBy.settled h
  have later : ∀ {u : State}, s.settled.Steady u → u.AttendedOk := fun st => settled.steady st nofun
  have same : ∀ {u : State}, u.sockets = s.settled.sockets → u.link.mode = s.settled.link.mode → u.AttendedOk := by
    intro u sockets mode un n hn
    rw [State.socket_congr sockets] at hn
    exact nomatch settled (mode.symm.trans un) n hn
  refine exec_ind ht
    (power := fun l un n hn => ?_)
    (expiry := h.occur)
    (report := fun n kind un m hm => by
      rw [State.takeReport_due]
      exact State.HeldBy.steady h.beforeReport (State.Steady.takeReport _ n kind) id un m hm)
    (settled := same rfl rfl)
    (seen := fun _ => same rfl rfl)
    (load := fun _ i un n hn => ?_)
    (sample := fun r => later (.sampleTick _ r))
    (thermal := fun r => later (.thermalTick _ r))
    (second := later (.secondTick _))
    (vector := fun e r => later (.vectorStep _ e r))
    (upset := fun _ => same rfl rfl)
    (line := ⟨fun _ _ h => h, fun _ _ h => h, fun _ _ un => (nomatch un), fun _ _ h => h, fun s retain _ un => ?_,
      fun _ _ _ _ ha h un n hn => ?_⟩)
  · exact absurd (show Attendance.attended = .unattended from un) nofun
  · rw [State.endLoad_socket] at hn
    have held : (s.settled.socket n).scu.state = .hold := by
      revert hn
      unfold Socket.populate
      split_ifs
      · exact nofun
      · exact id
      · exact id
      · exact nofun
    exact nomatch settled (show s.settled.link.mode = .unattended by simpa [State.endLoad] using un) n held
  · have mode : (s.boardReset retain).link.mode = .attended := by simp [State.boardReset, Link.afterReset]
    exact absurd (mode.symm.trans un) nofun
  · rw [ha.owned.due]
    exact h (ha.owned.mode.symm.trans un) n (ha.owned.hold n hn)

/-! ### One silence expiry at most -/

/-- A link-silence expiry, whole or with its releases left. -/
def Expiry.isSilence (e : Expiry) : Bool := e == .linkSilence || e == .releases

/-- How many link-silence expiries a list holds. -/
def silences (l : List Expiry) : Nat := (l.filter Expiry.isSilence).length

theorem silences_append (l l' : List Expiry) : silences (l ++ l') = silences l + silences l' := by simp [silences]

theorem silences_le_of_sublist {l l' : List Expiry} (h : l.Sublist l') : silences l ≤ silences l' := (h.filter _).length_le

theorem silences_of_none {l : List Expiry} (h : ∀ e ∈ l, e.isSilence = false) : silences l = 0 := by
  simpa [silences, List.filter_eq_nil_iff] using h

theorem Rail.expiries_noSilence (r : Rail) (n : Sock) : ∀ e ∈ r.expiries n, e.isSilence = false := by
  intro e he
  simp only [Rail.expiries, List.mem_append] at he
  rcases he with ((he | he) | he) | he <;> split_ifs at he <;> simp only [List.mem_singleton, List.not_mem_nil] at he <;>
    (subst he; rfl)

theorem State.feedExpiries_noSilence (s : State) (f : FeedId) : ∀ e ∈ s.feedExpiries f, e.isSilence = false := by
  intro e he
  simp only [State.feedExpiries, List.mem_append, List.mem_flatten, List.mem_map] at he
  rcases he with ⟨l, ⟨n, -, rfl⟩, he⟩ | he
  · split at he
    · exact Rail.expiries_noSilence _ _ e he
    · simp at he
  · split at he
    · rw [List.mem_singleton.mp he]; rfl
    · simp at he

theorem State.calibrationExpiries_noSilence (s : State) : ∀ e ∈ s.calibrationExpiries, e.isSilence = false := by
  intro e he
  obtain ⟨n, -, rfl⟩ := List.mem_map.mp he
  rfl

theorem Heat.expiries_noSilence (h before : Heat) (r : Record) (n : Sock) : ∀ e ∈ h.expiries before r n, e.isSilence = false := by
  intro e he
  simp only [Heat.expiries, List.mem_append] at he
  rcases he with ((he | he) | he) | he <;> split_ifs at he <;> simp only [List.mem_singleton, List.not_mem_nil] at he <;>
    (subst he; rfl)

theorem Socket.timerExpiries_noSilence (k : Socket) (n : Sock) : ∀ e ∈ k.timerExpiries n, e.isSilence = false := by
  intro e he
  simp only [Socket.timerExpiries, List.mem_append] at he
  rcases he with he | he <;> split_ifs at he <;> simp only [List.mem_singleton, List.not_mem_nil] at he <;> (subst he; rfl)

theorem State.sampleTick_due (s : State) (readings : Vector SenseReading 16) :
    ∃ l, (s.sampleTick readings).due = s.due ++ l ∧ silences l = 0 := by
  have none : ∀ t : State, silences (t.feedExpiries .a ++ (t.feedExpiries .b ++ t.calibrationExpiries)) = 0 := fun t => by
    rw [silences_append, silences_append, silences_of_none (t.feedExpiries_noSilence .a),
      silences_of_none (t.feedExpiries_noSilence .b), silences_of_none t.calibrationExpiries_noSilence]
  simp only [State.sampleTick, State.modFeed_due, State.mapSockets_due, List.append_assoc]
  exact ⟨_, rfl, none _⟩

theorem State.limitReports_due (s : State) (n : Sock) : (s.limitReports n).due = s.due := by
  unfold State.limitReports
  dsimp only
  split_ifs <;> rfl

theorem State.thermalReport_silences (before : Vector Socket 16) (s : State) (n : Sock) :
    silences (State.thermalReport before s n).due = silences s.due := by
  have due : (State.thermalReport before s n).due = s.due ++ (s.socket n).heat.expiries (before.get n).heat (s.socket n).scu n := by
    unfold State.thermalReport
    dsimp only
    rw [State.limitReports_due]
    split <;> rfl
  rw [due, silences_append, silences_of_none (Heat.expiries_noSilence _ _ _ n), Nat.add_zero]

theorem State.scale_due (s : State) : s.scale.due = s.due := by
  unfold State.scale
  dsimp only
  split <;> rfl

theorem State.thermalTick_silences (s : State) (readings : Vector Int 16) :
    silences (s.thermalTick readings).due = silences s.due := by
  unfold State.thermalTick
  rw [foldl_keeps (fun t : State => silences t.due) _ fun t n => State.thermalReport_silences _ t n]
  rw [State.mapSockets_due, State.scale_due, State.mapSockets_due]

theorem State.accrueSocket_due (s : State) (n : Sock) : (s.accrueSocket n).due = s.due := by
  unfold State.accrueSocket
  dsimp only
  generalize (if s.eligible n = true then (s.socket n).credit.accrue (s.tickFactor n) else (s.socket n).credit) = credit
  split
  · split <;> rfl
  · rfl

theorem State.secondTick_silences (s : State) : silences s.secondTick.due ≤ silences s.due + 1 := by
  have accrued : ∀ t : State, t.accrueAll.due = t.due := fun t => foldl_keeps State.due _ State.accrueSocket_due _ t
  have timed : ∀ t : State, silences t.timers.due = silences t.due := by
    intro t
    have none : ∀ k : Sock → Socket, silences (allSocks.map fun n => (k n).timerExpiries n).flatten = 0 := fun k =>
      silences_of_none fun e he => by
        obtain ⟨l, hl, he⟩ := List.mem_flatten.mp he
        obtain ⟨n, -, rfl⟩ := List.mem_map.mp hl
        exact Socket.timerExpiries_noSilence _ _ e he
    simp only [State.timers, State.mapSockets_due, silences_append]
    rw [none fun n => (t.mapSockets fun _ k => { k with scu := k.scu.second }).socket n, Nat.add_zero]
  have silent : ∀ t : State, silences t.silenceTick.due ≤ silences t.due + 1 := by
    intro t
    unfold State.silenceTick
    split
    · exact Nat.le_succ _
    · dsimp only
      split
      · rw [silences_append]; exact Nat.le_refl _
      · exact Nat.le_succ _
  refine (silent _).trans (Nat.succ_le_succ ?_)
  have scrubbed : ∀ t : State, t.scrub.due = t.due := fun t => by simp
  rw [scrubbed, timed, accrued]

theorem State.SilenceOnce.occur {s : State} (h : s.SilenceOnce) (e : Expiry) : (s.occur e).SilenceOnce := by
  unfold State.occur
  split
  · dsimp only
    rw [State.SilenceOnce, State.fires_due]
    exact (silences_le_of_sublist (List.drop_sublist _ _)).trans h
  · exact h

/-- A list from the place of one of its members begins with it. -/
theorem drop_idxOf {l : List Expiry} {e : Expiry} (h : e ∈ l) : l.drop (l.idxOf e) = e :: (l.drop (l.idxOf e)).tail := by
  have lt := List.idxOf_lt_length_of_mem h
  rw [List.drop_eq_getElem_cons lt, List.getElem_idxOf lt]
  rfl

theorem State.SilenceOnce.beforeReport {s : State} (h : s.SilenceOnce) : s.beforeReport.SilenceOnce := by
  unfold State.beforeReport State.occurBefore
  split
  next silent =>
    dsimp only
    have due : ({ (s.due.take (s.due.idxOf .linkSilence)).foldl State.fire
          { s with due := s.due.drop (s.due.idxOf .linkSilence) } with
        due := .releases :: ((s.due.take (s.due.idxOf .linkSilence)).foldl State.fire
          { s with due := s.due.drop (s.due.idxOf .linkSilence) }).due.tail } : State).goUnattended.due =
        .releases :: (s.due.drop (s.due.idxOf .linkSilence)).tail := by
      simp [State.fires_due]
    rw [State.SilenceOnce, due]
    have behind : silences (s.due.drop (s.due.idxOf .linkSilence)) ≤ 1 :=
      (silences_le_of_sublist (List.drop_sublist _ _)).trans h
    rw [drop_idxOf silent] at behind
    exact behind
  · split
    · dsimp only
      rw [State.SilenceOnce, State.fires_due]
      exact (silences_le_of_sublist (List.drop_sublist _ _)).trans h
    · rw [State.SilenceOnce, State.settled_due]; exact Nat.zero_le _

theorem State.SilenceOnce.exec {c : Instr} {s t : State} (h : s.SilenceOnce) (ht : exec c s = .next t) : t.SilenceOnce := by
  have none : ∀ {u : State}, silences u.due ≤ silences s.settled.due + 1 → u.SilenceOnce := fun le => by
    rw [State.settled_due] at le
    exact le
  have same : ∀ {u : State}, u.due = s.settled.due → u.SilenceOnce := fun e => none (by rw [e]; exact Nat.le_succ _)
  refine exec_ind ht
    (power := fun l => Nat.zero_le _)
    (expiry := h.occur)
    (report := fun n kind => by rw [State.SilenceOnce, State.takeReport_due]; exact h.beforeReport)
    (settled := same rfl)
    (seen := fun _ => same rfl)
    (load := fun _ i => same (by simp [State.endLoad]))
    (sample := fun r => ?_)
    (thermal := fun r => none (by rw [State.thermalTick_silences]; exact Nat.le_succ _))
    (second := none (State.secondTick_silences _))
    (vector := fun e r => ?_)
    (upset := fun _ => same rfl)
    (line := ⟨fun _ _ h => h, fun _ _ h => h, fun _ h => h, fun _ _ h => h, fun s retain _ => ?_, fun _ _ _ _ ha h => ?_⟩)
  · obtain ⟨l, due, l0⟩ := s.settled.sampleTick_due r
    exact none (by rw [due, silences_append, l0]; exact Nat.le_succ _)
  · refine none ?_
    simp only [State.vectorStep]
    split
    · rw [silences_append]; exact Nat.le_succ _
    · exact Nat.le_succ _
  · have due : (s.boardReset retain).due = [] := by simp [State.boardReset]
    rw [State.SilenceOnce, due]; exact Nat.zero_le _
  · rw [State.SilenceOnce, ha.owned.due]; exact h

/-- Settles O60. -/
theorem firstCausesStayAndNoneIsHeldUnattended : Obligations.FirstCausesStayAndNoneIsHeldUnattended := by
  refine ⟨fun c s t n ht before after => ?_, fun c s t ht h => h.exec ht, fun c s t ht h => h.exec ht⟩
  obtain ⟨v, kept, first⟩ := State.FirstsFrom.exec ht
  obtain ⟨-, cause, time, credit⟩ := first n after
  obtain ⟨-, cause', time', credit'⟩ := (kept.sockets n).first before
  exact ⟨cause.trans cause', time.trans time', credit.trans credit'⟩

end Sys2Proof.Machine
end

section
/-!
PROOFS. Socket sets, a request heard on an open link, set requests socket by socket (R4), and one evaluation of admission between
the state before an event and the state after it (R34, R35).
-/

namespace Sys2Proof.Machine

/-! ### Socket sets (R183) -/

theorem SocketSet.ext {x y : SocketSet} (h : ∀ n, SocketSet.has x n = SocketSet.has y n) : x = y :=
  BitVec.eq_of_getLsbD_eq fun i hi => h ⟨i, hi⟩

@[simp] theorem SocketSet.has_single (n m : Sock) : SocketSet.has (single n) m = decide (m = n) := by
  simp [SocketSet.has, single, Fin.ext_iff, eq_comm]

@[simp] theorem SocketSet.has_or (x y : SocketSet) (n : Sock) :
    SocketSet.has (x ||| y) n = (SocketSet.has x n || SocketSet.has y n) := BitVec.getLsbD_or

@[simp] theorem SocketSet.has_and (x y : SocketSet) (n : Sock) :
    SocketSet.has (x &&& y) n = (SocketSet.has x n && SocketSet.has y n) := BitVec.getLsbD_and

@[simp] theorem SocketSet.has_zero (n : Sock) : SocketSet.has 0#16 n = false := by simp [SocketSet.has]

@[simp] theorem SocketSet.has_without (x : SocketSet) (n m : Sock) :
    SocketSet.has (SocketSet.without x n) m = (SocketSet.has x m && !decide (m = n)) := by
  have not : SocketSet.has (~~~ single n) m = !decide (m = n) := by
    rw [← SocketSet.has_single]
    simp [SocketSet.has]
  rw [SocketSet.without, SocketSet.has_and, not]

theorem setWhere_fold (p : Sock → Bool) (m : Sock) : ∀ (l : List Sock) (x : SocketSet),
    SocketSet.has (l.foldl (fun x n => if p n then x ||| single n else x) x) m = (SocketSet.has x m || (decide (m ∈ l) && p m))
  | [], x => by simp
  | n :: l, x => by
    rw [List.foldl_cons, setWhere_fold p m l]
    by_cases e : m = n
    · subst e
      cases h : p m <;> simp
    · cases h : p n <;> simp [e]

@[simp] theorem SocketSet.has_setWhere (p : Sock → Bool) (m : Sock) : SocketSet.has (setWhere p) m = p m := by
  simp [setWhere, setWhere_fold]

theorem filter_single (n : Sock) : allSocks.filter (SocketSet.has (single n)) = [n] := by
  have member : SocketSet.has (single n) = fun m => m == n := funext fun m => by
    rw [SocketSet.has_single]; rfl
  rw [member, List.filter_beq, List.count_eq_one_of_mem allSocks_nodup (mem_allSocks n)]
  rfl

/-! ### Numbers and sets as bytes (R183) -/

theorem nat16_le16 (n : Nat) (rest : List Byte) : nat16 (le16 n ++ rest) 0 = n % 65536 := by
  simp only [nat16, nat8, byteAt, le16, List.cons_append, List.nil_append, List.getD_cons_zero, List.getD_cons_succ,
    BitVec.toNat_ofNat]
  omega

theorem set16_le16 (x : BitVec 16) (rest : List Byte) : set16 (le16 x.toNat ++ rest) 0 = x := by
  rw [set16, nat16_le16, Nat.mod_eq_of_lt x.isLt]
  simp

theorem set16_set (x : BitVec 16) : set16 (le16 x.toNat) 0 = x := by simpa using set16_le16 x []

theorem sockOf_sockCode (n : Sock) : sockOf (sockCode n) = some n := by
  have lt : n.val % 256 = n.val := Nat.mod_eq_of_lt (by omega)
  simp [sockOf, sockCode, lt]

theorem sockOf_above {b : Byte} (h : 15 < b.toNat) : sockOf b = none := by
  unfold sockOf
  rw [dif_neg (by omega)]

theorem byteAt_single (b : Byte) : byteAt [b] 0 = b := rfl

/-! ### A request heard (R160, R163, R169) -/

@[simp] theorem State.heard_socket (s : State) (n : Sock) : s.heard.socket n = s.socket n := rfl
@[simp] theorem State.heard_feed (s : State) (f : FeedId) : s.heard.feed f = s.feed f := by simp [State.heard]
@[simp] theorem State.heard_events (s : State) : s.heard.events = s.events := rfl
@[simp] theorem State.heard_engine (s : State) : s.heard.engine = s.engine := rfl
@[simp] theorem State.heard_store (s : State) : s.heard.store = s.store := rfl
@[simp] theorem State.heard_log (s : State) : s.heard.log = s.log := rfl
@[simp] theorem State.heard_reports (s : State) : s.heard.reports = s.reports := rfl
@[simp] theorem State.heard_ceiling (s : State) : s.heard.ceiling = s.ceiling := rfl
@[simp] theorem State.heard_presence (s : State) : s.heard.presence = s.presence := rfl
@[simp] theorem State.heard_identity (s : State) : s.heard.identity = s.identity := rfl
@[simp] theorem State.heard_due (s : State) : s.heard.due = s.due := rfl
@[simp] theorem State.heard_phase (s : State) : s.heard.phase = s.phase := rfl

theorem State.Hears.seen {s : State} {dst : Byte} (h : s.Hears dst) (c : Instr) : (s.seen c).Hears dst := by
  cases c
  case armSockets => exact ⟨⟨h.due, h.phase, h.receiver, h.reply⟩, h.address, h.notBroadcast⟩
  all_goals exact h

/-- A request row heard on an open link: its owner carries it out, and its response is answered (R169, R172). -/
theorem State.Hears.exec_row {s : State} {dst : Byte} (h : s.Hears dst) {c : Instr} {k : RequestKind} {p : List Byte}
    (row : requestOfRow c = some (k, dst, p)) (length : k.lengthOk p.length = true) (short : p.length ≤ 250) :
    exec c s = .next ((k.carryOut p (s.seen c).heard).1.respond k.code (k.carryOut p (s.seen c).heard).2) := by
  have settled : s.settled = s := s.settled_of_none h.due
  obtain ⟨⟨due, phase, receiver, reply⟩, address, notBroadcast⟩ := h.seen c
  have listening : (s.seen c).listening = true := by simp [State.listening, phase, reply]
  have abandoned : (s.seen c).abandonReply = s.seen c := by simp [State.abandonReply, reply]
  rw [exec_request row, settled, State.requestOf, State.request, receiver]
  simp only [State.receiveRequest, listening, abandoned, phase, if_true, Config.maxPayload, short]
  rw [State.takeFrame_individual _ _ _ _ _ (Link.addressing_own address notBroadcast)]
  simp [State.takeIndividual, length, State.heard]

/-! ### Set requests socket by socket (R4) -/

/-- One socket of a set request: acted on or refused (R4). -/
def setStep (judge : State → Sock → Option Status) (act : State → Sock → State) (x : State × SetResult) (n : Sock) :
    State × SetResult :=
  match judge x.1 n with
  | none => (act x.1 n, x.2.add n none)
  | some reason => (x.1, x.2.add n (some reason))

theorem State.forSet_eq (s : State) (x : SocketSet) (judge : State → Sock → Option Status) (act : State → Sock → State) :
    s.forSet x judge act = (allSocks.filter (SocketSet.has x)).foldl (setStep judge act) (s, {}) := rfl

theorem State.forSet_single (s : State) (n : Sock) (judge : State → Sock → Option Status) (act : State → Sock → State) :
    s.forSet (single n) judge act = setStep judge act (s, {}) n := by
  rw [State.forSet_eq, filter_single, List.foldl_cons, List.foldl_nil]

/-- A set request of one socket that is acted on (R4). -/
theorem State.setRequest_acted {s : State} {n : Sock} {judge : State → Sock → Option Status} {act : State → Sock → State}
    (h : judge s n = none) :
    s.setRequest (le16 (single n).toNat) judge act =
      (act s n, .now .ok (le16 (single n).toNat ++ [0#8, 0#8])) := by
  unfold State.setRequest
  rw [set16_set, State.forSet_single]
  simp [setStep, h, SetResult.add, SetResult.response, le16]

/-- A set request of one socket that is refused (R4). -/
theorem State.setRequest_refused {s : State} {n : Sock} {judge : State → Sock → Option Status} {act : State → Sock → State}
    {r : Status} (h : judge s n = some r) :
    s.setRequest (le16 (single n).toNat) judge act =
      (s, .now .partly ([0#8, 0#8] ++ le16 (single n).toNat ++ [r.code])) := by
  have some : single n ≠ 0#16 := fun e => by simpa using congrArg (SocketSet.has · n) e
  unfold State.setRequest
  rw [set16_set, State.forSet_single]
  simp [setStep, h, SetResult.add, SetResult.response, le16, some]

/-- A set request of the empty set (R4). -/
theorem State.setRequest_empty (s : State) (judge : State → Sock → Option Status) (act : State → Sock → State) :
    s.setRequest [0#8, 0#8] judge act = (s, .now .ok [0#8, 0#8, 0#8, 0#8]) := by
  have none : allSocks.filter (SocketSet.has (set16 [0#8, 0#8] 0)) = [] := by decide
  unfold State.setRequest
  rw [State.forSet_eq, none]
  rfl

/-! ### One evaluation of admission (R34, R35) -/

/-- What an event about socket `n` has left when admission is to be evaluated: the lists of its feed and the reports as given, every
other feed and socket as it was, and of `n`'s rail what an admission does not set. -/
structure State.ListsLeft (s u : State) (n : Sock) (queue order : List Sock) (sent : List Report) : Prop where
  feed : u.feed (feedOf n) = { s.feed (feedOf n) with queue, order }
  others : ∀ g, g ≠ feedOf n → u.feed g = s.feed g
  sent : u.reports = sent
  socket : ∀ k, k ≠ n → u.socket k = s.socket k
  rail : (u.socket n).rail.off = (s.socket n).rail.off
  ceiling : u.ceiling = s.ceiling
  waits : ∀ k, k ≠ n → (k ∈ queue ↔ k ∈ (s.feed (feedOf n)).queue)

theorem State.ListsLeft.of_eq {s u : State} {n : Sock} {sent : List Report} (feed : ∀ f, u.feed f = s.feed f)
    (reports : u.reports = sent) (socket : ∀ k, k ≠ n → u.socket k = s.socket k)
    (rail : (u.socket n).rail.off = (s.socket n).rail.off) (ceiling : u.ceiling = s.ceiling) :
    s.ListsLeft u n (s.feed (feedOf n)).queue (s.feed (feedOf n)).order sent :=
  ⟨feed _, fun g _ => feed g, reports, socket, rail, ceiling, fun _ _ => Iff.rfl⟩

theorem Rail.off_moved (r : Rail) (st : SocketState) : (r.moved st).off = r.off := by
  unfold Rail.moved; split <;> rfl

section lists
variable {s u : State} {n : Sock} {queue order : List Sock} {sent : List Report} (h : s.ListsLeft u n queue order sent)
include h

/-- Its move out of the powered states takes `n` off both lists. -/
theorem State.ListsLeft.move_out {st : SocketState} (off : st.powered = false) :
    s.ListsLeft (u.move n st) n (queue.filter (· != n)) (order.filter (· != n)) sent where
  feed := by rw [State.move_feed, if_pos ⟨off, rfl⟩, h.feed]; rfl
  others g hg := by rw [State.move_feed, if_neg fun x => hg x.2, h.others g hg]
  sent := by simp [h.sent]
  socket k hk := by rw [State.move_socket, if_neg hk, h.socket k hk]
  rail := by
    rw [State.move_socket, if_pos rfl]
    exact (Rail.off_moved _ _).trans h.rail
  ceiling := by simp [h.ceiling]
  waits k hk := by simp [h.waits k hk, hk]

/-- Its move within the powered states leaves both lists. -/
theorem State.ListsLeft.move_in {st : SocketState} (on : st.powered = true) : s.ListsLeft (u.move n st) n queue order sent where
  feed := by rw [State.move_feed, if_neg (by simp [on]), h.feed]
  others g hg := by rw [State.move_feed, if_neg (by simp [on]), h.others g hg]
  sent := by simp [h.sent]
  socket k hk := by rw [State.move_socket, if_neg hk, h.socket k hk]
  rail := by
    rw [State.move_socket, if_pos rfl]
    exact (Rail.off_moved _ _).trans h.rail
  ceiling := by simp [h.ceiling]
  waits := h.waits

/-- `n` joins its queue at a place of its own. -/
theorem State.ListsLeft.join (place : List Sock → List Sock) (rest : ∀ l k, k ≠ n → (k ∈ place l ↔ k ∈ l)) :
    s.ListsLeft (u.modFeed (feedOf n) fun g => { g with queue := place g.queue }) n (place queue) order sent where
  feed := by rw [State.modFeed_feed, if_pos rfl, h.feed]
  others g hg := by rw [State.modFeed_feed, if_neg hg, h.others g hg]
  sent := by simp [h.sent]
  socket k hk := by rw [State.modFeed_socket, h.socket k hk]
  rail := by rw [State.modFeed_socket, h.rail]
  ceiling := by simp [h.ceiling]
  waits k hk := by rw [rest _ k hk, h.waits k hk]

theorem State.ListsLeft.profile : (u.socket n).rail.profile = (s.socket n).rail.profile :=
  (congrArg Rail.profile h.rail :)

theorem State.ListsLeft.admission (k : Sock) : u.admission k = s.admission k := by
  unfold State.admission
  by_cases e : k = n
  · subst e; rw [h.profile]
  · rw [h.socket k e]

theorem State.ListsLeft.granted {k : Sock} (hk : k ≠ n) : feedOf k = feedOf n → u.granted k = s.granted k := by
  intro hf
  have waits : u.inQueue k = s.inQueue k := by
    rw [Bool.eq_iff_iff, State.inQueue, State.inQueue, hf, h.feed, List.contains_iff_mem, List.contains_iff_mem]
    exact h.waits k hk
  rw [State.granted, State.granted, waits, h.socket k hk]

/-- With `n` not ramping, the feed ramps exactly when another socket does (log entry 11). -/
theorem State.ListsLeft.ramping_iff (notRamp : (u.socket n).scu.state ≠ .ramp) (notGranted : u.granted n = false) :
    u.ramping (feedOf n) = true ↔
      ∃ k, k ≠ n ∧ feedOf k = feedOf n ∧ ((s.socket k).scu.state = .ramp ∨ s.granted k = true) := by
  simp only [State.ramping, feedSocks, List.any_filter, List.any_eq_true, Bool.and_eq_true, Bool.or_eq_true, beq_iff_eq,
    mem_allSocks, true_and]
  constructor
  · rintro ⟨k, hf, hr⟩
    have ne : k ≠ n := by
      rintro rfl
      rcases hr with hr | hr
      · exact notRamp hr
      · exact absurd (hr.symm.trans notGranted) (by decide)
    exact ⟨k, ne, hf, by rwa [h.socket k ne, h.granted ne hf] at hr⟩
  · rintro ⟨k, ne, hf, hr⟩
    exact ⟨k, hf, by rwa [h.socket k ne, h.granted ne hf]⟩

/-- An evaluation of admission after the event is the one that R34 and R35 describe. -/
theorem State.ListsLeft.evaluated (notRamp : (u.socket n).scu.state ≠ .ramp) (notGranted : u.granted n = false) :
    s.EvaluatedTo (u.evaluate (feedOf n)) n queue order sent := by
  have queued : (u.feed (feedOf n)).queue = queue := by rw [h.feed]
  have committed : u.committed (feedOf n) = (order.map s.admission).sum := by
    rw [State.committed, h.feed, show u.admission = s.admission from funext h.admission]
  have limit : (u.feed (feedOf n)).limit = (s.feed (feedOf n)).limit := by rw [h.feed]
  have stays : u.evaluate (feedOf n) = u →
      (u.evaluate (feedOf n)).feed (feedOf n) = { s.feed (feedOf n) with queue, order } ∧
      (u.evaluate (feedOf n)).reports = sent ∧ ∀ k, k ≠ n → (u.evaluate (feedOf n)).socket k = s.socket k := fun e => by
    rw [e]; exact ⟨h.feed, h.sent, h.socket⟩
  have blocked := h.ramping_iff notRamp notGranted
  refine ⟨fun g hg => ?_, fun e => stays ?_, fun m rest e => ⟨fun no => stays ?_, fun free fits => ?_⟩⟩
  · rcases u.evaluate_cases (feedOf n) with e | ⟨m, rest, -, -, -, e⟩ <;> rw [e]
    · exact h.others g hg
    · simp [State.admitHead, hg, h.others g hg]
  · simp [State.evaluate, queued, e]
  · simp only [State.evaluate, queued, e, committed, h.admission, limit]
    refine if_neg fun x => ?_
    rcases no with no | no
    · rw [blocked.mpr no] at x; exact absurd x.1 (by decide)
    · exact no x.2
  · have free : u.ramping (feedOf n) = false := by
      rw [← Bool.not_eq_true]; exact fun x => free (blocked.mp x)
    have admits : u.evaluate (feedOf n) = u.admitHead (feedOf n) m rest := by
      simp only [State.evaluate, queued, e, committed, h.admission, limit]
      exact if_pos ⟨free, fits⟩
    have off : (u.socket m).rail.off = (s.socket m).rail.off := by
      by_cases e : m = n
      · subst e; exact h.rail
      · rw [h.socket m e]
    have profile : (u.socket m).rail.profile = (s.socket m).rail.profile := (congrArg Rail.profile off :)
    have rail : ((u.evaluate (feedOf n)).socket m).rail =
        (s.socket m).rail.admitted (min (s.socket m).rail.profile.setpoint s.ceiling) := by
      rw [admits, State.admitHead_socket, if_pos rfl]
      simp only [Rail.admitted, off, profile, h.ceiling]
    refine ⟨?_, ?_, ?_, fun ne => ?_, fun k hk hm => ?_⟩
    · rw [admits]; simp [State.admitHead, h.feed]
    · rw [admits]; simp [State.admitHead, h.sent]
    · rw [rail]; rfl
    · rw [State.evaluate_socket, h.socket m ne]
    · rw [admits, State.admitHead_socket, if_neg hm, h.socket k hk]

end lists

/-- An evaluation is judged by the feeds, the reports and the sockets alone. -/
theorem State.EvaluatedTo.congr {s t t' : State} {n : Sock} {queue order : List Sock} {sent : List Report}
    (h : s.EvaluatedTo t n queue order sent) (feed : ∀ f, t'.feed f = t.feed f) (reports : t'.reports = t.reports)
    (socket : ∀ k, t'.socket k = t.socket k) : s.EvaluatedTo t' n queue order sent := by
  unfold State.EvaluatedTo at h ⊢
  simpa only [feed, reports, socket] using h

/-- A socket that heads no queue is left alone by an evaluation. -/
theorem State.evaluate_socket_of_not_queued (s : State) (f : FeedId) (n : Sock) (h : n ∉ (s.feed f).queue) :
    (s.evaluate f).socket n = s.socket n := by
  rcases s.evaluate_cases f with e | ⟨m, rest, queue, -, -, e⟩ <;> rw [e]
  rw [State.admitHead_socket, if_neg]
  rintro rfl
  exact h (queue ▸ List.mem_cons_self)

/-- A socket QUEUED and on its queue is not granted. -/
theorem State.not_granted_of_mem {s : State} {n : Sock} (h : n ∈ (s.feed (feedOf n)).queue) : s.granted n = false := by
  simp [State.granted, State.inQueue, h]

theorem State.not_granted_of_state {s : State} {n : Sock} (h : (s.socket n).scu.state ≠ .queued) : s.granted n = false := by
  simp [State.granted, h]

end Sys2Proof.Machine
end

section
/-!
PROOFS. Set requests of one socket (R4, R5, R12 to R15): refused, armed, or moved by the operator.
-/

namespace Sys2Proof.Machine

@[simp] theorem State.answer_socket (s : State) (kind : Byte) (st : Status) (p : List Byte) (n : Sock) :
    (s.answer kind st p).socket n = s.socket n := rfl
@[simp] theorem State.answer_feed (s : State) (kind : Byte) (st : Status) (p : List Byte) (f : FeedId) :
    (s.answer kind st p).feed f = s.feed f := by cases f <;> rfl

@[simp] theorem State.answer_reports (s : State) (kind : Byte) (st : Status) (p : List Byte) :
    (s.answer kind st p).reports = s.reports := rfl

/-! ### A set request of one socket, heard -/

section heard
variable {s : State} {dst : Byte} (h : s.Hears dst) {c : Instr} {k : RequestKind} {judge : State → Sock → Option Status}
  {act : State → Sock → State} (carry : ∀ p s, k.carryOut p s = State.setRequest s p judge act) (two : k.lengthOk 2 = true)
include h carry two

theorem State.Hears.set_acted {n : Sock} (row : requestOfRow c = some (k, dst, le16 (single n).toNat))
    (passes : judge (s.seen c).heard n = none) :
    exec c s = .next ((act (s.seen c).heard n).answer k.code .ok (le16 (single n).toNat ++ [0#8, 0#8])) := by
  rw [h.exec_row row two (by simp [le16]), carry, State.setRequest_acted passes]
  rfl

theorem State.Hears.set_refused {n : Sock} (row : requestOfRow c = some (k, dst, le16 (single n).toNat)) {r : Status}
    (refuses : judge (s.seen c).heard n = some r) :
    exec c s = .next ((s.seen c).heard.answer k.code .partly ([0#8, 0#8] ++ le16 (single n).toNat ++ [r.code])) := by
  rw [h.exec_row row two (by simp [le16]), carry, State.setRequest_refused refuses]
  rfl

theorem State.Hears.set_empty (row : requestOfRow c = some (k, dst, [0#8, 0#8])) :
    exec c s = .next ((s.seen c).heard.answer k.code .ok [0#8, 0#8, 0#8, 0#8]) := by
  rw [h.exec_row row two (by decide), carry, State.setRequest_empty]
  rfl

end heard

theorem armSocketsKind_carryOut (p : List Byte) (s : State) :
    armSocketsKind.carryOut p s = s.setRequest p State.armJudge State.arm := rfl

theorem powerDownSocketsKind_carryOut (p : List Byte) (s : State) :
    powerDownSocketsKind.carryOut p s = s.setRequest p (fun t n => t.unless n SocketState.busy) State.powerDown := rfl

theorem pauseSocketsKind_carryOut (p : List Byte) (s : State) :
    pauseSocketsKind.carryOut p s =
      s.setRequest p (fun t n => t.unless n fun st => st == .run || st == .settle) fun t n => t.move n .pause := rfl

theorem resumeSocketsKind_carryOut (p : List Byte) (s : State) :
    resumeSocketsKind.carryOut p s = s.setRequest p (fun t n => t.unless n fun st => st == .pause) fun t n => t.move n .settle :=
  rfl

theorem releaseHoldKind_carryOut (p : List Byte) (s : State) :
    releaseHoldKind.carryOut p s = s.setRequest p (fun t n => t.unless n fun st => st == .hold) fun t n => t.moveAdmit n .safe :=
  rfl

/-- A socket outside the states that a request allows is refused, an absent one with ABSENT (R12 to R15). -/
theorem State.unless_refuses {s : State} {n : Sock} {allowed : SocketState → Bool} (h : allowed (s.socket n).scu.state = false) :
    s.unless n allowed = some (if (s.socket n).scu.state = .absent then .absent else .wrongState) := by
  unfold State.unless
  split <;> simp [h]

theorem State.unless_allows {s : State} {n : Sock} {allowed : SocketState → Bool} (h : allowed (s.socket n).scu.state = true)
    (absent : allowed .absent = false) : s.unless n allowed = none := by
  have present : (s.socket n).scu.state ≠ .absent := fun e => by rw [e, absent] at h; exact absurd h (by decide)
  simp [State.unless, present, h]

/-- Settles O15. -/
theorem setRequestsRefuseOtherStates : Obligations.SetRequestsRefuseOtherStates := by
  intro dst n s h set refused
  have code : ∀ allowed : SocketState → Bool, allowed (s.socket n).scu.state = false → ∃ r : Status,
      s.heard.unless n allowed = some r ∧ r.code = if (s.socket n).scu.state = .absent then 0x15#8 else 0x10#8 :=
    fun allowed no => ⟨_, State.unless_refuses no, by rw [State.heard_socket]; split <;> rfl⟩
  refine ⟨fun notRun notSettle => ?_, fun notPause => ?_, fun idle => ?_, fun notHold => ?_, fun present =>
    h.set_empty (c := .armSockets dst [0#8, 0#8] present) armSocketsKind_carryOut rfl rfl,
    h.set_empty (c := .powerDownSockets dst [0#8, 0#8]) powerDownSocketsKind_carryOut rfl rfl,
    h.set_empty (c := .pauseSockets dst [0#8, 0#8]) pauseSocketsKind_carryOut rfl rfl,
    h.set_empty (c := .resumeSockets dst [0#8, 0#8]) resumeSocketsKind_carryOut rfl rfl,
    h.set_empty (c := .releaseHold dst [0#8, 0#8]) releaseHoldKind_carryOut rfl rfl⟩
  · obtain ⟨r, refuses, hr⟩ := code (fun st => st == .run || st == .settle) (by simp [notRun, notSettle])
    simp only [refused, ← hr]
    exact h.set_refused (c := .pauseSockets dst set) pauseSocketsKind_carryOut rfl rfl refuses
  · obtain ⟨r, refuses, hr⟩ := code (fun st => st == .pause) (by simp [notPause])
    simp only [refused, ← hr]
    exact h.set_refused (c := .resumeSockets dst set) resumeSocketsKind_carryOut rfl rfl refuses
  · obtain ⟨r, refuses, hr⟩ := code SocketState.busy idle
    simp only [refused, ← hr]
    exact h.set_refused (c := .powerDownSockets dst set) powerDownSocketsKind_carryOut rfl rfl refuses
  · obtain ⟨r, refuses, hr⟩ := code (fun st => st == .hold) (by simp [notHold])
    simp only [refused, ← hr]
    exact h.set_refused (c := .releaseHold dst set) releaseHoldKind_carryOut rfl rfl refuses

/-! ### Arm Sockets of one socket (R5) -/

/-- The checks of R5 judge the socket, its feed and the presence lines. -/
theorem State.armJudge_heard (s : State) (present : SocketSet) (n : Sock) :
    ({ s with presence := present } : State).heard.armJudge n =
      (if (s.socket n).scu.state = .absent then some Status.absent
        else if (s.socket n).scu.state ≠ .off then some .wrongState
        else if ¬((s.socket n).rail.written = true ∧ (s.socket n).heat.written = true ∧ (s.socket n).lane.written = true) then
          some .noProfile
        else if (s.socket n).rail.calibration.isSome then some .calibrating
        else if (s.socket n).rail.faulted then some .senseFault
        else if SocketSet.has present n = false then some .notPresent
        else if (s.feed (feedOf n)).limit < s.admission n then some .overFeed
        else none) := by
  have socket : ({ s with presence := present } : State).heard.socket n = s.socket n := rfl
  have feed : ({ s with presence := present } : State).heard.feed (feedOf n) = s.feed (feedOf n) := by
    rw [State.heard_feed]; exact State.feed_congr rfl rfl _
  unfold State.armJudge
  simp only [socket, feed, State.admission, State.heard_presence]
  congr 3
  simp only [Bool.and_eq_false_iff, not_and_or, Bool.not_eq_true, or_assoc]

/-- An evaluation of admission moves no other socket. -/
theorem State.ListsLeft.othersStay {s u : State} {n : Sock} {queue order : List Sock} {sent : List Report}
    (h : s.ListsLeft u n queue order sent) (f : FeedId) : s.OthersStay (u.evaluate f) n := fun m hm => by
  rw [State.evaluate_scu, h.socket m hm]

/-- The lists with `n` at its place among those that wait. -/
theorem State.ListsLeft.queued_notGranted {s u : State} {n : Sock} {queue order : List Sock} {sent : List Report}
    (h : s.ListsLeft u n queue order sent) (mem : n ∈ queue) : u.granted n = false :=
  State.not_granted_of_mem (by rw [h.feed]; exact mem)

/-- Settles O13. -/
theorem armingOneSocket : Obligations.ArmingOneSocket := by
  intro dst n present s h
  have heard := h.seen (.armSockets dst (le16 (single n).toNat) present)
  constructor
  · intro off rail heat lane calibration faulted here fits
    have passes : ({ s with presence := present } : State).heard.armJudge n = none := by
      rw [State.armJudge_heard]
      simp [off, rail, heat, lane, calibration, faulted, here, fits]
    refine ⟨_, h.set_acted (c := .armSockets dst (le16 (single n).toNat) present) armSocketsKind_carryOut rfl rfl
      passes, ?_⟩
    set v := (s.seen (.armSockets dst (le16 (single n).toNat) present)).heard with hv
    have socket : ∀ m, v.socket m = s.socket m := fun _ => rfl
    have feed : ∀ f, v.feed f = s.feed f := fun f => by rw [hv, State.heard_feed]; exact State.feed_congr rfl rfl f
    have armed : s.ListsLeft (v.modSocket n Socket.armed) n _ _ s.reports :=
      .of_eq (fun f => by rw [State.modSocket_feed, feed]) rfl (fun k hk => by rw [State.modSocket_socket, if_neg hk, socket])
        (by rw [State.modSocket_socket, if_pos rfl]; rfl) rfl
    have left := (armed.move_out (st := .queued) rfl).join (· ++ [n]) fun l k hk => by simp [hk]
    set u := ((v.modSocket n Socket.armed).move n .queued).modFeed (feedOf n) fun g => { g with queue := g.queue ++ [n] } with hu
    have after : u.socket n = (s.socket n).armed.moved .queued := by
      simp [hu, socket]
    have t : ∀ m, (v.arm n).socket m = { u.socket m with rail := ((u.evaluate (feedOf n)).socket m).rail } := fun m =>
      State.evaluate_socket u (feedOf n) m
    have evaluated := left.evaluated (by rw [after]; simp [Socket.moved, Record.moved])
      (left.queued_notGranted (by simp))
    simp only [State.answer_socket, t, after]
    refine ⟨rfl, rfl, rfl, rfl, rfl, rfl, rfl, rfl, rfl, rfl, left.othersStay _, ?_, ?_, ?_,
      evaluated.congr (fun f => by simp [State.arm, hu]) rfl fun k => rfl, rfl⟩
    all_goals simp [State.answer, State.arm, hv, State.seen]
  · intro reason hr r refuses
    refine h.set_refused (c := .armSockets dst (le16 (single n).toNat) present) armSocketsKind_carryOut rfl rfl ?_
    exact (State.armJudge_heard s present n).trans (hr.symm.trans refuses)

/-! ### The operator's moves (R12 to R15) -/

theorem Heat.moved_out (h : Heat) {before st : SocketState} (off : st.powered = false) :
    (h.moved before st).demand = 0 ∧ (h.moved before st).duty = 0 ∧ (h.moved before st).accumulator = 0 ∧
    (h.moved before st).limited = false ∧ (h.moved before st).lastLimited = h.lastLimited := by
  simp [Heat.moved, off, Heat.off]

/-- A socket that leaves the powered states heads no queue, and the evaluation of admission leaves it as moved (R2, R36, R64). -/
theorem State.moveAdmit_socket_self (s : State) (n : Sock) {st : SocketState} (off : st.powered = false) :
    (s.moveAdmit n st).socket n = (s.socket n).moved st := by
  rw [State.moveAdmit, State.evaluate_socket_of_not_queued _ _ _ ?_, State.move_socket, if_pos rfl]
  rw [State.move_feed, if_pos ⟨off, rfl⟩]
  simp [Feed.leave]

theorem Socket.moved_rail_off (k : Socket) {st : SocketState} (off : st.powered = false) :
    (k.moved st).rail.commanded = 0 ∧ (k.moved st).rail.output = 0 ∧ (k.moved st).rail.qualified = false ∧
    (k.moved st).rail.motion = .still := by
  obtain ⟨commanded, output, motion, qualified, -⟩ := Rail.isOff_moved k.rail off
  exact ⟨commanded, output, qualified, motion⟩

/-- Power Down moves the socket, and evaluates admission unless it stood behind the head of its queue (R14, R34). -/
theorem State.powerDown_eq (s : State) (n : Sock) :
    s.powerDown n =
      if s.behindHead n then s.move n (if (s.socket n).scu.state = .hold then .safe else .off)
      else (s.move n (if (s.socket n).scu.state = .hold then .safe else .off)).evaluate (feedOf n) := rfl

/-- Settles O14. -/
theorem operatorMovesOneSocket : Obligations.OperatorMovesOneSocket := by
  intro dst n s h set queue order answered off unchanged
  have heard : s.ListsLeft s.heard n queue order s.reports :=
    .of_eq s.heard_feed rfl (fun _ _ => rfl) rfl rfl
  have offAfter : ∀ {t : State} {st : SocketState}, st.powered = false → t.socket n = (s.socket n).moved st → off t := by
    intro t st unpowered socket
    obtain ⟨commanded, output, qualified, motion⟩ := (s.socket n).moved_rail_off unpowered
    obtain ⟨demand, duty, accumulator, limited, last⟩ := (s.socket n).heat.moved_out (before := (s.socket n).scu.state) unpowered
    simp only [off, socket]
    exact ⟨commanded, output, qualified, motion, demand, duty, accumulator, limited, last⟩
  have answeredAfter : ∀ {v : State} {st : SocketState} (kind : Byte), (v.socket n = (s.socket n).moved st) → s.OthersStay v n →
      v.log = s.log → v.store = s.store → answered kind (v.answer kind .ok (set ++ [0#8, 0#8])) := by
    intro v st kind socket others log store
    simp only [answered, State.answer_socket, socket]
    exact ⟨rfl, others, log, store, rfl, rfl, rfl⟩
  have moved : ∀ st, (s.heard.move n st).socket n = (s.socket n).moved st := fun st => by simp
  have apart : ∀ st k, k ≠ n → (s.heard.move n st).socket k = s.socket k := fun st k hk => by simp [hk]
  have stay : ∀ st, s.OthersStay (s.heard.move n st) n := fun st k hk => by rw [apart st k hk]
  have within : ∀ st kind, st.powered = true → unchanged ((s.heard.move n st).answer kind .ok (set ++ [0#8, 0#8])) :=
    fun st kind on => ⟨fun f => by
      rw [State.answer_feed, State.move_feed, if_neg (by simp [on]), State.heard_feed], by simp [State.answer], fun k hk => by
      rw [State.answer_socket]; exact apart st k hk⟩
  refine ⟨fun from_ => ?_, fun pause => ?_, fun busy => ?_, fun hold => ?_⟩
  · have passes : s.heard.unless n (fun st => st == .run || st == .settle) = none :=
      State.unless_allows (by rcases from_ with e | e <;> simp [e]) rfl
    refine ⟨_, h.set_acted (c := .pauseSockets dst set) pauseSocketsKind_carryOut rfl rfl passes, ?_, ?_, ?_, ?_, ?_,
      within .pause _ rfl, answeredAfter _ (moved .pause) (stay .pause) (by simp [State.seen]) (by simp [State.seen])⟩
    · exact congrArg (fun k => k.scu.state) (moved .pause)
    · exact congrArg (fun k => k.scu.settledMark) (moved .pause)
    · exact congrArg (fun k => k.scu.cleanRun) (moved .pause)
    · have left := (s.heard.move_sets n .pause).2.1
      show SocketSet.has (s.heard.move n .pause).engine.participants n = false
      rw [left]
      simp [Engine.follow]
    · exact congrArg (fun k => k.rail.output) (moved .pause)
  · have passes : s.heard.unless n (fun st => st == .pause) = none :=
      State.unless_allows (by simp [pause]) rfl
    refine ⟨_, h.set_acted (c := .resumeSockets dst set) resumeSocketsKind_carryOut rfl rfl passes, ?_, ?_, ?_, ?_,
      within .settle _ rfl, answeredAfter _ (moved .settle) (stay .settle) (by simp [State.seen]) (by simp [State.seen])⟩
    · exact congrArg (fun k => k.scu.state) (moved .settle)
    · exact congrArg (fun k => k.scu.settleTimer) (moved .settle)
    · exact congrArg (fun k => k.scu.settledMark) (moved .settle)
    · exact congrArg (fun k => k.heat.inWindowCount) (moved .settle)
  · have passes : s.heard.unless n SocketState.busy = none := State.unless_allows busy rfl
    have down := s.heard.powerDown_eq n
    set st : SocketState := if (s.heard.socket n).scu.state = .hold then .safe else .off with hst
    have unpowered : st.powered = false := by rw [hst]; split <;> rfl
    have left := heard.move_out unpowered
    have done : (s.heard.powerDown n).socket n = (s.socket n).moved st := by
      rw [down]
      split
      · exact moved st
      · exact s.heard.moveAdmit_socket_self n unpowered
    have others : s.OthersStay (s.heard.powerDown n) n := by
      rw [down]
      split
      · exact stay st
      · exact left.othersStay _
    have behind : s.heard.behindHead n = true ↔ n ∈ queue.tail := by
      rw [State.behindHead, State.heard_feed, List.contains_iff_mem]
    refine ⟨_, h.set_acted (c := .powerDownSockets dst set) powerDownSocketsKind_carryOut rfl rfl passes, ?_,
      offAfter unpowered done, fun tail => ?_, fun head => ?_, answeredAfter _ done others ?_ ?_⟩
    · exact congrArg (fun k => k.scu.state) done
    · rw [if_pos (behind.mpr tail)] at down
      simp only [State.seen, State.answer_socket, State.answer_feed, State.answer_reports, down]
      exact ⟨left.others, left.sent, left.feed, left.socket⟩
    · rw [if_neg fun x => head (behind.mp x)] at down
      simp only [State.seen, down]
      refine (left.evaluated ?_ (State.not_granted_of_state ?_)).congr (fun f => State.answer_feed _ _ _ _ f) rfl fun _ => rfl
      · rw [moved st, hst]; split <;> simp [Socket.moved, Record.moved]
      · rw [moved st, hst]; split <;> simp [Socket.moved, Record.moved]
    · show (s.heard.powerDown n).log = s.log
      rw [down]; split <;> simp
    · show (s.heard.powerDown n).store = s.store
      rw [down]; split <;> simp
  · have passes : s.heard.unless n (fun st => st == .hold) = none := State.unless_allows (by simp [hold]) rfl
    have socket : (s.heard.moveAdmit n .safe).socket n = (s.socket n).moved .safe :=
      s.heard.moveAdmit_socket_self n rfl
    refine ⟨_, h.set_acted (c := .releaseHold dst set) releaseHoldKind_carryOut rfl rfl passes, ?_,
      offAfter rfl socket, ?_, answeredAfter _ socket ((heard.move_out rfl).othersStay _) (by simp [State.seen]) (by simp [State.seen])⟩
    · exact congrArg (fun k => k.scu.state) socket
    · exact ((heard.move_out (st := .safe) rfl).evaluated (by simp [Socket.moved, Record.moved])
        (State.not_granted_of_state (by simp [Socket.moved, Record.moved]))).congr (fun f => State.answer_feed _ _ _ _ f) rfl
          fun _ => rfl

end Sys2Proof.Machine
end

section
/-!
PROOFS. A set request takes its sockets in ascending order (R4): a set with a socket above all others is the set of the others and
then that socket.
-/

namespace Sys2Proof.Machine

/-! ### The result of a set request -/

/-- What a set request has answered for the sockets of a list: each is acted on or refused, none both, with a reason for each
refused (R4). -/
structure SetResult.Covers (r : SetResult) (l : List Sock) : Prop where
  all : ∀ m, (SocketSet.has r.acted m || SocketSet.has r.refused m) = decide (m ∈ l)
  once : ∀ m, (SocketSet.has r.acted m && SocketSet.has r.refused m) = false
  reasons : r.reasons.length = SocketSet.size r.refused

theorem SocketSet.size_or_single {x : SocketSet} {n : Sock} (fresh : SocketSet.has x n = false) :
    SocketSet.size (x ||| single n) = SocketSet.size x + 1 := by
  have member : SocketSet.has (x ||| single n) = fun m => SocketSet.has x m || m == n := funext fun m => by
    rw [SocketSet.has_or, SocketSet.has_single]; rfl
  have perm : (allSocks.filter (SocketSet.has (x ||| single n))).Perm (n :: allSocks.filter (SocketSet.has x)) := by
    rw [List.perm_ext_iff_of_nodup (allSocks_nodup.filter _)
      (List.nodup_cons.mpr ⟨by simp [fresh], allSocks_nodup.filter _⟩), member]
    intro m
    simp [or_comm]
  exact perm.length_eq

theorem SetResult.Covers.add {r : SetResult} {l : List Sock} (h : r.Covers l) {n : Sock} (fresh : n ∉ l) (o : Option Status) :
    (r.add n o).Covers (l ++ [n]) := by
  have none := h.all n
  simp only [fresh, decide_false, Bool.or_eq_false_iff] at none
  obtain ⟨freshActed, freshRefused⟩ := none
  cases o with
  | none =>
    refine ⟨fun m => ?_, fun m => ?_, h.reasons⟩
    · have all := h.all m
      simp only [SetResult.add, SocketSet.has_or, SocketSet.has_single, List.mem_append, List.mem_singleton, Bool.decide_or,
        ← all]
      cases SocketSet.has r.acted m <;> cases SocketSet.has r.refused m <;> simp
    · have once := h.once m
      simp only [SetResult.add, SocketSet.has_or, SocketSet.has_single]
      by_cases e : m = n
      · subst e; simp [freshRefused]
      · simpa [e] using once
  | some reason =>
    refine ⟨fun m => ?_, fun m => ?_, ?_⟩
    · have all := h.all m
      simp only [SetResult.add, SocketSet.has_or, SocketSet.has_single, List.mem_append, List.mem_singleton, Bool.decide_or,
        ← all, Bool.or_assoc]
    · have once := h.once m
      simp only [SetResult.add, SocketSet.has_or, SocketSet.has_single]
      by_cases e : m = n
      · subst e; simp [freshActed]
      · simpa [e] using once
    · simp only [SetResult.add, List.length_append, List.length_singleton, h.reasons]
      rw [SocketSet.size_or_single freshRefused]

theorem SetResult.covers_empty : ({} : SetResult).Covers [] := by
  refine ⟨fun m => by simp, fun m => by simp, ?_⟩
  decide

section steps
variable {judge : State → Sock → Option Status} {act : State → Sock → State}

theorem setStep_covers {x : State × SetResult} {l : List Sock} (h : x.2.Covers l) {n : Sock} (fresh : n ∉ l) :
    (setStep judge act x n).2.Covers (l ++ [n]) := by
  unfold setStep
  cases judge x.1 n with
  | none => exact h.add fresh none
  | some reason => exact h.add fresh (some reason)

theorem setSteps_covers : ∀ (l before : List Sock) {x : State × SetResult}, x.2.Covers before → (before ++ l).Nodup →
    (l.foldl (setStep judge act) x).2.Covers (before ++ l)
  | [], before, x, h, _ => by simpa using h
  | n :: l, before, x, h, once => by
    have fresh : n ∉ before := fun mem => (List.nodup_append.mp once).2.2 n mem n List.mem_cons_self rfl
    have covers := setSteps_covers l (before ++ [n]) (setStep_covers (judge := judge) (act := act) h fresh) (by simpa using once)
    simpa using covers

theorem State.forSet_covers (s : State) (x : SocketSet) :
    (s.forSet x judge act).2.Covers (allSocks.filter (SocketSet.has x)) := by
  rw [State.forSet_eq]
  exact setSteps_covers _ [] SetResult.covers_empty (allSocks_nodup.filter _)

theorem SetResult.Covers.of_filter {r : SetResult} {x : SocketSet} (h : r.Covers (allSocks.filter (SocketSet.has x))) :
    r.acted ||| r.refused = x ∧ r.acted &&& r.refused = 0#16 :=
  ⟨SocketSet.ext fun m => by simp [h.all m], SocketSet.ext fun m => by simp [h.once m]⟩

/-- The sockets of a set and one above them, in ascending order. -/
theorem filter_above {x : SocketSet} {n : Sock} (above : ∀ m, SocketSet.has x m = true → m < n) :
    allSocks.filter (SocketSet.has (x ||| single n)) = allSocks.filter (SocketSet.has x) ++ [n] := by
  have sorted : (allSocks.filter (SocketSet.has x) ++ [n]).Pairwise (· < ·) := by
    rw [List.pairwise_append]
    refine ⟨(List.pairwise_lt_finRange 16).filter _, List.pairwise_singleton _ _, fun a ha b hb => ?_⟩
    rw [List.mem_singleton.mp hb]
    exact above a (List.mem_filter.mp ha).2
  refine List.Perm.eq_of_pairwise (le := (· < ·)) (fun a b _ _ h h' => absurd h (lt_asymm h')) ((List.pairwise_lt_finRange 16).filter _) sorted ?_
  rw [List.perm_ext_iff_of_nodup (allSocks_nodup.filter _) (sorted.imp fun h => ne_of_lt h)]
  intro m
  simp

/-- A set with a socket above all others does what the set of the others does, then what the one socket does (R4). -/
theorem State.forSet_above (s : State) {x : SocketSet} {n : Sock} (above : ∀ m, SocketSet.has x m = true → m < n) :
    s.forSet (x ||| single n) judge act = setStep judge act (s.forSet x judge act) n := by
  rw [State.forSet_eq, filter_above above, List.foldl_append, List.foldl_cons, List.foldl_nil, ← State.forSet_eq]

/-- One socket does to the state and answers what it would alone. -/
theorem setStep_alone (s : State) (r : SetResult) (n : Sock) :
    (setStep judge act (s, r) n).1 = (s.forSet (single n) judge act).1 ∧
    (setStep judge act (s, r) n).2.acted = r.acted ||| (s.forSet (single n) judge act).2.acted ∧
    (setStep judge act (s, r) n).2.refused = r.refused ||| (s.forSet (single n) judge act).2.refused ∧
    (setStep judge act (s, r) n).2.reasons = r.reasons ++ (s.forSet (single n) judge act).2.reasons := by
  rw [State.forSet_single]
  unfold setStep
  dsimp only
  split <;> simp [SetResult.add]

end steps

/-! ### The five set requests -/

/-- What a set request answers in a state. -/
def SetResult.reply (r : SetResult) (s : State) (kind : Byte) : ReplySlot :=
  .pending (s.assemble kind (if r.refused = 0#16 then .ok else .partly)
    (le16 r.acted.toNat ++ le16 r.refused.toNat ++ r.reasons.map Status.code)) none

/-- A row of a set request: its kind carries out a set request whose acts leave the link, the presence lines, the phase and what is
due as they are, and the row brings presence lines, or none. -/
structure SetRow (row : List Byte → Instr) (k : RequestKind) (dst : Byte) (judge : State → Sock → Option Status)
    (act : State → Sock → State) : Prop where
  carry : ∀ p s, k.carryOut p s = State.setRequest s p judge act
  two : k.lengthOk 2 = true
  names : ∀ p, requestOfRow (row p) = some (k, dst, p)
  handled : ∀ t n, State.Handled t (act t n)
  seen : ∃ lines : SocketSet → SocketSet, (∀ s p, State.seen s (row p) = { s with presence := lines s.presence }) ∧
    ∀ x, lines (lines x) = lines x

/-- A state whose link is that of a request heard is the one heard, its reply and its link put back. -/
theorem State.heard_again {s f : State} {x : SocketSet} {lines : SocketSet → SocketSet} {r : ReplySlot}
    (presence : lines f.presence = f.presence) (link : f.link = ({ s with presence := x } : State).heard.link) :
    ({ ({ f.withReply r with link := s.link } : State) with
        presence := lines ({ f.withReply r with link := s.link } : State).presence } : State).heard = f := by
  have kept : lines ({ f.withReply r with link := s.link } : State).presence = f.presence := presence
  rw [kept]
  cases f
  dsimp only at link
  subst link
  rfl

section rows
variable {row : List Byte → Instr} {k : RequestKind} {dst : Byte} {judge : State → Sock → Option Status}
  {act : State → Sock → State} (h : SetRow row k dst judge act)
include h

theorem SetRow.exec {s : State} (hears : s.Hears dst) (x : SocketSet) :
    exec (row (le16 x.toNat)) s = .next (((s.seen (row (le16 x.toNat))).heard.forSet x judge act).1.withReply
      (((s.seen (row (le16 x.toNat))).heard.forSet x judge act).2.reply
        ((s.seen (row (le16 x.toNat))).heard.forSet x judge act).1 k.code)) := by
  have length : k.lengthOk (le16 x.toNat).length = true := h.two
  rw [hears.exec_row (h.names _) length (by simp [le16]), h.carry]
  unfold State.setRequest
  rw [set16_set]
  rfl

/-- The statement about sets of several sockets, for one row (R4). -/
theorem SetRow.inOrder {s : State} (hears : s.Hears dst) {x : SocketSet} {n : Sock}
    (above : ∀ m, SocketSet.has x m = true → m < n) :
    let reply (t : State) (acted refused : SocketSet) (reasons : List Byte) :=
      t.link.reply = .pending (t.assemble k.code (if refused = 0#16 then .ok else .partly)
        (le16 acted.toNat ++ le16 refused.toNat ++ reasons)) none
    ∃ (v u t : State) (a₁ r₁ a₂ r₂ : SocketSet) (why₁ why₂ : List Byte),
      Machine.exec (row (le16 x.toNat)) s = .next v ∧ reply v a₁ r₁ why₁ ∧ a₁ ||| r₁ = x ∧ a₁ &&& r₁ = 0#16 ∧
      Machine.exec (row (le16 (single n).toNat)) { v with link := s.link } = .next u ∧ reply u a₂ r₂ why₂ ∧
      a₂ ||| r₂ = single n ∧ a₂ &&& r₂ = 0#16 ∧
      Machine.exec (row (le16 (x ||| single n).toNat)) s = .next t ∧ reply t (a₁ ||| a₂) (r₁ ||| r₂) (why₁ ++ why₂) ∧
      why₁.length = SocketSet.size r₁ ∧ why₂.length = SocketSet.size r₂ ∧ t = { u with link := t.link } ∧
      t.link = { v.link with reply := t.link.reply } := by
  obtain ⟨lines, seen, idem⟩ := h.seen
  set w := ({ s with presence := lines s.presence } : State).heard with hw
  set first := w.forSet x judge act with hfirst
  have handled : w.Handled first.1 := .forSet w x judge act h.handled
  have link : first.1.link = w.link := handled.link
  set second := first.1.forSet (single n) judge act with hsecond
  have again : ∀ r : ReplySlot, (({ first.1.withReply r with link := s.link } : State).seen (row (le16 (single n).toNat))).heard =
      first.1 := by
    intro r
    have presence : lines first.1.presence = first.1.presence := by
      rw [handled.presence]; exact idem s.presence
    rw [seen]
    exact State.heard_again presence link
  have hears' : ∀ r : ReplySlot, ({ first.1.withReply r with link := s.link } : State).Hears dst := fun r =>
    ⟨⟨handled.due.trans hears.due, handled.phase.trans hears.phase, hears.receiver, hears.reply⟩, hears.address, hears.notBroadcast⟩
  obtain ⟨state, acted, refused, reasons⟩ := setStep_alone (judge := judge) (act := act) first.1 first.2 n
  have whole : w.forSet (x ||| single n) judge act = setStep judge act first n := w.forSet_above above
  obtain ⟨union₁, disjoint₁⟩ := (w.forSet_covers (judge := judge) (act := act) x).of_filter
  obtain ⟨union₂, disjoint₂⟩ := (first.1.forSet_covers (judge := judge) (act := act) (single n)).of_filter
  have both := (h.exec hears (x ||| single n)).trans (by rw [seen, ← hw, whole])
  have one := h.exec (hears' (first.2.reply first.1 k.code)) (single n)
  rw [again] at one
  have others := h.exec hears x
  rw [seen] at others
  refine ⟨_, _, _, first.2.acted, first.2.refused, second.2.acted, second.2.refused, first.2.reasons.map Status.code,
    second.2.reasons.map Status.code, others, rfl, union₁, disjoint₁, one, rfl, union₂, disjoint₂, both, ?_, ?_, ?_, ?_, ?_⟩
  · show SetResult.reply _ _ _ = _
    simp only [SetResult.reply, acted, refused, reasons, List.map_append]
    rfl
  · rw [List.length_map]; exact (w.forSet_covers x).reasons
  · rw [List.length_map]; exact (first.1.forSet_covers (single n)).reasons
  · rw [show (setStep judge act first n).1 = second.1 from state]
    rfl
  · have linked : (setStep judge act first n).1.link = first.1.link := by
      rw [show (setStep judge act first n).1 = second.1 from state]
      exact (State.Handled.forSet first.1 (single n) judge act h.handled).link
    rw [State.withReply_link, linked]
    rfl

end rows

/-- Settles O16. -/
theorem setsAreTakenInOrder : Obligations.SetsAreTakenInOrder := by
  intro dst present x n s hears above row mem
  have plain : ∀ {row : List Byte → Instr}, (∀ s p, State.seen s (row p) = s) →
      ∃ lines : SocketSet → SocketSet, (∀ s p, State.seen s (row p) = { s with presence := lines s.presence }) ∧
        ∀ x, lines (lines x) = lines x := fun h => ⟨id, h, fun _ => rfl⟩
  simp only [List.mem_cons, List.not_mem_nil, or_false] at mem
  rcases mem with rfl | rfl | rfl | rfl | rfl
  · exact (SetRow.mk armSocketsKind_carryOut rfl (fun _ => rfl) .arm ⟨fun _ => present, fun _ _ => rfl, fun _ => rfl⟩ :
      SetRow (fun p => .armSockets dst p present) armSocketsKind dst State.armJudge State.arm).inOrder hears above
  · exact (SetRow.mk powerDownSocketsKind_carryOut rfl (fun _ => rfl) .powerDown (plain fun _ _ => rfl) :
      SetRow (fun p => .powerDownSockets dst p) powerDownSocketsKind dst _ State.powerDown).inOrder hears above
  · exact (SetRow.mk pauseSocketsKind_carryOut rfl (fun _ => rfl) (fun t n => .move t n (by simp)) (plain fun _ _ => rfl) :
      SetRow (fun p => .pauseSockets dst p) pauseSocketsKind dst _ _).inOrder hears above
  · exact (SetRow.mk resumeSocketsKind_carryOut rfl (fun _ => rfl) (fun t n => .move t n (by simp)) (plain fun _ _ => rfl) :
      SetRow (fun p => .resumeSockets dst p) resumeSocketsKind dst _ _).inOrder hears above
  · exact (SetRow.mk releaseHoldKind_carryOut rfl (fun _ => rfl) (fun t n => .moveAdmit t n (by simp)) (plain fun _ _ => rfl) :
      SetRow (fun p => .releaseHold dst p) releaseHoldKind dst _ _).inOrder hears above

end Sys2Proof.Machine
end

section
/-!
PROOFS. The requests that name one socket: Read Socket Status (R24) and Clear Socket Account (R22, R149).
-/

namespace Sys2Proof.Machine

/-- A request row without presence lines, heard on an open link. -/
theorem State.Hears.exec_plain {s : State} {dst : Byte} (h : s.Hears dst) {c : Instr} {k : RequestKind} {p : List Byte}
    (row : requestOfRow c = some (k, dst, p)) (plain : s.seen c = s) (length : k.lengthOk p.length = true)
    (short : p.length ≤ 250) {t : State} {r : Response} (carry : k.carryOut p s.heard = (t, r)) :
    exec c s = .next (t.respond k.code r) := by
  rw [h.exec_row row length short, plain, carry]

/-! ### Read Socket Status (R24) -/

theorem readSocketStatusKind_carryOut (n : Sock) (s : State) :
    readSocketStatusKind.carryOut [sockCode n] s = (s.modScu n Record.read, .now .ok (s.statusBytes n)) := by
  simp only [readSocketStatusKind, State.withSocket, byteAt_single, sockOf_sockCode]

/-- A held temperature is coded as itself, none as -32768 (section 11.6). -/
theorem heldCode_eq (held : Option Int) : heldCode held = held.getD (-32768) := by cases held <;> rfl

/-- Settles O17. -/
theorem readSocketStatusClearsItsLatches : Obligations.ReadSocketStatusClearsItsLatches := by
  constructor
  · intro dst n s h k
    refine ⟨_, h.exec_plain (c := .readSocketStatus dst [sockCode n]) rfl rfl rfl (by simp) (readSocketStatusKind_carryOut n _),
      ?_, ?_, fun m hm => ?_⟩
    · rw [← heldCode_eq]; rfl
    · exact ((s.heard.modScu_socket n n Record.read).trans (if_pos rfl)).trans rfl
    · exact (s.heard.modScu_socket n m Record.read).trans (if_neg hm)
  · intro dst b s h above
    have carry : readSocketStatusKind.carryOut [b] s.heard = (s.heard, .now .badArg []) := by
      simp only [readSocketStatusKind, State.withSocket, byteAt_single, sockOf_above above]
    exact h.exec_plain (c := .readSocketStatus dst [b]) rfl rfl rfl (by simp) carry

/-! ### Clear Socket Account (R22, R149) -/

theorem clearSocketAccountKind_carryOut (n : Sock) (s : State) :
    clearSocketAccountKind.carryOut [sockCode n] s =
      if (s.socket n).scu.state = .absent then (s, .now .absent [])
      else if (s.socket n).scu.state.busy then (s, .now .wrongState [])
      else (s.modSocket n fun k => k.cleared .off, .now .ok []) := by
  simp only [clearSocketAccountKind, byteAt_single, sockOf_sockCode]

/-- Settles O18. -/
theorem clearingOneAccount : Obligations.ClearingOneAccount := by
  intro dst n s h
  have refused : ∀ r : Status, clearSocketAccountKind.carryOut [sockCode n] s.heard = (s.heard, .now r []) →
      exec (.clearSocketAccount dst [sockCode n]) s = .next (s.heard.answer 0x16#8 r []) := fun r carry =>
    h.exec_plain (c := .clearSocketAccount dst [sockCode n]) rfl rfl rfl (by simp) carry
  refine ⟨fun free => ?_, fun absent => refused _ ?_, fun busy => refused _ ?_, fun b above => ?_⟩
  · have carry : clearSocketAccountKind.carryOut [sockCode n] s.heard =
        (s.heard.modSocket n fun k => k.cleared .off, .now .ok []) := by
      rw [clearSocketAccountKind_carryOut, State.heard_socket]
      rcases free with e | e | e <;> simp [e, SocketState.busy, SocketState.powered]
    set t := s.heard.modSocket n fun k => k.cleared .off with ht
    have socket : t.socket n = (s.socket n).cleared .off := by simp [ht]
    refine ⟨_, h.exec_plain (c := .clearSocketAccount dst [sockCode n]) rfl rfl rfl (by simp) carry, rfl, rfl, fun m hm => ?_, ?_⟩
    · exact (s.heard.modSocket_socket n m fun k => k.cleared .off).trans (if_neg hm)
    · have answered : (t.respond clearSocketAccountKind.code (.now .ok [])).socket n = (s.socket n).cleared .off := socket
      simp only [answered]
      exact ⟨rfl, rfl, rfl, rfl, rfl, rfl, rfl, rfl, rfl, rfl, rfl, rfl, rfl, rfl⟩
  · rw [clearSocketAccountKind_carryOut, State.heard_socket, if_pos absent]
  · have present : (s.socket n).scu.state ≠ .absent := fun e => by rw [e] at busy; exact absurd busy (by decide)
    rw [clearSocketAccountKind_carryOut, State.heard_socket, if_neg present, if_pos busy]
  · have carry : clearSocketAccountKind.carryOut [b] s.heard =
        (s.heard, .now (if Config.refusesAsAbsent b then .absent else .wrongState) []) := by
      simp only [clearSocketAccountKind, byteAt_single, sockOf_above above]
      rfl
    have row := h.exec_plain (c := .clearSocketAccount dst [b]) rfl rfl rfl (by simp) carry
    cases e : Config.refusesAsAbsent b with
    | true => rw [e] at row; exact .inl row
    | false => rw [e] at row; exact .inr row

end Sys2Proof.Machine
end

section
/-!
PROOFS. Reports taken by the SCU (R6 to R10, R16, R19): how a report row reaches its effect, and what each effect leaves.
-/

namespace Sys2Proof.Machine

/-! ### A report in its turn (R20) -/

/-- No report was sent beside admission grants. -/
def State.GrantsSent (s t : State) : Prop := ∃ l : List Report, (∀ r ∈ l, r.kind = .grant) ∧ t.reports = s.reports ++ l

theorem State.GrantsSent.of_eq {s t : State} (h : t.reports = s.reports) : s.GrantsSent t := ⟨[], nofun, by simp [h]⟩

theorem State.GrantsSent.trans {s t u : State} (h : s.GrantsSent t) (h' : t.GrantsSent u) : s.GrantsSent u := by
  obtain ⟨l, grants, sent⟩ := h
  obtain ⟨l', grants', sent'⟩ := h'
  refine ⟨l ++ l', fun r hr => ?_, by rw [sent', sent, List.append_assoc]⟩
  rcases List.mem_append.mp hr with hr | hr
  exacts [grants r hr, grants' r hr]

theorem State.GrantsSent.evaluate (s : State) (f : FeedId) : s.GrantsSent (s.evaluate f) := by
  rcases s.evaluate_cases f with e | ⟨n, rest, -, -, -, e⟩ <;> rw [e]
  · exact .of_eq rfl
  · exact ⟨[⟨n, .grant⟩], by simp, by simp [State.admitHead]⟩

theorem State.GrantsSent.moveAdmit (s : State) (n : Sock) (st : SocketState) : s.GrantsSent (s.moveAdmit n st) :=
  (State.GrantsSent.of_eq (t := s.move n st) (by simp)).trans (.evaluate _ _)

theorem State.GrantsSent.requeued (s : State) (n : Sock) : s.GrantsSent (s.requeued n) := by
  unfold State.requeued
  dsimp only
  split
  · exact .moveAdmit s n .off
  · exact .evaluate s _

theorem State.GrantsSent.fail (s : State) (n : Sock) (c : Cause) : s.GrantsSent (s.fail n c) := by
  cases runs : c.runsIn (s.socket n).scu.state with
  | false => rw [s.fail_discarded n c runs]; exact .of_eq rfl
  | true =>
    rw [s.fail_taken n c runs]
    have accounted : s.GrantsSent (s.accountFailure n c (c.disposition s.link.mode)) := .of_eq (by simp)
    refine (accounted.trans ?_).trans (.of_eq rfl)
    unfold State.dispose
    split
    · exact .of_eq (by simp)
    · exact .moveAdmit _ n _

/-- Taking a report sends nothing but grants. -/
theorem State.GrantsSent.taken (s : State) (n : Sock) (kind : ReportKind) : s.GrantsSent (s.taken n kind) := by
  cases kind with
  | grant => exact .of_eq (by simp [State.taken])
  | qualified =>
    simp only [State.taken, State.takeQualified]
    split
    · exact .moveAdmit s n _
    · exact .of_eq rfl
  | settled => exact .of_eq (by simp [State.taken])
  | notSettled => exact .of_eq (by simp [State.taken])
  | target =>
    simp only [State.taken, State.takeTarget]
    split
    · exact (State.GrantsSent.of_eq (t := s.modAccount n fun a => { a with targetReached := true }) rfl).trans
        ((State.GrantsSent.moveAdmit _ n .done).trans (.of_eq rfl))
    · exact .of_eq rfl
  | trip =>
    simp only [State.taken, State.takeTrip]
    split
    · split
      · exact (State.GrantsSent.of_eq (by simp)).trans (.requeued _ n)
      · exact (State.GrantsSent.of_eq (by simp)).trans (.fail _ n _)
    · exact .of_eq rfl
  | shed =>
    have moved : s.GrantsSent (s.shedMove n) := .of_eq (by simp)
    simp only [State.taken, State.takeShed]
    split
    · exact moved.trans (.evaluate _ _)
    · split
      · exact moved.trans (.requeued _ n)
      · exact .of_eq rfl
  | failure c => exact .fail s n c

/-- Grants do not stand among the reports of the TRU. -/
theorem State.GrantsSent.oldest {s t : State} (h : s.GrantsSent t) (n : Sock) {r : Report} (found : t.oldest n .tru = some r) :
    s.oldest n .tru = some r := by
  obtain ⟨l, grants, sent⟩ := h
  rw [State.oldest, sent, List.find?_append] at found
  have none : l.find? (fun r => r.socket == n && r.kind.sender == .tru) = none := by
    rw [List.find?_eq_none]
    intro r hr
    rw [grants r hr]
    simp [ReportKind.sender]
  simpa [State.oldest, none] using found

/-- A report in its turn may be taken (R20). -/
theorem State.Waits.mayTake {s : State} {n : Sock} {kind : ReportKind} (h : s.Waits n kind) : s.mayTake n kind = true := by
  obtain ⟨before, after, reports, free⟩ := h.inTurn
  refine s.mayTake_of_waiting n kind before after reports fun r hr hs => ?_
  obtain ⟨other, tru, ssc⟩ := free r hr hs
  refine ⟨other, ?_⟩
  unfold ReportKind.waitsBehind
  rw [Bool.or_eq_false_iff]
  constructor
  · by_cases e : kind.sender = .tru
    · simp [tru e]
    · simp [e]
  · by_cases e : kind.sender = .ssc
    · simp [ssc e]
    · simp [e]

/-- A report taken in its turn has its effect, and no notice is taken with it (R20; log entry 27). -/
theorem State.Waits.takeReport {s : State} {n : Sock} {kind : ReportKind} (h : s.Waits n kind) :
    s.takeReport n kind (·.taken n kind) = (s.drop ⟨n, kind⟩).taken n kind := by
  unfold State.takeReport
  rw [if_pos h.mayTake]
  exact State.takeNotices_none _ n _ fun r found =>
    h.noNotice r ((State.GrantsSent.taken (s.drop ⟨n, kind⟩) n kind).oldest n found)

/-- The row of a report that waits in its turn, with nothing due. -/
theorem State.Reported.exec_row {s : State} {n : Sock} {kind : ReportKind} (h : s.Reported n kind) {c : Instr}
    (row : reportOfRow c = some ⟨n, kind⟩) : exec c s = .next ((s.drop ⟨n, kind⟩).taken n kind) := by
  have before : s.beforeReport = s := by
    rw [s.beforeReport_settled (by simp [h.due]) (by simp [h.due]), s.settled_of_none h.due]
  rw [exec_report row, before, h.toWaits.takeReport]

theorem State.granted_drop (s : State) (r : Report) (n : Sock) : (s.drop r).granted n = s.granted n := by
  simp [State.granted, State.inQueue]

/-- After a report is dropped, and what it says counted about its socket, the lists are as they were. -/
theorem State.ListsLeft.dropped (s : State) (r : Report) (n : Sock) :
    s.ListsLeft (s.drop r) n (s.feed (feedOf n)).queue (s.feed (feedOf n)).order (s.reports.erase r) :=
  .of_eq (fun f => by simp) rfl (fun _ _ => rfl) rfl rfl

theorem State.ListsLeft.modSocket {s u : State} {n : Sock} {queue order : List Sock} {sent : List Report}
    (h : s.ListsLeft u n queue order sent) {f : Socket → Socket} (rail : ∀ k, (f k).rail.off = k.rail.off := by intro k; rfl) :
    s.ListsLeft (u.modSocket n f) n queue order sent where
  feed := by simpa using h.feed
  others g hg := by simpa using h.others g hg
  sent := h.sent
  socket k hk := by simpa [hk] using h.socket k hk
  rail := by
    rw [State.modSocket_socket, if_pos rfl]
    exact (rail _).trans h.rail
  ceiling := h.ceiling
  waits := h.waits

/-! ### Grants and qualifications (R6, R7) -/

theorem Rail.moved_in (r : Rail) {st : SocketState} (on : st.powered = true) : r.moved st = { r with contactCount := 0 } := by
  simp [Rail.moved, on]

/-- Settles O20. -/
theorem grantsAndQualificationsTaken : Obligations.GrantsAndQualificationsTaken := by
  refine ⟨fun n s h => ⟨fun granted => ?_, fun free => ?_⟩, fun n s h => ⟨fun ramp => ?_, fun other => ?_⟩⟩
  · have taken : (s.drop ⟨n, .grant⟩).taken n .grant = (s.drop ⟨n, .grant⟩).move n .ramp :=
      if_pos (by rw [State.granted_drop]; exact granted)
    have socket : ((s.drop ⟨n, .grant⟩).move n .ramp).socket n = (s.socket n).moved .ramp := by simp
    refine ⟨_, (h.exec_row (c := .admissionGrantTaken n) rfl).trans (congrArg _ taken), ?_, ?_, fun m hm => ?_, ?_, ?_, fun f => ?_,
      ?_, ?_⟩
    · rw [socket]; rfl
    · rw [socket]; rfl
    · simp [hm]
    · rw [socket]; exact Rail.moved_in (s.socket n).rail (st := .ramp) rfl
    · rw [(State.move_sets _ n .ramp).1]; simp [Engine.follow, SocketState.powered]
    · rw [State.move_feed, if_neg (by simp [SocketState.powered]), State.drop_feed]
    · simp
    · simp
  · have taken : (s.drop ⟨n, .grant⟩).taken n .grant = s.drop ⟨n, .grant⟩ :=
      if_neg (by rw [State.granted_drop, free]; decide)
    exact (h.exec_row (c := .admissionGrantTaken n) rfl).trans (congrArg _ taken)
  · have taken : (s.drop ⟨n, .qualified⟩).taken n .qualified = (s.drop ⟨n, .qualified⟩).moveAdmit n .settle := if_pos ramp
    have left := (State.ListsLeft.dropped s ⟨n, .qualified⟩ n).move_in (st := .settle) rfl
    have socket : ((s.drop ⟨n, .qualified⟩).move n .settle).socket n = (s.socket n).moved .settle := by simp
    have scu : (((s.drop ⟨n, .qualified⟩).moveAdmit n .settle).socket n).scu = ((s.socket n).moved .settle).scu := by
      rw [State.moveAdmit, State.evaluate_scu, socket]
    refine ⟨_, (h.exec_row (c := .qualifiedReportTaken n) rfl).trans (congrArg _ taken), ?_, ?_, ?_, ?_, left.othersStay _, by simp,
      left.evaluated (by rw [socket]; simp [Socket.moved, Record.moved])
        (State.not_granted_of_state (by rw [socket]; simp [Socket.moved, Record.moved]))⟩
    · rw [scu]; rfl
    · rw [scu]; rfl
    · rw [scu]; rfl
    · rw [State.moveAdmit, State.evaluate_socket, socket]; rfl
  · have taken : (s.drop ⟨n, .qualified⟩).taken n .qualified = s.drop ⟨n, .qualified⟩ := if_neg other
    exact (h.exec_row (c := .qualifiedReportTaken n) rfl).trans (congrArg _ taken)

/-! ### Settled reports (R8) -/

/-- Settles O21. -/
theorem aSettledReportTaken : Obligations.ASettledReportTaken := by
  refine fun n s h => ⟨fun settle => ?_, fun other => ?_⟩
  · set marked := (s.drop ⟨n, .settled⟩).modScu n fun r => { r with settledMark := true } with hm
    have taken : (s.drop ⟨n, .settled⟩).taken n .settled = marked.settleToRun n := if_pos settle
    have socket : marked.socket n = { s.socket n with scu := { (s.socket n).scu with settledMark := true } } := by simp [hm]
    have may : marked.mayRun n = true ↔ s.engine.state = .idle ∨ s.permits n s.engine.rate = true := by
      have engine : marked.engine = s.engine := rfl
      simp [State.mayRun, State.permits, socket, settle, engine]
    have row := (h.exec_row (c := .settledReportTaken n) rfl).trans (congrArg _ taken)
    by_cases goes : s.engine.state = .idle ∨ s.permits n s.engine.rate = true
    · have runs : marked.settleToRun n = marked.move n .run := if_pos (may.mpr goes)
      rw [runs] at row
      refine ⟨_, row, fun m hne => by simp [hm, hne], fun f => ?_, fun _ => by simp [Socket.moved, Record.moved],
        fun no => absurd goes no⟩
      rw [State.move_feed, if_neg (by simp [SocketState.powered])]
      simp [hm]
    · have waits : marked.settleToRun n = marked := if_neg fun x => goes (may.mp x)
      rw [waits] at row
      exact ⟨_, row, fun m hne => by simp [hm, hne], fun f => by simp [hm], fun yes => absurd yes goes, fun _ => socket⟩
  · have taken : (s.drop ⟨n, .settled⟩).taken n .settled = s.drop ⟨n, .settled⟩ := if_neg other
    exact (h.exec_row (c := .settledReportTaken n) rfl).trans (congrArg _ taken)

/-! ### Targets reached (R10) -/

theorem State.flag_evaluate (s : State) (f : FeedId) (e : EventFlag) : (s.evaluate f).flag e = s.flag e :=
  State.flag_congr (by simp) e

/-- Settles O22. -/
theorem aTargetTaken : Obligations.ATargetTaken := by
  refine fun n s h => ⟨fun run => ?_, fun other => ?_⟩
  · set reached := (s.drop ⟨n, .target⟩).modAccount n fun a => { a with targetReached := true } with hr
    have taken : (s.drop ⟨n, .target⟩).taken n .target = (reached.moveAdmit n .done).raise .socketDone (single n) := if_pos run
    have listed : s.ListsLeft reached n _ _ _ := (State.ListsLeft.dropped s ⟨n, .target⟩ n).modSocket
    have left := listed.move_out (st := .done) rfl
    have account : reached.socket n = { s.socket n with account := { (s.socket n).account with targetReached := true } } := by
      simp [hr]
    have socket : (reached.moveAdmit n .done).socket n =
        ({ s.socket n with account := { (s.socket n).account with targetReached := true } } : Socket).moved .done := by
      rw [reached.moveAdmit_socket_self n rfl, account]
    have state : ((reached.move n .done).socket n).scu.state = .done := by simp [Socket.moved, Record.moved]
    refine ⟨_, (h.exec_row (c := .targetReportTaken n) rfl).trans (congrArg _ taken), ?_, ?_, ?_, ?_, ?_, left.othersStay _, ?_,
      (left.evaluated (by rw [state]; simp) (State.not_granted_of_state (by rw [state]; simp))).congr
        (fun f => by simp [State.moveAdmit]) rfl fun _ => rfl, ?_⟩
    · rw [State.raise_socket, socket]; rfl
    · rw [State.raise_socket, socket]; rfl
    · rw [State.raise_socket, socket]; rfl
    · rw [State.raise_socket, socket]; rfl
    · rw [State.raise_socket, socket]; exact (Heat.moved_out _ rfl).2.1
    · simp [hr]
    · have flag : (reached.moveAdmit n .done).flag .socketDone = s.flag .socketDone := by
        rw [State.moveAdmit, State.flag_evaluate, State.move_flag]; rfl
      rw [State.flag_raise, if_pos rfl, flag]
  · have taken : (s.drop ⟨n, .target⟩).taken n .target = s.drop ⟨n, .target⟩ := if_neg other
    exact (h.exec_row (c := .targetReportTaken n) rfl).trans (congrArg _ taken)

end Sys2Proof.Machine
end

section
/-!
PROOFS. Failures, trips and sheds taken by the SCU (R16 to R19), and the SCU's own timers (R9, R11).
-/

namespace Sys2Proof.Machine

/-! ### The record of a failure (R139 to R143) -/

/-- A record stored crosses the log's threshold while its mark is armed (R142). -/
def FailLog.crosses (l : FailLog) : Bool :=
  decide (l.records.length < 128) && decide (l.threshold ≤ l.records.length + 1) && l.thresholdArmed

/-- A record is dropped while the full mark is armed (R143). -/
def FailLog.loses (l : FailLog) : Bool := decide (128 ≤ l.records.length) && l.fullArmed

theorem State.logRecord_log (s : State) (r : FailRecord) :
    (s.logRecord r).log =
      { s.log with
          records := if s.log.records.length < 128 then s.log.records ++ [r] else s.log.records,
          issued := (s.log.issued + 1) % 4294967296, nextSequence := (s.log.nextSequence + 1) % 65536,
          dropped := if s.log.records.length < 128 then s.log.dropped else (s.log.dropped + 1) % 4294967296,
          thresholdArmed := s.log.thresholdArmed && !s.log.crosses,
          fullArmed := s.log.fullArmed && decide (s.log.records.length < 128) } := by
  unfold State.logRecord FailLog.crosses
  by_cases room : s.log.records.length < 128
  · simp only [Config.logRoom, room, if_true, decide_true, Bool.true_and, Bool.and_true, State.storeRecord]
    split <;> rfl
  · simp only [Config.logRoom, room, if_false, decide_false, Bool.false_and, Bool.and_false, Bool.not_false, Bool.and_true,
      State.dropRecord]
    split <;> rfl

theorem State.logRecord_flag (s : State) (r : FailRecord) (e : EventFlag) :
    (s.logRecord r).flag e =
      { s.flag e with
          isSet := (s.flag e).isSet || (decide (e = .logThreshold) && s.log.crosses) || (decide (e = .logFull) && s.log.loses) } := by
  have none : ∀ f : FlagState, ({ f with isSet := true, sockets := f.sockets ||| 0#16 } : FlagState) = { f with isSet := true } :=
    fun f => by simp
  unfold State.logRecord FailLog.crosses FailLog.loses
  by_cases room : s.log.records.length < 128
  · have notFull : ¬128 ≤ s.log.records.length := by omega
    simp only [Config.logRoom, room, notFull, if_true, decide_true, decide_false, Bool.true_and, Bool.false_and, Bool.and_false,
      Bool.or_false, State.storeRecord]
    split
    next crosses =>
      rw [State.flag_raise, none, crosses]
      by_cases h : e = .logThreshold
      · subst h; simp [State.flag]
      · simp [h, State.flag]
    next stays =>
      rw [Bool.not_eq_true] at stays
      simp [State.flag, stays]
  · have full : 128 ≤ s.log.records.length := by omega
    simp only [Config.logRoom, room, full, if_false, decide_true, decide_false, Bool.true_and, Bool.false_and, Bool.and_false,
      Bool.or_false, State.dropRecord]
    split
    next armed =>
      rw [State.flag_raise, none, armed]
      by_cases h : e = .logFull
      · subst h; simp [State.flag]
      · simp [h, State.flag]
    next stays =>
      rw [Bool.not_eq_true] at stays
      simp [State.flag, stays]

theorem State.accountFailure_log (s : State) (n : Sock) (c : Cause) :
    (s.accountFailure n c (c.disposition s.link.mode)).log = (s.logRecord (s.failRecord n c)).log := by
  have record : s.recordOf n (s.kindOf n) c (c.disposition s.link.mode) = s.failRecord n c := by
    unfold State.recordOf State.failRecord State.kindOf
    by_cases h : c = .compareFail <;> simp [h]
  unfold State.accountFailure
  dsimp only
  rw [(State.takeCaptures_frame _ n c).2.2.2.2.2.2.2.2.1, State.logRecord_log, State.logRecord_log, record]
  simp

theorem State.accountFailure_flag (s : State) (n : Sock) (c : Cause) (d : SocketState) (r : FailRecord) (e : EventFlag) :
    (s.accountFailure n c d).flag e = (s.logRecord r).flag e := by
  have marked : (s.markFailed n (s.kindOf n) c).flag e = s.flag e := State.flag_congr (by simp) e
  rw [State.flag_congr (t := (s.markFailed n (s.kindOf n) c).logRecord (s.recordOf n (s.kindOf n) c d))
    (by simp [State.accountFailure]), State.logRecord_flag, State.logRecord_flag, marked]
  simp

/-! ### A failure (R17 to R19) -/

section fails
variable {s u : State} {n : Sock} {c : Cause}

theorem State.dispose_socket (s : State) (n : Sock) (c : Cause) (m : Attendance) :
    (s.dispose n (c.disposition m)).socket n = (s.socket n).moved (c.disposition m) := by
  unfold State.dispose
  rcases c.disposition_cases m with d | d <;> rw [d]
  · simp
  · rw [if_neg (by simp)]; exact s.moveAdmit_socket_self n rfl

/-- The failed socket: accounted, and moved to its disposition (R18, R19). -/
theorem State.fail_socket (runs : c.runsIn (s.socket n).scu.state = true) :
    (s.fail n c).socket n = ((s.socket n).accounted (s.kindOf n) c s.clock).moved (c.disposition s.link.mode) := by
  rw [s.fail_taken n c runs, State.raise_socket, State.dispose_socket, State.accountFailure_socket, if_pos rfl]

theorem State.fail_log (runs : c.runsIn (s.socket n).scu.state = true) :
    (s.fail n c).log = (s.logRecord (s.failRecord n c)).log := by
  rw [s.fail_taken n c runs, ← State.accountFailure_log]
  simp

theorem State.fail_flag (runs : c.runsIn (s.socket n).scu.state = true) (e : EventFlag) :
    (s.fail n c).flag e =
      if e = c.flag then
        { s.flag e with isSet := true, sockets := (s.flag e).sockets ||| single n }
      else (s.logRecord (s.failRecord n c)).flag e := by
  have disposed : ∀ e, ((s.accountFailure n c (c.disposition s.link.mode)).dispose n (c.disposition s.link.mode)).flag e =
      (s.logRecord (s.failRecord n c)).flag e := fun e => by
    rw [← State.accountFailure_flag s n c (c.disposition s.link.mode)]
    exact State.flag_congr (by simp) e
  rw [s.fail_taken n c runs, State.flag_raise, disposed, disposed]
  split
  · rename_i h
    subst h
    rw [State.logRecord_flag]
  · rfl

theorem Cause.flag_not_log (c : Cause) : c.flag ≠ .logThreshold ∧ c.flag ≠ .logFull := by cases c <;> decide

/-- A failure taken leaves what R18, R19 and R139 to R143 say. -/
theorem State.fail_failed (runs : c.runsIn (s.socket n).scu.state = true) : s.Failed (s.fail n c) n c := by
  have socket := State.fail_socket runs
  have flag := State.fail_flag runs
  obtain ⟨notThreshold, notFull⟩ := c.flag_not_log
  have kind : s.kindOf n = if (s.socket n).scu.firstFail then .secondary else .primary := rfl
  refine ⟨?_, ?_, fun first => ?_, fun later => ?_, ⟨?_, ?_, ?_⟩, ?_, fun e hc ht hf => ?_, ?_, ?_⟩
  · rw [socket]; exact ⟨rfl, rfl⟩
  · rw [socket]; rfl
  · rw [socket, kind, first]; exact ⟨rfl, rfl, rfl, rfl, rfl⟩
  · rw [socket, kind, later]; exact ⟨rfl, rfl, rfl, rfl, rfl⟩
  · rw [State.fail_log runs, State.logRecord_log]; rfl
  · rw [flag, if_neg (Ne.symm notThreshold), State.logRecord_flag]
    simp [FailLog.crosses]
  · rw [flag, if_neg (Ne.symm notFull), State.logRecord_flag]
    simp [FailLog.loses]
  · rw [flag, if_pos rfl]
  · rw [flag, if_neg hc, State.logRecord_flag]
    simp [ht, hf]
  · rw [socket]
    by_cases h : c = .compareFail <;> simp [Socket.moved, Socket.accounted, h]
  · rw [socket]; rfl

/-- A failure of a socket that stands alike in another state leaves the same (R18, R139). -/
theorem State.Failed.of_alike {t : State} (h : u.Failed t n c) (log : u.log = s.log) (clock : u.clock = s.clock)
    (mode : u.link.mode = s.link.mode) (flag : ∀ e, u.flag e = s.flag e) (record : u.failRecord n c = s.failRecord n c)
    (first : (u.socket n).scu.firstFail = (s.socket n).scu.firstFail)
    (account : (u.socket n).account.firstFail = (s.socket n).account.firstFail ∧
      (u.socket n).account.firstCause = (s.socket n).account.firstCause ∧
      (u.socket n).account.firstFailTime = (s.socket n).account.firstFailTime ∧
      (u.socket n).account.firstFailCredit = (s.socket n).account.firstFailCredit ∧
      (u.socket n).account.secondaryFails = (s.socket n).account.secondaryFails)
    (lane : (u.socket n).lane = (s.socket n).lane) (credit : (u.socket n).credit = (s.socket n).credit) :
    s.Failed t n c := by
  obtain ⟨aFirst, aCause, aTime, aCredit, aSecondary⟩ := account
  obtain ⟨state, mark, primary, secondary, logged, flagSet, flags, captures, creditKept⟩ := h
  refine ⟨by rwa [mode] at state, mark, ?_, ?_, ?_, by rwa [flag] at flagSet, fun e => by rw [← flag e]; exact flags e,
    by rwa [lane] at captures, by rwa [credit] at creditKept⟩
  · rwa [first, clock, credit, aSecondary] at primary
  · rwa [first, aFirst, aCause, aTime, aCredit, aSecondary] at secondary
  · rwa [log, flag, flag, record] at logged

/-- The lists as a failure leaves them before admission is evaluated. -/
theorem State.ListsLeft.accounted {queue order : List Sock} {sent : List Report} (h : s.ListsLeft u n queue order sent)
    (d : SocketState) : s.ListsLeft (u.accountFailure n c d) n queue order sent where
  feed := by rw [State.accountFailure_feed, h.feed]
  others g hg := by rw [State.accountFailure_feed, h.others g hg]
  sent := by simp [h.sent]
  socket k hk := by rw [State.accountFailure_socket, if_neg hk, h.socket k hk]
  rail := by
    rw [State.accountFailure_socket, if_pos rfl]
    exact h.rail
  ceiling := by simp [h.ceiling]
  waits := h.waits

/-- A socket moved off the powered states and off the queues is neither in RAMP nor granted, and admission is evaluated (R34). -/
theorem State.ListsLeft.moveAdmit_out {queue order : List Sock} {sent : List Report} (h : s.ListsLeft u n queue order sent)
    {st : SocketState} (out : st.busy = false) :
    s.EvaluatedTo (u.moveAdmit n st) n (queue.filter (· != n)) (order.filter (· != n)) sent := by
  have state : ((u.move n st).socket n).scu.state = st := by simp [Socket.moved, Record.moved]
  refine (h.move_out (SocketState.not_powered_of_not_busy out)).evaluated ?_ (State.not_granted_of_state ?_) <;>
    rw [state] <;> rintro rfl <;> exact absurd out (by decide)

/-- A failure to SAFE takes the socket off its lists, and admission is evaluated (R19, R34). -/
theorem State.ListsLeft.failed {queue order : List Sock} {sent : List Report} (h : s.ListsLeft u n queue order sent)
    (runs : c.runsIn (u.socket n).scu.state = true) (safe : c.disposition u.link.mode = .safe) :
    s.EvaluatedTo (u.fail n c) n (queue.filter (· != n)) (order.filter (· != n)) sent := by
  rw [u.fail_taken n c runs, safe]
  exact ((h.accounted _).moveAdmit_out rfl).congr (fun f => by rw [State.raise_feed]; rfl) rfl fun _ => rfl

/-- A failure to HOLD leaves the feeds and the reports (R19; log entry 41). -/
theorem State.fail_held (runs : c.runsIn (s.socket n).scu.state = true) (hold : c.disposition s.link.mode = .hold) :
    (∀ f, (s.fail n c).feed f = s.feed f) ∧ (s.fail n c).reports = s.reports := by
  rw [s.fail_taken n c runs, hold]
  have disposed : (s.accountFailure n c .hold).dispose n .hold = (s.accountFailure n c .hold).move n .hold := if_pos rfl
  rw [disposed]
  refine ⟨fun f => ?_, by simp⟩
  rw [State.raise_feed, State.move_feed, if_neg (by simp [SocketState.powered]), State.accountFailure_feed]

/-- A failure moves no other socket. -/
theorem State.fail_othersStay (s : State) (n : Sock) (c : Cause) : s.OthersStay (s.fail n c) n := by
  intro m hm
  cases runs : c.runsIn (s.socket n).scu.state with
  | false => rw [s.fail_discarded n c runs]
  | true =>
    rw [s.fail_taken n c runs, State.raise_socket]
    unfold State.dispose State.moveAdmit
    split
    · simp [hm, State.accountFailure_socket]
    · rw [State.evaluate_scu]; simp [hm, State.accountFailure_socket]

theorem Socket.moved_safe_off (k : Socket) {st : SocketState} (off : st.powered = false) :
    (k.moved st).heat.demand = 0 ∧ (k.moved st).heat.duty = 0 :=
  have out := k.heat.moved_out (before := k.scu.state) off
  ⟨out.1, out.2.1⟩

end fails

/-- Settles O25. -/
theorem aFailureTaken : Obligations.AFailureTaken := by
  refine ⟨fun c st => ?_, fun c m => ?_, fun c => ?_, fun c => ?_, ?_⟩
  · cases c <;> cases st <;> decide
  · cases c <;> cases m <;> decide
  · cases c <;> decide
  · cases c <;> decide
  intro n c s h k disposition
  refine ⟨fun runs => ?_, fun idle => ?_⟩
  · set u := s.drop ⟨n, .failure c⟩ with hu
    have taken : ∀ m, u.socket m = s.socket m := fun _ => rfl
    have runs' : c.runsIn (u.socket n).scu.state = true := runs
    have socket : (u.fail n c).socket n = (k.accounted (s.kindOf n) c s.clock).moved disposition := State.fail_socket runs'
    have kind : s.kindOf n = if k.scu.firstFail then .secondary else .primary := rfl
    have left : s.ListsLeft u n _ _ _ := .dropped s ⟨n, .failure c⟩ n
    refine ⟨_, h.exec_row (c := .failureReportTaken n c) rfl, u.fail_othersStay n c,
      (State.fail_failed runs').of_alike rfl rfl rfl (fun _ => rfl) rfl rfl ⟨rfl, rfl, rfl, rfl, rfl⟩ rfl rfl,
      fun first => ?_, fun later => ?_, fun hold => ?_, fun safe => ?_⟩
    · show ((u.fail n c).socket n).account = _
      rw [socket, kind, first]; rfl
    · show ((u.fail n c).socket n).account = _
      rw [socket, kind, later]; rfl
    · obtain ⟨feeds, reports⟩ := State.fail_held runs' hold
      refine ⟨?_, ?_, fun f => (feeds f).trans (by simp [hu]), reports⟩
      · show ((u.fail n c).socket n).rail = _
        rw [socket, hold]; rfl
      · show ((u.fail n c).socket n).heat.duty = _
        rw [socket, hold]; rfl
    · have off := (k.accounted (s.kindOf n) c s.clock).moved_rail_off (st := .safe) rfl
      obtain ⟨demand, duty⟩ := (k.accounted (s.kindOf n) c s.clock).moved_safe_off (st := .safe) rfl
      rw [safe] at socket
      have after : (u.taken n (.failure c)).socket n = _ := socket
      rw [after]
      exact ⟨off.1, off.2.1, off.2.2.2, duty, demand, left.failed runs' safe⟩
  · have taken : (s.drop ⟨n, .failure c⟩).taken n (.failure c) = s.drop ⟨n, .failure c⟩ :=
      State.fail_discarded _ n c idle
    exact (h.exec_row (c := .failureReportTaken n c) rfl).trans (congrArg _ taken)

end Sys2Proof.Machine
end

section
/-!
PROOFS. Trips and sheds taken by the SCU (R16, R48), and the SCU's own timers (R9, R11).
-/

namespace Sys2Proof.Machine

/-! ### A socket back in its queue (R16, R48) -/

theorem filter_filter_ne (l : List Sock) (n : Sock) : (l.filter (· != n)).filter (· != n) = l.filter (· != n) := by
  simp [List.filter_filter]

/-- What follows a socket's joining its queue: a withdrawal where it no longer fits the limit, and one evaluation (R34, R48). -/
theorem State.requeued_eq (s : State) (n : Sock) :
    s.requeued n =
      if s.admission n ≤ (s.feed (feedOf n)).limit then s.evaluate (feedOf n) else s.moveAdmit n .off := by
  unfold State.requeued State.moveAdmit
  dsimp only
  by_cases fits : s.admission n ≤ (s.feed (feedOf n)).limit
  · rw [if_neg (by omega), if_pos fits]
  · rw [if_pos (by omega), if_neg fits]

section requeued
variable {s u : State} {n : Sock} {queue order : List Sock} {sent : List Report} (h : s.ListsLeft u n queue order sent)
include h

theorem State.ListsLeft.fits_iff :
    u.admission n ≤ (u.feed (feedOf n)).limit ↔ s.admission n ≤ (s.feed (feedOf n)).limit := by
  rw [h.admission, h.feed]

/-- A requeued socket waits where it fits the limit, else it leaves both lists (R16, R48). -/
theorem State.ListsLeft.requeued (state : (u.socket n).scu.state = .queued) (mem : n ∈ queue) :
    s.EvaluatedTo (u.requeued n) n (if s.admission n ≤ (s.feed (feedOf n)).limit then queue else queue.filter (· != n))
      (if s.admission n ≤ (s.feed (feedOf n)).limit then order else order.filter (· != n)) sent := by
  rw [State.requeued_eq]
  by_cases fits : s.admission n ≤ (s.feed (feedOf n)).limit
  · rw [if_pos (h.fits_iff.mpr fits), if_pos fits, if_pos fits]
    exact h.evaluated (by rw [state]; simp) (h.queued_notGranted mem)
  · rw [if_neg fun x => fits (h.fits_iff.mp x), if_neg fits, if_neg fits]
    exact h.moveAdmit_out rfl

theorem State.ListsLeft.requeued_othersStay : s.OthersStay (u.requeued n) n := by
  rw [State.requeued_eq]
  split
  · exact h.othersStay _
  · exact (h.move_out (st := .off) rfl).othersStay _

/-- The requeued socket: as it was, its rail aside, where it fits; moved to OFF where it does not. -/
theorem State.ListsLeft.requeued_socket (state : (u.socket n).scu.state = .queued) :
    ((u.requeued n).socket n).scu.state = (if s.admission n ≤ (s.feed (feedOf n)).limit then .queued else .off) ∧
    ((u.requeued n).socket n).scu.tripCount = (u.socket n).scu.tripCount ∧
    ((u.socket n).scu.cleanRun = 0 → ((u.requeued n).socket n).scu.cleanRun = 0) ∧
    ((u.requeued n).socket n).account = { (u.socket n).account with mirror := ((u.requeued n).socket n).account.mirror } ∧
    ((u.socket n).heat.duty = 0 → ((u.requeued n).socket n).heat.duty = 0) := by
  rw [State.requeued_eq]
  by_cases fits : s.admission n ≤ (s.feed (feedOf n)).limit
  · rw [if_pos (h.fits_iff.mpr fits), if_pos fits, State.evaluate_socket]
    exact ⟨state, rfl, id, rfl, id⟩
  · rw [if_neg fun x => fits (h.fits_iff.mp x), if_neg fits, u.moveAdmit_socket_self n rfl]
    exact ⟨rfl, rfl, fun _ => rfl, rfl, fun _ => ((u.socket n).moved_safe_off rfl).2⟩

theorem State.ListsLeft.countShed : s.ListsLeft (u.countShed n) n queue order sent := by
  unfold State.countShed State.modAccount
  exact h.modSocket

end requeued

/-! ### Trips (R16) -/

theorem Cause.railTrip_runs {st : SocketState} (h : st.powered = true) : Cause.railTrip.runsIn st = true := h

theorem Cause.railTrip_safe (m : Attendance) : Cause.railTrip.disposition m = .safe := by cases m <;> rfl

/-- Settles O23. -/
theorem aTripTaken : Obligations.ATripTaken := by
  intro n s h k queue order rest
  set u := s.drop ⟨n, .trip⟩ with hu
  have left : s.ListsLeft u n _ _ rest := .dropped s ⟨n, .trip⟩ n
  have retry_iff : u.isRetry n = true ↔ k.scu.state ≠ .hold ∧ k.scu.tripCount < k.rail.profile.retries := by
    have same : u.socket n = k := rfl
    simp [State.isRetry, same]
  have row := h.exec_row (c := .tripReportTaken n) rfl
  refine ⟨fun powered notHold below => ?_, fun powered fails => ?_, fun unpowered => ?_⟩
  · have retry : u.isRetry n = true := retry_iff.mpr ⟨notHold, below⟩
    have counted : s.ListsLeft (u.modSocket n fun k => k.tripped true) n _ _ rest := left.modSocket
    have queued := (counted.move_out (st := .queued) rfl).join (n :: ·) fun l m hm => by simp [hm]
    set v := ((u.modSocket n fun k => k.tripped true).move n .queued).modFeed (feedOf n) fun g => { g with queue := n :: g.queue }
      with hv
    have taken : u.taken n .trip = v.requeued n := by
      have same : (u.socket n).scu.state.powered = true := powered
      simp only [State.taken, State.takeTrip, same, if_true, retry, hv]
    have socket : v.socket n = (k.tripped true).moved .queued := by
      have same : u.socket n = k := rfl
      simp [hv, same]
    obtain ⟨state, trips, clean, account, -⟩ := queued.requeued_socket (by rw [socket]; rfl)
    have evaluated := queued.requeued (by rw [socket]; rfl) List.mem_cons_self
    rw [show (n :: queue).filter (· != n) = queue by simp [queue],
      show order.filter (· != n) = order from filter_filter_ne _ _, ite_self] at evaluated
    refine ⟨_, row.trans (congrArg _ taken), queued.requeued_othersStay, by simp [hv, hu], by simp [hv, hu], state, ?_, ?_, ?_, ?_,
      evaluated⟩
    · rw [trips, socket]; rfl
    · exact clean (by rw [socket]; rfl)
    · rw [account, socket]; rfl
    · rw [account, socket]; rfl
  · have retry : u.isRetry n = false := by
      rw [← Bool.not_eq_true, retry_iff]
      rintro ⟨notHold, below⟩
      rcases fails with hold | above
      · exact notHold hold
      · omega
    set v := u.modSocket n fun k => k.tripped false with hv
    have counted : s.ListsLeft v n _ _ rest := left.modSocket
    have taken : u.taken n .trip = v.fail n .railTrip := by
      have same : (u.socket n).scu.state.powered = true := powered
      simp [State.taken, State.takeTrip, same, retry, hv]
    have socket : v.socket n = k.tripped false := by
      have same : u.socket n = k := rfl
      simp [hv, same]
    have runs : Cause.railTrip.runsIn (v.socket n).scu.state = true := by
      rw [socket]; exact Cause.railTrip_runs powered
    have safe : Cause.railTrip.disposition v.link.mode = .safe := Cause.railTrip_safe _
    have after : (v.fail n .railTrip).socket n = ((k.tripped false).accounted (v.kindOf n) .railTrip v.clock).moved .safe := by
      rw [State.fail_socket runs, safe, socket]
    have record : v.failRecord n .railTrip = s.failRecord n .railTrip := by
      unfold State.failRecord
      rw [socket]; rfl
    refine ⟨_, row.trans (congrArg _ taken), fun m hm => ?_, (State.fail_failed runs).of_alike rfl rfl rfl (fun _ => rfl) record
      (by rw [socket]; rfl) (by rw [socket]; exact ⟨rfl, rfl, rfl, rfl, rfl⟩) (by rw [socket]; rfl) (by rw [socket]; rfl), ?_, ?_, ?_,
      ?_, counted.failed runs safe⟩
    · rw [v.fail_othersStay n .railTrip m hm, hv, State.modSocket_socket, if_neg hm]; rfl
    · rw [after]; rfl
    · rw [after]; rfl
    · rw [after]
      cases v.kindOf n <;> rfl
    · rw [after]
      cases v.kindOf n <;> rfl
  · have taken : u.taken n .trip = u := if_neg (by
      have same : u.socket n = k := rfl
      rw [same, unpowered]; decide)
    exact row.trans (congrArg _ taken)

/-! ### Sheds (R16) -/

theorem State.shedMove_hold {s : State} {n : Sock} (hold : (s.socket n).scu.state = .hold) :
    s.shedMove n = (s.countShed n).move n .safe := if_pos hold

theorem State.shedMove_queue {s : State} {n : Sock} (powered : (s.socket n).scu.state.powered = true)
    (notHold : (s.socket n).scu.state ≠ .hold) :
    s.shedMove n = ((s.countShed n).move n .queued).modFeed (feedOf n) fun g => { g with queue := g.queue ++ [n] } := by
  simp only [State.shedMove, if_neg notHold, powered, if_true]

/-- Settles O24. -/
theorem aShedTaken : Obligations.AShedTaken := by
  intro n s h k queue order
  set u := s.drop ⟨n, .shed⟩ with hu
  have same : u.socket n = k := rfl
  have left : s.ListsLeft u n _ _ _ := .dropped s ⟨n, .shed⟩ n
  have counted := left.countShed
  have row := h.exec_row (c := .shedReportTaken n) rfl
  have countedSocket : (u.countShed n).socket n = { k with account := { k.account with sheds := satInc 65535 k.account.sheds } } := by
    simp [State.countShed, same, Config.max16]
  refine ⟨fun powered => ?_, fun unpowered => ?_⟩
  · by_cases hold : k.scu.state = .hold
    · have taken : u.taken n .shed = (u.countShed n).moveAdmit n .safe := by
        simp only [State.taken, State.takeShed, same, hold, if_true, State.shedMove_hold (s := u) hold]
        rfl
      have socket := (u.countShed n).moveAdmit_socket_self n (st := .safe) rfl
      rw [countedSocket] at socket
      have evaluated := counted.moveAdmit_out (st := .safe) rfl
      refine ⟨_, row.trans (congrArg _ taken), (counted.move_out (st := .safe) rfl).othersStay _, by simp [hu], by simp [hu], ?_, ?_,
        ?_, ?_, ?_⟩
      · rw [socket, if_pos hold]; rfl
      · rw [socket]; rfl
      · rw [socket]; exact (Socket.moved_safe_off _ rfl).2
      · rw [socket]; rfl
      · rw [if_neg fun x => x.1 hold]; exact evaluated
    · have queued := (counted.move_out (st := .queued) rfl).join (· ++ [n]) fun l m hm => by simp [hm]
      have taken : u.taken n .shed = (u.shedMove n).requeued n := by
        simp only [State.taken, State.takeShed, same, if_neg hold, powered, if_true]
      rw [State.shedMove_queue (s := u) powered hold] at taken
      set v := ((u.countShed n).move n .queued).modFeed (feedOf n) fun g => { g with queue := g.queue ++ [n] } with hv
      have socket : v.socket n =
          ({ k with account := { k.account with sheds := satInc 65535 k.account.sheds } } : Socket).moved .queued := by
        simp [hv, countedSocket]
      obtain ⟨state, -, clean, account, duty⟩ := queued.requeued_socket (by rw [socket]; rfl)
      have evaluated := queued.requeued (by rw [socket]; rfl) (by simp)
      rw [show (queue ++ [n]).filter (· != n) = queue by simp [queue],
        show order.filter (· != n) = order from filter_filter_ne _ _, ite_self] at evaluated
      refine ⟨_, row.trans (congrArg _ taken), queued.requeued_othersStay, by simp [hv, hu], by simp [hv, hu], ?_, ?_, ?_, ?_, ?_⟩
      · rw [state, if_neg hold]
      · rw [account, socket]; rfl
      · exact duty (by rw [socket]; exact (Socket.moved_safe_off _ rfl).2)
      · exact clean (by rw [socket]; rfl)
      · simpa only [ne_eq, hold, not_false_eq_true, true_and] using evaluated
  · have notHold : k.scu.state ≠ .hold := fun e => by rw [e] at unpowered; exact absurd unpowered (by decide)
    have taken : u.taken n .shed = u := by
      simp only [State.taken, State.takeShed, same, if_neg notHold, unpowered, Bool.false_eq_true, if_false]
    exact row.trans (congrArg _ taken)

/-! ### The SCU's timers (R9, R11) -/

/-- An expiry first among those due is carried out by the row that names it (log entry 2). -/
theorem exec_first {c : Instr} {e : Expiry} (row : ∀ s, exec c s = .next (State.occur s e)) {s : State} {rest : List Expiry}
    (due : s.due = e :: rest) : exec c s = .next (({ s with due := rest } : State).fire e) := by
  rw [row, s.occur_first e rest due]

theorem State.due_feed (s : State) (rest : List Expiry) (f : FeedId) : ({ s with due := rest } : State).feed f = s.feed f := by
  cases f <;> rfl

/-- Settles O29. -/
theorem settleTimeoutAndCleanRun : Obligations.SettleTimeoutAndCleanRun := by
  intro n s rest
  set u : State := { s with due := rest } with hu
  have same : u.socket n = s.socket n := rfl
  have timeout := exec_first (c := .settleTimeout n) (fun _ => rfl) (s := s) (rest := rest)
  refine ⟨fun due settle => ?_, fun due other => ?_, fun due => ?_⟩
  · have runs : Cause.settleTimeout.runsIn (u.socket n).scu.state = true := by
      show ((s.socket n).scu.state == .settle) = true
      rw [settle]; rfl
    have left : s.ListsLeft u n _ _ s.reports := .of_eq (s.due_feed rest) rfl (fun _ _ => rfl) rfl rfl
    have socket := State.fail_socket runs
    have disposition : Cause.settleTimeout.disposition s.link.mode = if s.link.mode = .attended then .hold else .safe := by
      cases s.link.mode <;> rfl
    have state : ((u.fail n .settleTimeout).socket n).scu.state = Cause.settleTimeout.disposition s.link.mode := by
      rw [socket]; rfl
    refine ⟨_, timeout due, by simp [State.fire], u.fail_othersStay n .settleTimeout,
      (State.fail_failed runs).of_alike rfl rfl rfl (fun _ => rfl) rfl rfl ⟨rfl, rfl, rfl, rfl, rfl⟩ rfl rfl,
      state.trans disposition, fun attended => ?_, fun unattended => ?_⟩
    · obtain ⟨feeds, reports⟩ := State.fail_held runs (show Cause.settleTimeout.disposition s.link.mode = .hold by
        rw [disposition, if_pos attended])
      exact ⟨fun f => (feeds f).trans (s.due_feed rest f), reports⟩
    · have safe : Cause.settleTimeout.disposition u.link.mode = .safe := by
        show Cause.settleTimeout.disposition s.link.mode = .safe
        rw [unattended]; rfl
      rw [safe] at socket
      have after : (u.fire (.settleTimeout n)).socket n = _ := socket
      rw [after]
      exact ⟨(Socket.moved_rail_off _ rfl).2.1, (Socket.moved_safe_off _ rfl).2, left.failed runs safe⟩
  · have idle : Cause.settleTimeout.runsIn (u.socket n).scu.state = false := by
      show ((s.socket n).scu.state == .settle) = false
      simpa using other
    exact (timeout due).trans (congrArg _ (u.fail_discarded n _ idle))
  · refine ⟨_, exec_first (c := .cleanRunComplete n) (fun _ => rfl) due, rfl, fun m hm => ?_, ?_⟩
    · exact (u.modScu_socket n m _).trans (if_neg hm)
    · exact (u.modScu_socket n n _).trans (if_pos rfl)

end Sys2Proof.Machine
end

section
/-!
PROOFS. The link-silence expiry (R21, R162): its releases one after another, and a failure taken in its course.
-/

namespace Sys2Proof.Machine

/-! ### One release -/

/-- A socket released unattended: from HOLD to SAFE and counted, and as it was in every other state (R21). -/
def Socket.released (k : Socket) : Socket :=
  if k.scu.state = .hold then
    ({ k with account := { k.account with released := satInc 65535 k.account.released } } : Socket).moved .safe
  else k

/-- Two sockets that differ in nothing but the rail. -/
def Socket.SameButRail (k k' : Socket) : Prop := k' = { k with rail := k'.rail }

theorem Socket.SameButRail.refl (k : Socket) : k.SameButRail k := rfl

theorem Socket.SameButRail.trans {k k' k'' : Socket} (h : k.SameButRail k') (h' : k'.SameButRail k'') : k.SameButRail k'' := by
  unfold Socket.SameButRail at *
  rw [h', h]

theorem Socket.SameButRail.released {k k' : Socket} (h : k.SameButRail k') : k.released.SameButRail k'.released := by
  unfold Socket.SameButRail at *
  rw [h]
  unfold Socket.released
  dsimp only
  split <;> rfl

theorem State.releaseUnattended_hold {s : State} {n : Sock} (hold : (s.socket n).scu.state = .hold) :
    s.releaseUnattended n =
      (s.modSocket n fun k => { k with account := { k.account with released := satInc 65535 k.account.released } }).moveAdmit n .safe :=
  if_pos hold

theorem State.releaseUnattended_other {s : State} {n : Sock} (other : (s.socket n).scu.state ≠ .hold) : s.releaseUnattended n = s :=
  if_neg other

theorem State.releaseUnattended_socket (s : State) (n m : Sock) :
    (if m = n then (s.socket m).released else s.socket m).SameButRail ((s.releaseUnattended n).socket m) := by
  by_cases hold : (s.socket n).scu.state = .hold
  · rw [State.releaseUnattended_hold hold]
    by_cases e : m = n
    · subst e
      rw [State.moveAdmit_socket_self _ _ rfl, State.modSocket_socket, if_pos rfl, if_pos rfl, Socket.released, if_pos hold]
      exact .refl _
    · rw [if_neg e, State.moveAdmit, Socket.SameButRail, State.evaluate_socket, State.move_socket, if_neg e,
        State.modSocket_socket, if_neg e]
  · rw [State.releaseUnattended_other hold]
    split
    · rename_i e; subst e; rw [Socket.released, if_neg hold]; exact .refl _
    · exact .refl _

/-- The releases of a list release each of its sockets (R162). -/
theorem State.releases_socket (m : Sock) : ∀ (l : List Sock) (s : State), l.Nodup →
    (if m ∈ l then (s.socket m).released else s.socket m).SameButRail ((l.foldl State.releaseUnattended s).socket m)
  | [], s, _ => .refl _
  | n :: l, s, once => by
    obtain ⟨fresh, once⟩ := List.nodup_cons.mp once
    have rest := State.releases_socket m l (s.releaseUnattended n) once
    have first := s.releaseUnattended_socket n m
    rw [List.foldl_cons]
    by_cases e : m = n
    · subst e
      rw [if_neg fresh] at rest
      rw [if_pos rfl] at first
      rw [if_pos List.mem_cons_self]
      exact first.trans rest
    · rw [if_neg e] at first
      by_cases mem : m ∈ l
      · rw [if_pos mem] at rest
        rw [if_pos (List.mem_cons_of_mem n mem)]
        exact first.released.trans rest
      · rw [if_neg mem] at rest
        rw [if_neg (by simp [e, mem])]
        exact first.trans rest

theorem State.releaseAll_socket (s : State) (m : Sock) : (s.socket m).released.SameButRail (s.releaseAll.socket m) := by
  have all := State.releases_socket m allSocks s allSocks_nodup
  rw [if_pos (mem_allSocks m)] at all
  rw [State.releaseAll, State.raise_socket]
  exact all

theorem State.releases_frame (l : List Sock) (s : State) :
    (l.foldl State.releaseUnattended s).log = s.log ∧ (l.foldl State.releaseUnattended s).events = s.events ∧
    (l.foldl State.releaseUnattended s).due = s.due ∧ (l.foldl State.releaseUnattended s).link = s.link :=
  ⟨foldl_keeps State.log _ (by simp) l s, foldl_keeps State.events _ (by simp) l s, foldl_keeps State.due _ (by simp) l s,
    foldl_keeps State.link _ (by simp) l s⟩

theorem State.releaseAll_kept (s : State) : s.releaseAll.log = s.log ∧ s.releaseAll.due = s.due ∧ s.releaseAll.link = s.link := by
  obtain ⟨log, -, due, link⟩ := State.releases_frame allSocks s
  rw [State.releaseAll, State.raise_log, State.raise_due, State.raise_link]
  exact ⟨log, due, link⟩

/-- A release as R21 and R162 describe it. -/
theorem State.releasedOne {s : State} {n : Sock} (hold : (s.socket n).scu.state = .hold) :
    s.ReleasedOne (s.releaseUnattended n) n := by
  have here : s.ListsLeft s n _ _ s.reports := .of_eq (fun _ => rfl) rfl (fun _ _ => rfl) rfl rfl
  have counted : s.ListsLeft
      (s.modSocket n fun k => { k with account := { k.account with released := satInc 65535 k.account.released } }) n _ _ s.reports :=
    here.modSocket
  set v := s.modSocket n fun k => { k with account := { k.account with released := satInc 65535 k.account.released } } with hv
  have released : s.releaseUnattended n = v.moveAdmit n .safe := State.releaseUnattended_hold hold
  have socket : (v.moveAdmit n .safe).socket n =
      ({ s.socket n with account := { (s.socket n).account with released := satInc 65535 (s.socket n).account.released } } :
        Socket).moved .safe := by
    rw [State.moveAdmit_socket_self _ _ rfl, hv, State.modSocket_socket, if_pos rfl]
  have heat := Heat.moved_out (s.socket n).heat (before := (s.socket n).scu.state) (st := .safe) rfl
  rw [released]
  refine ⟨?_, ?_, ?_, ?_, ?_, counted.moveAdmit_out rfl, ?_, by simp [hv]⟩
  · rw [socket]; exact ⟨rfl, rfl⟩
  · rw [socket]; rfl
  · rw [socket]; rfl
  · rw [socket]; exact Socket.moved_rail_off _ rfl
  · rw [socket]; exact ⟨heat.1, heat.2.1, heat.2.2.1, heat.2.2.2.1⟩
  · rw [State.moveAdmit, (v.move n .safe).evaluate_frame (feedOf n) |>.2.2.2.2.1, (v.move_sets n .safe).1]
    rfl

theorem State.releasedInTurn : ∀ (l : List Sock) (s : State), (l.foldl State.releaseUnattended s).ReleasedInTurn l s
  | [], _ => rfl
  | n :: l, s => ⟨fun hold => ⟨_, State.releasedOne hold, State.releasedInTurn l _⟩, fun other => by
    rw [List.foldl_cons, State.releaseUnattended_other other]; exact State.releasedInTurn l s⟩

/-! ### The whole expiry -/

/-- Two rows of expiries have one effect on what R162 names, between the state `s` before and the state `t` after. -/
def State.Releases (s t : State) : Prop :=
  t.log = s.log ∧ (t.flag .unattended).isSet = true ∧
    (∀ e, e ≠ .unattended → t.flag e = s.flag e) ∧
    (∃ u : State, u.ReleasedInTurn allSocks { s with due := t.due, link := t.link } ∧ t = { u with events := t.events }) ∧
    ∀ n, (t.socket n).scu.state = (if (s.socket n).scu.state = .hold then .safe else (s.socket n).scu.state) ∧
      (t.socket n).scu.firstFail = (s.socket n).scu.firstFail ∧
      (t.socket n).account.firstCause = (s.socket n).account.firstCause ∧
      (t.socket n).account.released = (if (s.socket n).scu.state = .hold then
        satInc 65535 (s.socket n).account.released else (s.socket n).account.released) ∧
      SocketSet.has (t.flag .unattended).sockets n =
        (SocketSet.has (s.flag .unattended).sockets n || (s.socket n).scu.state == .hold)

theorem State.releases_releaseAll (s : State) (rest : List Expiry) (link : Link) :
    s.Releases ({ s with due := rest, link := link } : State).releaseAll := by
  set v : State := { s with due := rest, link := link } with hv
  obtain ⟨log, due, linked⟩ := v.releaseAll_kept
  have released : v.releaseAll = (allSocks.foldl State.releaseUnattended v).raise .unattended v.holdSet := by
    rw [State.releaseAll]
  have flag : ∀ e, (allSocks.foldl State.releaseUnattended v).flag e = s.flag e := fun e =>
    State.flag_congr (State.releases_frame allSocks v).2.1 e
  refine ⟨log, ?_, fun e he => ?_, ⟨allSocks.foldl State.releaseUnattended v, ?_, rfl⟩, fun n => ?_⟩
  · rw [released, State.flag_raise, if_pos rfl]
  · rw [released, State.flag_raise, if_neg he, flag]
  · have same : ({ s with due := v.releaseAll.due, link := v.releaseAll.link } : State) = v := by
      rw [due, linked]
    rw [same]
    exact State.releasedInTurn allSocks v
  · have socket := v.releaseAll_socket n
    have sets : SocketSet.has (v.releaseAll.flag .unattended).sockets n =
        (SocketSet.has (s.flag .unattended).sockets n || (s.socket n).scu.state == .hold) := by
      rw [released, State.flag_raise, if_pos rfl, flag]
      simp [State.holdSet, hv, State.socket]
    have same : v.socket n = s.socket n := rfl
    rw [same] at socket
    refine ⟨?_, ?_, ?_, ?_, sets⟩ <;> rw [socket, Socket.released] <;> split <;> rfl

/-- A cause that a HOLD socket can meet disposes of it to SAFE while the board is UNATTENDED (R17). -/
theorem Cause.unattended_safe (c : Cause) : c.disposition .unattended = .safe := by cases c <;> rfl

theorem Cause.flag_not_unattended (c : Cause) : c.flag ≠ .unattended := by cases c <;> decide

/-- Settles O30. -/
theorem theLinkSilenceExpires : Obligations.TheLinkSilenceExpires := by
  refine ⟨fun s rest due => ?_, fun n c s rest due waits hold runs => ?_, fun s rest due once => ?_⟩
  · have row : exec .linkSilenceExpiry s = .next (s.occur .linkSilence) := by
      simp [exec, execLinkSilenceExpiry, due]
    rw [s.occur_first _ rest due] at row
    set link : Link := { s.link with mode := .unattended, silence := 0 } with hl
    have fires : ({ s with due := rest } : State).fire .linkSilence = ({ s with due := rest, link := link } : State).releaseAll := rfl
    rw [fires] at row
    obtain ⟨-, due', linked⟩ := State.releaseAll_kept { s with due := rest, link := link }
    exact ⟨_, row, due', s.releases_releaseAll rest link, linked⟩
  · set v := ({ s with due := .releases :: rest } : State).goUnattended with hv
    have row : exec (.failureReportTaken n c) s = .next (v.takeReport n (.failure c) (·.taken n (.failure c))) := by
      rw [exec_report (c := .failureReportTaken n c) rfl, s.beforeReport_silence rest due]
    have waits' : v.Waits n (.failure c) := ⟨waits.inTurn, waits.noNotice⟩
    rw [waits'.takeReport] at row
    set u := v.drop ⟨n, .failure c⟩ with hu
    have socket : u.socket n = s.socket n := rfl
    have runs' : c.runsIn (u.socket n).scu.state = true := by rw [socket, hold]; exact runs
    have safe : c.disposition u.link.mode = .safe := c.unattended_safe
    have after := State.fail_socket runs'
    rw [safe, socket] at after
    refine ⟨_, row, ?_, ?_, ?_, u.fail_othersStay n c, ?_, ?_, ?_, fun room => ⟨u.failRecord n c, ?_, rfl, rfl, hold, safe, rfl, rfl⟩⟩
    · simp [State.taken, hu, hv]
    · simp [State.taken, hu, hv, State.goUnattended]
    · simp [State.taken, hu, hv, State.goUnattended]
    · rw [State.taken, after]; rfl
    · rw [State.taken, after]
      cases u.kindOf n <;> rfl
    · rw [State.taken, State.fail_flag runs', if_neg (Ne.symm c.flag_not_unattended), State.logRecord_flag]
      have flag : u.flag .unattended = s.flag .unattended := rfl
      rw [flag]
      simp
    · have log : u.log = s.log := rfl
      rw [State.taken, State.fail_log runs', State.logRecord_log, log, if_pos room]
  · have row : exec .linkSilenceExpiry s = .next (s.occur .releases) := by
      simp [exec, execLinkSilenceExpiry, due, once]
    rw [s.occur_first _ rest due] at row
    have fires : ({ s with due := rest } : State).fire .releases = ({ s with due := rest, link := s.link } : State).releaseAll := rfl
    rw [fires] at row
    obtain ⟨-, due', linked⟩ := State.releaseAll_kept { s with due := rest, link := s.link }
    exact ⟨_, row, due', linked, s.releases_releaseAll rest s.link⟩

end Sys2Proof.Machine
end

section
/-!
PROOFS. A sample tick (R37 to R46): what it does to each position and to each feed, and what it makes due, in its order.
-/

namespace Sys2Proof.Machine

/-! ### One position (R37 to R45, R50) -/

theorem Motion.isMove_iff (m : Motion) : m.isMove = true ↔ ∃ k limit, m = .move k limit := by
  cases m <;> simp [Motion.isMove]

/-- A sample is in band when it is within the band of its target on either side (R41). -/
theorem inBand_eq (target mv : Nat) :
    inBand target mv = decide (mv ≤ target + max 20 (target * 2 / 100) ∧ target ≤ mv + max 20 (target * 2 / 100)) := by
  unfold inBand distance band
  congr 1
  exact propext ⟨fun h => by omega, fun h => by omega⟩

theorem SocketState.regulated_iff (st : SocketState) : st.regulated = true ↔ st ∈ [SocketState.settle, .run, .pause, .hold] := by
  cases st <;> decide

/-- What a sample tick leaves of every position, listed or not. -/
theorem Socket.sample_kept (k : Socket) (listed : Bool) (tripMax : Nat) (x : SenseReading) :
    (k.sample listed tripMax x).scu.state = k.scu.state ∧ (k.sample listed tripMax x).heat = k.heat ∧
    (k.sample listed tripMax x).credit = k.credit ∧ (k.sample listed tripMax x).lane = k.lane ∧
    (k.sample listed tripMax x).rail.sensedMv = x.mv ∧
    (k.sample listed tripMax x).rail.sensedMa = (max 0 (min 25500 (x.ma - k.rail.offset))).toNat ∧
    (k.sample listed tripMax x).rail.offset = k.rail.offset ∧
    (k.sample listed tripMax x).rail.commanded = k.rail.commanded ∧
    (k.sample listed tripMax x).scu.unqualifiedSinceRead = (k.scu.unqualifiedSinceRead || (k.scu.state.powered &&
      !(((k.sample listed tripMax x).rail.qualified || (listed && (k.sample listed tripMax x).rail.qualCount == 20)) &&
        !(listed && (k.sample listed tripMax x).rail.tripFilter == 3)))) ∧
    (k.sample listed tripMax x).rail.calibration = (k.rail.calibration.map fun c =>
      if c.ticks < 64 then { sum := c.sum + x.ma, ticks := c.ticks + 1 } else c) := by
  cases listed with
  | false => exact ⟨rfl, rfl, rfl, rfl, rfl, rfl, rfl, rfl, rfl, rfl⟩
  | true =>
    refine ⟨rfl, rfl, rfl, rfl, rfl, rfl, rfl, rfl, ?_, rfl⟩
    simp only [Socket.sample, if_true, Bool.true_and, Rail.qualifies, Rail.trips]
    generalize ((k.rail.calibrate x).sense x).monitor k.scu.state tripMax = r
    cases r.qualified <;> simp

/-- Of a position off the order lists nothing is stepped or monitored (R33, R37). -/
theorem Socket.sample_unlisted (k : Socket) (tripMax : Nat) (x : SenseReading) :
    (k.sample false tripMax x).rail.output = k.rail.output ∧ (k.sample false tripMax x).rail.qualified = k.rail.qualified ∧
    (k.sample false tripMax x).rail.qualCount = k.rail.qualCount ∧ (k.sample false tripMax x).rail.tripFilter = k.rail.tripFilter ∧
    (k.sample false tripMax x).rail.motion = k.rail.motion ∧ (k.sample false tripMax x).rail.unregCount = k.rail.unregCount ∧
    (k.sample false tripMax x).rail.contactCount = k.rail.contactCount ∧
    (k.sample false tripMax x).account.peakMa = k.account.peakMa := ⟨rfl, rfl, rfl, rfl, rfl, rfl, rfl, rfl⟩

/-- A position of an order list is stepped and monitored (R38, R40 to R43, R45, R134). -/
theorem Socket.sample_listed (k : Socket) (tripMax : Nat) (x : SenseReading) :
    let r := k.rail
    let r' := (k.sample true tripMax x).rail
    let band := max 20 (r.commanded * 2 / 100)
    let good := decide (r'.sensedMv ≤ r.commanded + band ∧ r.commanded ≤ r'.sensedMv + band)
    r'.output = (if r.output < r.commanded then min r.commanded (r.output + r.profile.slew)
      else max r.commanded (r.output - r.profile.slew)) ∧
    r'.qualCount = (if good then min 20 (r.qualCount + 1) else 0) ∧ r'.qualified = (r.qualified && good) ∧
    r'.tripFilter = (if min r.profile.trip tripMax < r'.sensedMa then min 3 (r.tripFilter + 1) else 0) ∧
    (k.sample true tripMax x).account.peakMa = max k.account.peakMa r'.sensedMa ∧
    r'.unregCount = (if k.scu.state ∈ [SocketState.settle, .run, .pause, .hold] ∧ r.motion.isMove = false ∧ good = false then
      min 100 (r.unregCount + 1) else 0) ∧
    r'.contactCount = (if k.scu.state = .run ∧ r'.sensedMa < r.profile.under then min 1000 (r.contactCount + 1) else 0) ∧
    r'.motion = r.motion.tick := by
  intro r r' band good
  have inband : inBand r.commanded r'.sensedMv = good := inBand_eq _ _
  have monitored : r' = ((k.rail.calibrate x).sense x).monitor k.scu.state tripMax := rfl
  refine ⟨rfl, by rw [← inband]; rfl, by rw [← inband]; rfl, rfl, rfl, ?_, ?_, rfl⟩
  · rw [← inband]
    have count : r'.unregCount =
        if k.scu.state.regulated && !r.motion.isMove && !inBand r.commanded r'.sensedMv then min 100 (r.unregCount + 1) else 0 := rfl
    rw [count]
    refine if_congr ?_ rfl rfl
    rw [← SocketState.regulated_iff, Bool.and_eq_true, Bool.and_eq_true, Bool.not_eq_true', Bool.not_eq_true', and_assoc]
  · have count : r'.contactCount =
        if k.scu.state == .run && decide (r'.sensedMa < r.profile.under) then min 1000 (r.contactCount + 1) else 0 := rfl
    rw [count]
    simp only [Bool.and_eq_true, beq_iff_eq, decide_eq_true_eq]

/-! ### The tick -/

theorem State.sampleTick_socket (s : State) (readings : Vector SenseReading 16) (n : Sock) :
    (s.sampleTick readings).socket n = (s.socket n).sample (s.inOrder n) s.identity.tripMax (readings.get n) :=
  (State.socket_congr (t := s.mapSockets fun n k => k.sample (s.inOrder n) s.identity.tripMax (readings.get n))
    (by simp [State.sampleTick]) n).trans (s.mapSockets_socket n _)

/-- The board with every position sampled, before the feeds are summed. -/
def State.sampled (s : State) (readings : Vector SenseReading 16) : State :=
  s.mapSockets fun n k => k.sample (s.inOrder n) s.identity.tripMax (readings.get n)

/-- The board with both feeds summed, before anything is due. -/
def State.summed (s : State) (readings : Vector SenseReading 16) : State :=
  ((s.sampled readings).modFeed .a fun g => g.overLimit ((s.sampled readings).measure .a)).modFeed .b fun g =>
    g.overLimit ((s.sampled readings).measure .b)

theorem State.sampleTick_eq (s : State) (readings : Vector SenseReading 16) :
    s.sampleTick readings =
      { s.summed readings with
          due := (s.summed readings).due ++ (s.summed readings).feedExpiries .a ++ (s.summed readings).feedExpiries .b ++
            (s.summed readings).calibrationExpiries } := rfl

theorem State.sampleTick_feed (s : State) (readings : Vector SenseReading 16) (f : FeedId) :
    (s.sampleTick readings).feed f = (s.feed f).overLimit ((s.sampled readings).measure f) := by
  cases f <;> rfl

theorem State.sampled_socket (s : State) (readings : Vector SenseReading 16) (n : Sock) :
    (s.sampled readings).socket n = (s.sampleTick readings).socket n := by
  rw [State.sampleTick_socket]; exact s.mapSockets_socket n _

/-- The measured current of a feed after a tick (R37, R46). -/
theorem State.sampled_measure (s : State) (readings : Vector SenseReading 16) (f : FeedId) :
    (s.sampled readings).measure f =
      (((s.feed f).order.filter fun n => decide (((s.sampleTick readings).socket n).rail.tripFilter ≠ 3)).map fun n =>
        ((s.sampleTick readings).socket n).rail.sensedMa).sum := by
  have feed : (s.sampled readings).feed f = s.feed f := s.mapSockets_feed _ f
  have trips : (fun n => !(s.sampled readings).tripsNow n) =
      fun n => decide (((s.sampleTick readings).socket n).rail.tripFilter ≠ 3) := funext fun n => by
    rw [State.tripsNow, State.sampled_socket, Rail.trips, decide_not]
    rfl
  rw [State.measure, feed, trips]
  simp only [State.sampled_socket]

theorem flatten_map_ite {α β : Type} (p : α → Bool) (g : α → List β) (l : List α) :
    (l.map fun n => if p n then g n else []).flatten = ((l.filter p).map g).flatten := by
  induction l with
  | nil => rfl
  | cons a l ih => cases h : p a <;> simp [h, ih]

/-- What a listed rail makes due at a tick (R39 to R45; log entry 9). -/
theorem State.expiries_eq_railDue {s t : State} {n : Sock} (motion : (t.socket n).rail.motion = (s.socket n).rail.motion.tick) :
    (t.socket n).rail.expiries n = s.railDue t n := by
  unfold State.railDue Rail.expiries Rail.failsToQualify Rail.qualifies Rail.trips
  simp only [motion, beq_iff_eq, Bool.and_eq_true, Bool.not_eq_true']
  congr 3
  cases (s.socket n).rail.motion with
  | still => simp [Motion.tick, Motion.timedOut]
  | ramp k limit => cases (t.socket n).rail.qualified <;> simp [Motion.tick, Motion.timedOut, Motion.isMove]
  | move k limit => cases (t.socket n).rail.qualified <;> simp [Motion.tick, Motion.timedOut, Motion.isMove]

/-- What a tick makes due of one feed, in its order (R37, R46; log entry 33). -/
theorem State.feedExpiries_eq_feedDue {s t u : State} (f : FeedId) (socket : ∀ n, u.socket n = t.socket n)
    (feed : ∀ f, u.feed f = t.feed f) (order : ∀ f, (t.feed f).order = (s.feed f).order)
    (motion : ∀ n, s.inOrder n = true → (t.socket n).rail.motion = (s.socket n).rail.motion.tick) :
    u.feedExpiries f = s.feedDue t f := by
  have inOrder : ∀ n, u.inOrder n = s.inOrder n := fun n => by rw [State.inOrder, State.inOrder, feed, order]
  unfold State.feedExpiries State.feedDue
  rw [feed]
  congr 1
  simp only [inOrder, socket]
  rw [flatten_map_ite (p := s.inOrder), feedSocks, List.filter_filter]
  have listed : (allSocks.filter fun n => s.inOrder n && feedOf n == f) =
      (List.finRange 16).filter fun n => feedOf n == f && s.inOrder n := List.filter_congr fun n _ => Bool.and_comm _ _
  rw [listed]
  congr 1
  refine List.map_congr_left fun n hn => State.expiries_eq_railDue (motion n ?_)
  have both := (List.mem_filter.mp hn).2
  rw [Bool.and_eq_true] at both
  exact both.2

/-- What a sample tick makes due, in its order (log entry 33). -/
theorem State.sampleTick_dueList (s : State) (readings : Vector SenseReading 16) (t : State) (ht : t = s.sampleTick readings) :
    t.due = s.due ++ s.feedDue t .a ++ s.feedDue t .b ++
      ((List.finRange 16).filter fun n => (t.socket n).rail.calibration.any fun c => c.ticks == 64).map .calibrationEnd := by
  have order : ∀ f, (t.feed f).order = (s.feed f).order := fun f => by rw [ht, State.sampleTick_feed]; rfl
  have motion : ∀ n, s.inOrder n = true → (t.socket n).rail.motion = (s.socket n).rail.motion.tick := fun n listed => by
    rw [ht, State.sampleTick_socket, listed]; rfl
  set u := s.summed readings with hu
  have sockets : u.sockets = t.sockets := by rw [ht, State.sampleTick_eq]
  have feedA : u.feedA = t.feedA := by rw [ht, State.sampleTick_eq]
  have feedB : u.feedB = t.feedB := by rw [ht, State.sampleTick_eq]
  have due : t.due = s.due ++ u.feedExpiries .a ++ u.feedExpiries .b ++ u.calibrationExpiries := by
    have none : u.due = s.due := by simp only [hu, State.summed, State.sampled, State.modFeed_due, State.mapSockets_due]
    rw [ht, State.sampleTick_eq, ← hu]
    dsimp only
    rw [none]
  have socket : ∀ n, u.socket n = t.socket n := State.socket_congr sockets
  have feed : ∀ f, u.feed f = t.feed f := State.feed_congr feedA feedB
  rw [due, State.feedExpiries_eq_feedDue .a socket feed order motion, State.feedExpiries_eq_feedDue .b socket feed order motion,
    State.calibrationExpiries]
  simp only [socket, allSocks]

/-- Settles O32. -/
theorem aSampleTick : Obligations.ASampleTick := by
  refine ⟨Motion.isMove_iff, fun readings s due started => ?_⟩
  have row : exec (.sampleTick readings) s = .next (s.sampleTick readings) := by
    simp only [exec, execSampleTick, s.settled_of_none due, if_neg started]
  refine ⟨_, row, ?_, ?_, ?_, ?_, ?_, ?_, ?_, fun f => ?_, fun n => ?_⟩
  · simp [State.sampleTick]
  · simp [State.sampleTick]
  · simp [State.sampleTick]
  · simp [State.sampleTick]
  · simp [State.sampleTick]
  · simp [State.sampleTick]
  · rw [s.sampleTick_dueList readings _ rfl, due, List.nil_append]
  · have measured := s.sampled_measure readings f
    rw [State.sampleTick_feed]
    exact ⟨rfl, rfl, measured, rfl⟩
  · intro r r' band good
    have socket := s.sampleTick_socket readings n
    obtain ⟨state, heat, credit, lane, mv, ma, offset, commanded, unqualified, calibration⟩ :=
      (s.socket n).sample_kept (s.inOrder n) s.identity.tripMax (readings.get n)
    rw [← socket] at state heat credit lane mv ma offset commanded unqualified calibration
    refine ⟨state, heat, credit, lane, mv, ma, offset, commanded, unqualified, calibration, fun off => ?_, fun on => ?_⟩
    · rw [off] at socket
      have kept := (s.socket n).sample_unlisted s.identity.tripMax (readings.get n)
      rwa [← socket] at kept
    · rw [on] at socket
      have stepped := (s.socket n).sample_listed s.identity.tripMax (readings.get n)
      rw [← socket] at stepped
      obtain ⟨output, qualCount, qualified, tripFilter, peakMa, unregCount, contactCount, motion⟩ := stepped
      refine ⟨output, qualCount, qualified, tripFilter, peakMa, unregCount, contactCount, fun e => ?_, fun k limit e => ?_,
        fun k limit e => ?_⟩ <;> exact motion.trans (by rw [e]; rfl)

end Sys2Proof.Machine
end

section
/-!
PROOFS. The engine's rate, the SCU's decisions for the sockets that wait in SETTLE, and the engine's becoming IDLE (R8, R102, R107).
-/

namespace Sys2Proof.Machine

/-! ### The rate (R107) -/

theorem State.allPermit_iff (s : State) (r : Rate) :
    s.allPermit r = true ↔ ∀ n, SocketSet.has s.engine.powered n = true → s.permits n r = true := by
  simp only [State.allPermit, List.all_eq_true, mem_allSocks, true_imp_iff, Bool.or_eq_true, Bool.not_eq_true']
  exact forall_congr' fun n => by cases SocketSet.has s.engine.powered n <;> simp

theorem State.allPermit_false_iff (s : State) (r : Rate) :
    s.allPermit r = false ↔ ∃ n, SocketSet.has s.engine.powered n = true ∧ s.permits n r = false := by
  rw [← Bool.not_eq_true, State.allPermit_iff]
  simp only [not_forall, Bool.not_eq_true, exists_prop]

/-- The rate that the PEN computes is the highest that every powered socket permits (R107). -/
theorem State.highestRate_isHighest (s : State) : s.IsHighestRate s.highestRate := by
  unfold State.highestRate
  split_ifs with h4 h3 h2
  · exact ⟨.inr (s.allPermit_iff .r4 |>.mp h4), fun q hq => absurd hq (by cases q <;> decide)⟩
  · have no4 := (s.allPermit_false_iff .r4).mp (by simpa using h4)
    refine ⟨.inr (s.allPermit_iff .r3 |>.mp h3), fun q hq => ?_⟩
    cases q
    case r4 => exact no4
    all_goals exact absurd hq (by decide)
  · have no4 := (s.allPermit_false_iff .r4).mp (by simpa using h4)
    have no3 := (s.allPermit_false_iff .r3).mp (by simpa using h3)
    refine ⟨.inr (s.allPermit_iff .r2 |>.mp h2), fun q hq => ?_⟩
    cases q
    case r4 => exact no4
    case r3 => exact no3
    all_goals exact absurd hq (by decide)
  · have no4 := (s.allPermit_false_iff .r4).mp (by simpa using h4)
    have no3 := (s.allPermit_false_iff .r3).mp (by simpa using h3)
    have no2 := (s.allPermit_false_iff .r2).mp (by simpa using h2)
    refine ⟨.inl rfl, fun q hq => ?_⟩
    cases q
    case r4 => exact no4
    case r3 => exact no3
    case r2 => exact no2
    exact absurd hq (by decide)

/-- The highest rate depends on the powered set and the rate sets alone. -/
theorem State.highestRate_congr {s t : State} (powered : t.engine.powered = s.engine.powered)
    (permits : ∀ n, t.permits n = s.permits n) : t.highestRate = s.highestRate := by
  have all : ∀ r, t.allPermit r = s.allPermit r := fun r => by simp [State.allPermit, powered, permits]
  simp [State.highestRate, all]

theorem State.IsHighestRate.congr {s t : State} {r : Rate} (h : s.IsHighestRate r) (powered : t.engine.powered = s.engine.powered)
    (permits : ∀ n, t.permits n = s.permits n) : t.IsHighestRate r := by
  unfold State.IsHighestRate at h ⊢
  rwa [powered, funext permits]

theorem State.permits_eq {s t : State} {n : Sock} (profile : (t.socket n).rail.profile = (s.socket n).rail.profile) :
    t.permits n = s.permits n := by
  funext r; rw [State.permits, State.permits, profile]

theorem State.permits_move (s : State) (n : Sock) (st : SocketState) (m : Sock) : (s.move n st).permits m = s.permits m :=
  State.permits_eq (by
    rw [State.move_socket]
    split
    · rename_i e; subst e; exact Rail.moved_profile _ _
    · rfl)

/-- A move while the engine is IDLE leaves the highest rate in force (R107). -/
theorem State.move_highest {s : State} (idle : s.engine.state = .idle) (rate : s.engine.rate = s.highestRate) (n : Sock)
    (st : SocketState) : (s.move n st).engine.rate = (s.move n st).highestRate := by
  have permits := s.permits_move n st
  unfold State.move at permits ⊢
  dsimp only at permits ⊢
  set listed := if st.powered then s.modSocket n fun k => k.moved st
    else (s.modSocket n fun k => k.moved st).modFeed (feedOf n) fun g => g.leave n with hl
  have engine : listed.engine = s.engine := by rw [hl]; split <;> simp
  set v : State := { listed with engine := listed.engine.follow n st } with hv
  have state : v.engine.state = .idle := by simp [hv, engine, Engine.follow, idle]
  have same : ∀ x, (v.rateAfter x).highestRate = v.highestRate := fun x =>
    State.highestRate_congr (by unfold State.rateAfter; split <;> rfl) fun m => by
      funext r; rw [State.permits, State.permits, State.rateAfter_socket]
  have permits' : ∀ m, v.permits m = s.permits m := fun m => by
    rw [← permits m]
    funext r; rw [State.permits, State.permits, State.rateAfter_socket]
  rw [same]
  unfold State.rateAfter
  split
  · rfl
  next stays =>
    have powered : v.engine.powered = s.engine.powered := by
      by_contra ne; exact stays ⟨state, ne⟩
    rw [State.highestRate_congr powered permits', ← rate]
    simp [hv, engine, Engine.follow]

/-! ### The decisions for the sockets that wait (R8) -/

/-- Everything of the engine but its sets and its rate. -/
def Engine.course (g : Engine) : Engine := { g with powered := 0#16, participants := 0#16, rate := .r1 }

theorem State.move_course (s : State) (n : Sock) (st : SocketState) : (s.move n st).engine.course = s.engine.course := by
  obtain ⟨-, -, state, table, loopIndex, current, held, applied, repeatsLeft, lastStop, stimulus⟩ := s.move_sets n st
  simp only [Engine.course, state, table, loopIndex, current, held, applied, repeatsLeft, lastStop, stimulus]

theorem State.settleToRun_keeps {β : Type} (p : State → β) (h : ∀ (s : State) n, p (s.move n .run) = p s) (s : State) (n : Sock) :
    p (s.settleToRun n) = p s := by
  unfold State.settleToRun
  split
  · exact h s n
  · rfl

/-- What a move to RUN leaves alone, the decisions of R8 leave alone. -/
theorem State.decideAll_keeps {β : Type} (p : State → β) (h : ∀ (s : State) n, p (s.move n .run) = p s) (s : State) :
    p s.decideAll = p s := foldl_keeps p _ (State.settleToRun_keeps p h) _ s

theorem State.decideAll_holds {P : State → Prop} (h : ∀ (s : State) n, P s → P (s.move n .run)) {s : State} (hs : P s) :
    P s.decideAll :=
  foldl_holds _ (fun t n ht => by
    unfold State.settleToRun
    split
    · exact h t n ht
    · exact ht) hs

theorem State.decideAll_course (s : State) : s.decideAll.engine.course = s.engine.course :=
  State.decideAll_keeps (fun t => t.engine.course) (fun t n => t.move_course n .run) s

theorem State.decideAll_feed (s : State) (f : FeedId) : s.decideAll.feed f = s.feed f :=
  State.decideAll_keeps (fun t => t.feed f) (fun t n => by rw [State.move_feed, if_neg (by simp [SocketState.powered])]) s

theorem State.decideAll_rate {s : State} (running : s.engine.state ≠ .idle) : s.decideAll.engine.rate = s.engine.rate := by
  have both : s.decideAll.engine.state ≠ .idle ∧ s.decideAll.engine.rate = s.engine.rate :=
    State.decideAll_holds (P := fun t => t.engine.state ≠ .idle ∧ t.engine.rate = s.engine.rate)
      (fun t n ⟨state, rate⟩ => ⟨by rw [(t.move_sets n .run).2.2.1]; exact state, (t.move_rate n .run state).trans rate⟩)
      ⟨running, rfl⟩
  exact both.2

/-- While IDLE the decisions of R8 leave the highest rate in force, and nobody takes part. -/
theorem State.decideAll_idle {s : State} (idle : s.engine.state = .idle) (rate : s.engine.rate = s.highestRate)
    (participants : s.engine.participants = 0#16) :
    s.decideAll.engine.rate = s.decideAll.highestRate ∧ s.decideAll.engine.participants = 0#16 := by
  have all := State.decideAll_holds
    (P := fun t => t.engine.state = .idle ∧ t.engine.rate = t.highestRate ∧ t.engine.participants = 0#16)
    (fun t n ⟨state, rate, nobody⟩ => ⟨by rw [(t.move_sets n .run).2.2.1]; exact state, State.move_highest state rate n .run, by
      rw [(t.move_sets n .run).2.1]
      exact SocketSet.ext fun m => by simp [Engine.follow, nobody]⟩) (s := s) ⟨idle, rate, participants⟩
  exact all.2

/-- The decision of R8 for a socket: it enters RUN or stays. -/
theorem State.mayRun_iff (s : State) (n : Sock) :
    s.mayRun n = true ↔ (s.socket n).scu.state = .settle ∧ (s.socket n).scu.settledMark = true ∧
      (s.engine.state = .idle ∨ s.permits n s.engine.rate = true) := by
  simp [State.mayRun, and_assoc]

/-- Between two states the sockets that wait and may run have entered RUN, and no other has moved (R8). -/
theorem State.WaitersRun.of_sockets {s t : State} {may : Sock → Bool} (stays : Sock → Prop)
    (goes : ∀ n, ¬stays n ↔ (s.socket n).scu.state = .settle ∧ (s.socket n).scu.settledMark = true ∧ may n = true)
    (run : ∀ n, ¬stays n → (t.socket n).scu.state = .run ∧ (t.socket n).scu.settledMark = false ∧ (t.socket n).account.mirror = .run)
    (kept : ∀ n, stays n → (t.socket n).scu.state = (s.socket n).scu.state ∧
      (t.socket n).scu.settledMark = (s.socket n).scu.settledMark ∧ (t.socket n).account.mirror = (s.socket n).account.mirror) :
    s.WaitersRun t may := fun n =>
  ⟨fun h => run n ((goes n).mpr h), fun h => kept n (by_contra fun x => h ((goes n).mp x))⟩

/-! ### The engine becomes IDLE (R102) -/

/-- The board with the engine stopped, the results in progress dropped and the rate fixed, before the decisions of R8. -/
def State.halted (s : State) (cause : StopCause) : State :=
  ({ s with engine := s.engine.stopped cause } : State).dropResults.recomputeRate

theorem State.idle_eq (s : State) (cause : StopCause) : s.idle cause = (s.halted cause).decideAll := rfl

theorem State.halted_socket (s : State) (cause : StopCause) (n : Sock) :
    (s.halted cause).socket n = { s.socket n with lane := { (s.socket n).lane with result := {} } } := by
  simp only [State.halted, State.recomputeRate_socket, State.dropResults, State.mapSockets_socket]
  rfl

theorem State.halted_mayRun (s : State) (cause : StopCause) (n : Sock) :
    (s.halted cause).mayRun n = true ↔ (s.socket n).scu.state = .settle ∧ (s.socket n).scu.settledMark = true := by
  have idle : (s.halted cause).engine.state = .idle := rfl
  rw [State.mayRun_iff, State.halted_socket]
  simp [idle]

theorem State.idle_socket (s : State) (cause : StopCause) (n : Sock) :
    (s.idle cause).socket n =
      if (s.socket n).scu.state = .settle ∧ (s.socket n).scu.settledMark = true then
        ({ s.socket n with lane := { (s.socket n).lane with result := {} } } : Socket).moved .run
      else { s.socket n with lane := { (s.socket n).lane with result := {} } } := by
  rw [State.idle_eq, State.decideAll_socket, State.halted_socket]
  exact if_congr (s.halted_mayRun cause n) rfl rfl

theorem Socket.dropped_moved_lane (k : Socket) (st : SocketState) :
    (({ k with lane := { k.lane with result := {} } } : Socket).moved st).lane = { k.lane with result := {} } := by
  simp [Socket.moved]

theorem State.idle_lane (s : State) (cause : StopCause) (n : Sock) :
    ((s.idle cause).socket n).lane = { (s.socket n).lane with result := {} } := by
  rw [State.idle_socket]
  split
  · exact Socket.dropped_moved_lane _ _
  · exact (rfl : ({ s.socket n with lane := { (s.socket n).lane with result := {} } } : Socket).lane = _)

theorem State.idle_feed (s : State) (cause : StopCause) (f : FeedId) : (s.idle cause).feed f = s.feed f := by
  rw [State.idle_eq, State.decideAll_feed]
  cases f <;> rfl

theorem State.idle_waitersRun (s : State) (cause : StopCause) : s.WaitersRun (s.idle cause) fun _ => true := by
  refine .of_sockets (fun n => ¬((s.socket n).scu.state = .settle ∧ (s.socket n).scu.settledMark = true)) (fun n => by simp)
    (fun n h => ?_) fun n h => ?_
  · rw [State.idle_socket, if_pos (not_not.mp h)]; exact ⟨rfl, rfl, rfl⟩
  · rw [State.idle_socket, if_neg h]; exact ⟨rfl, rfl, rfl⟩

/-- The engine that has become IDLE: no entry, nobody takes part, the lines low, the highest rate in force (R102, R107). -/
structure State.Halted (s t : State) (cause : StopCause) : Prop where
  state : t.engine.state = .idle
  lastStop : t.engine.lastStop = cause
  current : t.engine.current = none
  repeatsLeft : t.engine.repeatsLeft = 0
  participants : t.engine.participants = 0#16
  stimulus : t.engine.stimulus = 0#16
  loopIndex : t.engine.loopIndex = s.engine.loopIndex
  rate : t.IsHighestRate t.engine.rate

theorem State.recomputeRate_highest (s : State) : s.recomputeRate.engine.rate = s.recomputeRate.highestRate :=
  (State.highestRate_congr (s := s) (t := s.recomputeRate) (by rw [State.recomputeRate_engine]) fun m => by
    funext r; rw [State.permits, State.permits, State.recomputeRate_socket]).symm

theorem State.halted_rate (s : State) (cause : StopCause) : (s.halted cause).engine.rate = (s.halted cause).highestRate :=
  State.recomputeRate_highest _

theorem State.halted_engine (s : State) (cause : StopCause) :
    (s.halted cause).engine = { s.engine.stopped cause with rate := (s.halted cause).highestRate } := by
  rw [← State.halted_rate]
  simp [State.halted]

theorem State.idle_halted (s : State) (cause : StopCause) : s.Halted (s.idle cause) cause := by
  have course := State.decideAll_course (s.halted cause)
  obtain ⟨highest, nobody⟩ := State.decideAll_idle (s := s.halted cause) (by rw [State.halted_engine]; rfl)
    (s.halted_rate cause) (by rw [State.halted_engine]; rfl)
  rw [State.halted_engine] at course
  rw [State.idle_eq]
  generalize (s.halted cause).decideAll = t at *
  simp only [Engine.course, Engine.stopped, Engine.mk.injEq, true_and] at course
  obtain ⟨state, current, held, repeatsLeft, loopIndex, lastStop, applied, stimulus, table⟩ := course
  exact ⟨state, lastStop, current, repeatsLeft, nobody, stimulus, loopIndex, by rw [highest]; exact t.highestRate_isHighest⟩

theorem State.Halted.congr {s t u : State} {cause : StopCause} (h : s.Halted t cause) (engine : u.engine = t.engine)
    (permits : ∀ n, u.permits n = t.permits n) : s.Halted u cause :=
  ⟨by rw [engine, h.state], by rw [engine, h.lastStop], by rw [engine, h.current], by rw [engine, h.repeatsLeft],
    by rw [engine, h.participants], by rw [engine, h.stimulus], by rw [engine, h.loopIndex],
    by rw [engine]; exact h.rate.congr (by rw [engine]) permits⟩

end Sys2Proof.Machine
end

section
/-!
PROOFS. A second tick (R9, R11, R123 to R128, R160, R180): the factor, the accrual, the SCU's timers and the silence count.
-/

namespace Sys2Proof.Machine

/-! ### A step per socket, folded over the sockets -/

/-- Steps that each change their own socket, by a rule that earlier steps leave as it was, change every socket by that rule. -/
theorem foldl_socket {f : State → Sock → State} (g : State → Sock → Socket)
    (each : ∀ s n m, (f s n).socket m = if m = n then g s n else s.socket m) (later : ∀ s n m, m ≠ n → g (f s n) m = g s m)
    (m : Sock) : ∀ (l : List Sock) (s : State), l.Nodup → (l.foldl f s).socket m = if m ∈ l then g s m else s.socket m
  | [], s, _ => by simp
  | n :: l, s, once => by
    obtain ⟨fresh, once⟩ := List.nodup_cons.mp once
    rw [List.foldl_cons, foldl_socket g each later m l _ once, each]
    by_cases e : m = n
    · subst e; simp [fresh]
    · simp [e, later s n m e]

/-- Steps that each append to a list, by a rule that earlier steps leave as it was, append what the rule gives in turn. -/
theorem foldl_appends {α : Type} {f : State → Sock → State} (p : State → List α) (g : State → Sock → List α)
    (each : ∀ s n, p (f s n) = p s ++ g s n) (later : ∀ s n m, m ≠ n → g (f s n) m = g s m) :
    ∀ (l : List Sock) (s : State), l.Nodup → p (l.foldl f s) = p s ++ (l.map (g s)).flatten
  | [], s, _ => by simp
  | n :: l, s, once => by
    obtain ⟨fresh, once⟩ := List.nodup_cons.mp once
    rw [List.foldl_cons, foldl_appends p g each later l _ once, each, List.map_cons, List.flatten_cons, List.append_assoc]
    rw [List.map_congr_left fun m hm => later s n m fun e => fresh (e ▸ hm)]

/-! ### The factor (R123) -/

theorem interpolate_toInt (a b : FactorPoint) (t : Int) :
    (interpolate a b t : Int) = max 0 (a.factor + (((b.factor : Int) - a.factor) * (t - a.temp)).tdiv (b.temp - a.temp)) := by
  rw [interpolate, Int.toNat_eq_max, max_comm]

/-- Above every point the factor is that of the last (R123). -/
theorem factorAfter_last {t : Int} (rest : List FactorPoint) (a : FactorPoint) (below : ∀ q ∈ rest, q.temp ≤ t) :
    ∀ last ∈ (a :: rest).getLast?, factorAfter a t rest = last.factor := by
  induction rest generalizing a with
  | nil => intro last h; cases h; rfl
  | cons b rest ih =>
    intro last h
    rw [factorAfter, if_pos (below b (by simp))]
    exact ih b (fun q hq => below q (List.mem_cons_of_mem _ hq)) last (by rwa [List.getLast?_cons_cons] at h)

/-- Between two neighbouring points the factor is interpolated (R123). -/
theorem factorAfter_between {t : Int} {a b : FactorPoint} {after : List FactorPoint} (ht : t < b.temp) (ha : a.temp ≤ t) :
    ∀ (before : List FactorPoint) (p : FactorPoint) (rest : List FactorPoint), p :: rest = before ++ a :: b :: after →
      (∀ q ∈ before, q.temp ≤ t) → factorAfter p t rest = interpolate a b t
  | [], p, rest, e, _ => by
    obtain ⟨rfl, rfl⟩ : p = a ∧ rest = b :: after := by simpa using e
    rw [factorAfter, if_neg (by omega)]
  | q :: before, p, rest, e, below => by
    obtain ⟨rfl, rfl⟩ : p = q ∧ rest = before ++ a :: b :: after := by simpa using e
    cases before with
    | nil =>
      rw [List.nil_append, factorAfter, if_pos ha]
      exact factorAfter_between ht ha [] a _ rfl (by simp)
    | cons r before =>
      rw [List.cons_append, factorAfter, if_pos (below r (by simp))]
      exact factorAfter_between ht ha (r :: before) r _ rfl fun x hx => below x (List.mem_cons_of_mem _ hx)

/-- The factor of R123: that of an end point outside the table, else interpolated. -/
theorem factorOf_spec (points : List FactorPoint) (t : Int) :
    (∀ p ∈ points.head?, t ≤ p.temp → factorOf points t = p.factor) ∧
    (∀ p ∈ points.head?, p.temp < t →
      (∀ last ∈ points.getLast?, (∀ q ∈ points, q.temp ≤ t) → factorOf points t = last.factor) ∧
      ∀ before a b after, points = before ++ a :: b :: after → (∀ q ∈ before, q.temp ≤ t) → a.temp ≤ t → t < b.temp →
        (factorOf points t : Int) =
          max 0 (a.factor + (((b.factor : Int) - a.factor) * (t - a.temp)).tdiv (b.temp - a.temp))) := by
  cases points with
  | nil => simp
  | cons p rest =>
    have above : p.temp < t → factorOf (p :: rest) t = factorAfter p t rest := fun h => by rw [factorOf, if_neg (by omega)]
    refine ⟨fun q hq low => ?_, fun q hq high => ?_⟩
    · cases hq; rw [factorOf, if_pos low]
    · cases hq
      refine ⟨fun last hl below => ?_, fun before a b after e below ha hb => ?_⟩
      · rw [above high]; exact factorAfter_last rest p (fun q hq => below q (List.mem_cons_of_mem _ hq)) last hl
      · rw [above high, factorAfter_between hb ha before p rest e below, interpolate_toInt]

/-! ### The accrual (R124 to R128) -/

/-- A socket after the CAU's work at a second tick. -/
def Socket.accrued (k : Socket) (eligible : Bool) (factor : Nat) : Socket :=
  if k.scu.state = .run then
    { k with credit := if eligible then k.credit.accrue factor else k.credit,
             account := k.account.countSecond eligible k.heat.inWindow }
  else k

/-- A socket of a board after the CAU's work at a second tick. -/
def State.accruedAt (s : State) (n : Sock) : Socket := (s.socket n).accrued (s.eligible n) (s.tickFactor n)

/-- The target report of a socket at a second tick. -/
def State.targetAt (s : State) (n : Sock) : List Report :=
  if (s.socket n).scu.state = .run ∧ (s.accruedAt n).credit.met = true then [⟨n, .target⟩] else []

theorem State.setSocket_self (s : State) (n : Sock) : s.setSocket n (s.socket n) = s := by
  have sockets : s.sockets.set n.val (s.sockets.get n) n.isLt = s.sockets := by
    rw [Vector.get_eq_getElem]
    exact Vector.set_getElem_self _
  rw [State.setSocket, State.socket, sockets]

theorem State.accrueSocket_eq (s : State) (n : Sock) :
    s.accrueSocket n = { s.setSocket n (s.accruedAt n) with reports := s.reports ++ s.targetAt n } := by
  unfold State.accrueSocket State.targetAt State.accruedAt Socket.accrued
  dsimp only
  by_cases run : (s.socket n).scu.state = .run
  · simp only [run, if_true, true_and]
    generalize (if s.eligible n = true then (s.socket n).credit.accrue (s.tickFactor n) else (s.socket n).credit) = credit
    by_cases met : credit.met = true
    · rw [if_pos met, if_pos met]; rfl
    · rw [if_neg met, if_neg met, List.append_nil]; rfl
  · simp only [run, false_and, if_false, List.append_nil]
    rw [s.setSocket_self]

theorem State.accrueSocket_socket (s : State) (n m : Sock) :
    (s.accrueSocket n).socket m = if m = n then s.accruedAt n else s.socket m := by
  rw [State.accrueSocket_eq]
  exact State.setSocket_socket ..

theorem State.accruedAt_congr {s t : State} {n : Sock} (socket : t.socket n = s.socket n) (engine : t.engine = s.engine)
    (factors : t.factors = s.factors) : t.accruedAt n = s.accruedAt n := by
  simp only [State.accruedAt, State.eligible, State.tickFactor, socket, engine, factors]

theorem State.accrueSocket_accruedAt (s : State) (n m : Sock) (h : m ≠ n) : (s.accrueSocket n).accruedAt m = s.accruedAt m :=
  State.accruedAt_congr (by rw [State.accrueSocket_socket, if_neg h]) (by rw [State.accrueSocket_eq]; rfl)
    (by rw [State.accrueSocket_eq]; rfl)

theorem State.accrueAll_socket (s : State) (n : Sock) : s.accrueAll.socket n = s.accruedAt n := by
  unfold State.accrueAll
  rw [foldl_socket State.accruedAt State.accrueSocket_socket State.accrueSocket_accruedAt n allSocks s allSocks_nodup,
    if_pos (mem_allSocks n)]

theorem State.accrueAll_reports (s : State) : s.accrueAll.reports = s.reports ++ (allSocks.map s.targetAt).flatten :=
  foldl_appends State.reports State.targetAt (fun s n => by rw [State.accrueSocket_eq])
    (fun s n m h => by
      rw [State.targetAt, State.targetAt, State.accrueSocket_accruedAt s n m h, State.accrueSocket_socket, if_neg h])
    allSocks s allSocks_nodup

theorem State.accrueAll_keeps {β : Type} (p : State → β)
    (h : ∀ (s : State) n k r, p { s.setSocket n k with reports := r } = p s) (s : State) : p s.accrueAll = p s :=
  foldl_keeps p _ (fun s n => by rw [State.accrueSocket_eq]; exact h ..) _ s

/-- What the CAU's work leaves of a socket (R124 to R128). -/
theorem Socket.accrued_kept (k : Socket) (eligible : Bool) (factor : Nat) :
    (k.accrued eligible factor).scu = k.scu ∧ (k.accrued eligible factor).rail = k.rail ∧
    (k.accrued eligible factor).heat = k.heat ∧ (k.accrued eligible factor).lane = k.lane ∧
    (k.accrued eligible factor).account.mirror = k.account.mirror ∧
    (k.accrued eligible factor).credit.target = k.credit.target := by
  unfold Socket.accrued
  split
  · exact ⟨rfl, rfl, rfl, rfl, rfl, by cases eligible <;> rfl⟩
  · exact ⟨rfl, rfl, rfl, rfl, rfl, rfl⟩

/-- Credit, residue and seconds after a second tick (R125 to R127). -/
theorem Socket.accrued_counts (k : Socket) (eligible : Bool) (factor : Nat) (run : eligible = true → k.scu.state = .run ∧ k.heat.inWindow = true) :
    let k' := k.accrued eligible factor
    let sum := k.credit.residue + factor
    (eligible = true → k'.credit.credit = min 4294967295 (k.credit.credit + sum / 256) ∧ k'.credit.residue = sum % 256) ∧
    (eligible = false → k'.credit = k.credit) ∧
    (k.scu.state ≠ .run → k'.account = k.account) ∧
    (k.scu.state = .run → k'.account.runSeconds = satInc 4294967295 k.account.runSeconds ∧
      (eligible = true → k'.account.accruedSeconds = satInc 4294967295 k.account.accruedSeconds) ∧
      (eligible = false → k'.account.accruedSeconds = k.account.accruedSeconds) ∧
      k'.account.outSeconds = (if k.heat.inWindow = true then k.account.outSeconds
        else satInc 4294967295 k.account.outSeconds)) := by
  unfold Socket.accrued
  by_cases h : k.scu.state = .run
  · simp only [if_pos h]
    cases eligible with
    | true => simp [Credit.accrue, Account.countSecond, Config.max32, h, (run rfl).2]
    | false => cases k.heat.inWindow <;> simp [Account.countSecond, Config.max32, h]
  · have idle : eligible = false := by
      by_contra e; exact h (run (by simpa using e)).1
    simp [h, idle]

/-! ### The timers (R9, R11) -/

theorem State.timers_socket (s : State) (n : Sock) :
    s.timers.socket n = { s.socket n with scu := (s.socket n).scu.second } :=
  (State.socket_congr (t := s.mapSockets fun _ k => { k with scu := k.scu.second }) (by simp [State.timers]) n).trans
    (s.mapSockets_socket n _)

theorem State.timers_due (s : State) : s.timers.due = s.due ++ (allSocks.map fun n => (s.timers.socket n).timerExpiries n).flatten :=
  rfl

/-! ### The scrub's stop of the engine (R88, R102) -/

/-- A socket where the engine may have stopped: as it was, its result dropped, or moved to RUN besides. -/
def Socket.AfterStop (k k' : Socket) : Prop :=
  k' = k ∨ k' = { k with lane := { k.lane with result := {} } } ∨
    k' = ({ k with lane := { k.lane with result := {} } } : Socket).moved .run

theorem Socket.AfterStop.kept {k k' : Socket} (h : k.AfterStop k') :
    k'.credit = k.credit ∧ k'.account.runSeconds = k.account.runSeconds ∧
    k'.account.accruedSeconds = k.account.accruedSeconds ∧ k'.account.outSeconds = k.account.outSeconds ∧
    k'.scu.settleTimer = k.scu.settleTimer ∧ k'.scu.cleanRun = k.scu.cleanRun := by
  rcases h with rfl | rfl | rfl
  · exact ⟨rfl, rfl, rfl, rfl, rfl, rfl⟩
  · exact ⟨rfl, rfl, rfl, rfl, rfl, rfl⟩
  · exact ⟨rfl, rfl, rfl, rfl, rfl, rfl⟩

theorem State.idle_afterStop (s : State) (cause : StopCause) (n : Sock) : (s.socket n).AfterStop ((s.idle cause).socket n) := by
  rw [State.idle_socket]
  split
  · exact .inr (.inr rfl)
  · exact .inr (.inl rfl)

theorem State.stopForPage_afterStop (s : State) (p : Page) (n : Sock) : (s.socket n).AfterStop ((s.stopForPage p).socket n) := by
  unfold State.stopForPage
  split
  · exact .inl rfl
  · split
    · exact s.idle_afterStop .storeFault n
    · split <;> exact .inl rfl

theorem State.checkPage_afterStop (s : State) (p : Page) (n : Sock) : (s.socket n).AfterStop ((s.checkPage p).1.socket n) := by
  unfold State.checkPage
  split
  · have raised : (({ s with store := s.store.setCondition p .corrupt } : State).raise .storeFault 0#16).socket n = s.socket n :=
      State.socket_congr rfl n
    have stopped := State.stopForPage_afterStop (({ s with store := s.store.setCondition p .corrupt } : State).raise .storeFault 0#16) p n
    rwa [raised] at stopped
  · dsimp only
    exact .inl rfl

theorem State.scrub_afterStop (s : State) (n : Sock) : (s.socket n).AfterStop (s.scrub.socket n) := by
  unfold State.scrub
  split
  · exact .inl rfl
  · split
    · exact .inl rfl
    next p _ =>
      have checked := State.checkPage_afterStop
        { s with store := { s.store with scrub := p + 1, lastScrubbed := some p } } p n
      exact checked

theorem State.stopForPage_feed (s : State) (p : Page) (f : FeedId) : (s.stopForPage p).feed f = s.feed f := by
  unfold State.stopForPage
  split
  · rfl
  · split
    · exact s.idle_feed .storeFault f
    · split
      · cases f <;> rfl
      · rfl

theorem State.scrub_feed (s : State) (f : FeedId) : s.scrub.feed f = s.feed f := by
  unfold State.scrub State.checkPage State.pageCorrupt
  split
  · rfl
  · split
    · rfl
    · dsimp only
      split
      · exact (State.stopForPage_feed _ _ f).trans (by cases f <;> rfl)
      · cases f <;> rfl

/-! ### The silence count (R160) -/

theorem State.silenceTick_eq (s : State) :
    s.silenceTick = { s with
      link := { s.link with silence := if s.link.mode = .attended then min 7200 (s.link.silence + 1) else s.link.silence },
      due := s.due ++ if s.link.mode = .attended ∧ silenceTimeout s.link.silenceParam ≤ min 7200 (s.link.silence + 1) then
        [.linkSilence] else [] } := by
  unfold State.silenceTick
  cases mode : s.link.mode with
  | unattended => simp
  | attended =>
    dsimp only
    split
    · rename_i late; simp [late, mode]
    · rename_i late; simp [late, mode]

/-! ### The tick (R180) -/

/-- The board within a second tick, when the CAU and the SCU's timers have done their work. -/
def State.timed (s : State) : State := ({ s with clock := (s.clock + 1) % 4294967296 } : State).accrueAll.timers

theorem State.secondTick_eq (s : State) : s.secondTick = s.timed.scrub.silenceTick := rfl

theorem State.timed_socket (s : State) (n : Sock) :
    s.timed.socket n = { s.accruedAt n with scu := (s.socket n).scu.second } := by
  have scu : (s.accruedAt n).scu = (s.socket n).scu := (Socket.accrued_kept _ _ _).1
  have accrued : ({ s with clock := (s.clock + 1) % 4294967296 } : State).accrueAll.socket n = s.accruedAt n :=
    (State.accrueAll_socket _ n).trans (State.accruedAt_congr (State.socket_congr rfl n) rfl rfl)
  rw [State.timed, State.timers_socket, accrued, scu]

theorem State.timed_keeps {β : Type} (p : State → β)
    (h : ∀ (s : State) c sockets r d, p { s with clock := c, sockets := sockets, reports := r, due := d } = p s) (s : State) :
    p s.timed = p s := by
  have timers : ∀ u : State, p u.timers = p u := fun u => h u u.clock _ u.reports _
  rw [State.timed, timers, State.accrueAll_keeps p fun u n k r => h u u.clock _ r u.due]
  exact h s _ s.sockets s.reports s.due

theorem State.timed_reports (s : State) : s.timed.reports = s.reports ++ (allSocks.map s.targetAt).flatten := by
  have timers : ∀ u : State, u.timers.reports = u.reports := fun _ => rfl
  rw [State.timed, timers, State.accrueAll_reports]
  rfl

theorem State.timed_due (s : State) (h : s.due = []) :
    s.timed.due = (allSocks.map fun n => (s.timed.socket n).timerExpiries n).flatten := by
  have accrued : (({ s with clock := (s.clock + 1) % 4294967296 } : State).accrueAll).due = s.due :=
    State.accrueAll_keeps State.due (fun _ _ _ _ => rfl) _
  rw [State.timed, State.timers_due, accrued, h, List.nil_append]

theorem State.timed_clock (s : State) : s.timed.clock = (s.clock + 1) % 4294967296 := by
  have timers : ∀ u : State, u.timers.clock = u.clock := fun _ => rfl
  have accrued : ∀ u : State, u.accrueAll.clock = u.clock := State.accrueAll_keeps State.clock fun _ _ _ _ => rfl
  rw [State.timed, timers, accrued]

theorem State.silenceTick_socket (s : State) (n : Sock) : s.silenceTick.socket n = s.socket n := by
  rw [State.silenceTick_eq]; exact State.socket_congr rfl n

theorem State.silenceTick_feed (s : State) (f : FeedId) : s.silenceTick.feed f = s.feed f := by
  rw [State.silenceTick_eq]; cases f <;> rfl

/-- A socket at a second tick: as the accrual and the timers leave it, but for what a stop of the engine does. -/
theorem State.secondTick_afterStop (s : State) (n : Sock) : (s.timed.socket n).AfterStop (s.secondTick.socket n) := by
  rw [State.secondTick_eq, State.silenceTick_socket]; exact s.timed.scrub_afterStop n

theorem State.secondTick_feed (s : State) (f : FeedId) : s.secondTick.feed f = s.feed f := by
  rw [State.secondTick_eq, State.silenceTick_feed, State.scrub_feed]
  exact State.timed_keeps (fun u => u.feed f) (fun _ _ _ _ _ => by cases f <;> rfl) s

/-- The rest of the board after a second tick, the engine, the store and the flags aside. -/
theorem State.secondTick_frame (s : State) (due : s.due = []) :
    s.secondTick.clock = (s.clock + 1) % 4294967296 ∧ s.secondTick.log = s.log ∧
    s.secondTick.link = { s.link with
      silence := if s.link.mode = .attended then min 7200 (s.link.silence + 1) else s.link.silence } ∧
    s.secondTick.reports = s.reports ++ (allSocks.map s.targetAt).flatten ∧
    s.secondTick.due = (allSocks.map fun n => (s.timed.socket n).timerExpiries n).flatten ++
      if s.link.mode = .attended ∧ silenceTimeout s.link.silenceParam ≤ min 7200 (s.link.silence + 1) then
        [.linkSilence] else [] := by
  obtain ⟨-, -, -, -, log, link, -, clock, -, scrubbed, reports, -⟩ := State.scrub_frame s.timed
  have link := link.trans (State.timed_keeps State.link (fun _ _ _ _ _ => rfl) s)
  have log := log.trans (State.timed_keeps State.log (fun _ _ _ _ _ => rfl) s)
  have clock := clock.trans s.timed_clock
  have reports := reports.trans s.timed_reports
  have scrubbed := scrubbed.trans (s.timed_due due)
  rw [State.secondTick_eq, State.silenceTick_eq]
  generalize s.timed.scrub = u at *
  dsimp only
  rw [link, scrubbed]
  exact ⟨clock, log, rfl, reports, rfl⟩

theorem exec_secondTick {s : State} (due : s.due = []) (phase : s.phase ≠ .starting) :
    exec .secondTick s = .next s.secondTick := by
  have exec_eq : exec .secondTick s = execSecondTick s := rfl
  rw [exec_eq, execSecondTick, s.settled_of_none due, if_neg phase]

theorem State.eligible_iff (s : State) (n : Sock) :
    s.eligible n = true ↔ (s.socket n).scu.state = .run ∧ s.engine.state ≠ .idle ∧ (s.socket n).rail.qualified = true ∧
      (s.socket n).heat.inWindow = true := by
  simp [State.eligible, and_assoc]

/-- What is due of a socket's timers after the accrual and the timers (R9, R11). -/
theorem State.timed_expiries (s : State) (n : Sock) :
    (s.timed.socket n).timerExpiries n =
      (if (s.socket n).scu.state = .settle ∧ (s.socket n).heat.profile.settleTimeout ≤ (s.timed.socket n).scu.settleTimer then
        [.settleTimeout n] else []) ++
      (if (s.socket n).scu.state = .run ∧ (s.timed.socket n).scu.cleanRun = 60 then [.cleanRun n] else []) := by
  have state : (s.timed.socket n).scu.state = (s.socket n).scu.state := by rw [State.timed_socket]; rfl
  have heat : (s.timed.socket n).heat = (s.socket n).heat := by
    rw [State.timed_socket]; exact (Socket.accrued_kept _ _ _).2.2.1
  rw [Socket.timerExpiries, state, heat]

/-- A socket's credit and target at a second tick are those of the accrual. -/
theorem State.secondTick_credit (s : State) (n : Sock) : (s.secondTick.socket n).credit = (s.accruedAt n).credit := by
  rw [(s.secondTick_afterStop n).kept.1, State.timed_socket]

/-- The target reports of a tick, in the order of the sockets (R128). -/
theorem State.targetReports_eq (s : State) : (allSocks.map s.targetAt).flatten =
    ((List.finRange 16).filter fun n => (s.socket n).scu.state == .run && (s.secondTick.socket n).credit.target != 0 &&
      decide ((s.secondTick.socket n).credit.target ≤ (s.secondTick.socket n).credit.credit)).map fun n => ⟨n, .target⟩ := by
  rw [List.map_eq_flatMap (f := fun n => (⟨n, .target⟩ : Report)), List.flatMap_def, ← flatten_map_ite]
  refine congrArg List.flatten (List.map_congr_left fun n _ => ?_)
  rw [State.targetAt, State.secondTick_credit, Credit.met, Bool.and_assoc]
  refine if_congr ?_ rfl rfl
  simp only [Bool.and_eq_true, beq_iff_eq]

/-- The timers of a socket at a second tick (R9, R11). -/
theorem State.secondTick_timers (s : State) (n : Sock) :
    (s.secondTick.socket n).scu.settleTimer =
      (if (s.socket n).scu.state = .settle then satInc 65535 (s.socket n).scu.settleTimer else (s.socket n).scu.settleTimer) ∧
    (s.secondTick.socket n).scu.cleanRun =
      (if (s.socket n).scu.state = .run then satInc 60 (s.socket n).scu.cleanRun else (s.socket n).scu.cleanRun) := by
  obtain ⟨-, -, -, -, settleTimer, cleanRun⟩ := (s.secondTick_afterStop n).kept
  rw [settleTimer, cleanRun, State.timed_socket]
  exact ⟨rfl, rfl⟩

theorem State.tickFactor_held {s : State} {n : Sock} {held : Int} (h : (s.socket n).heat.held = some held) :
    s.tickFactor n = factorOf s.factors.active held := by
  rw [State.tickFactor, h]

/-- Credit, residue and seconds of a socket of a board after the CAU's work (R125 to R127). -/
theorem State.accruedAt_counts (s : State) (n : Sock) :
    (s.eligible n = true →
      (s.accruedAt n).credit.credit =
        min 4294967295 ((s.socket n).credit.credit + ((s.socket n).credit.residue + s.tickFactor n) / 256) ∧
      (s.accruedAt n).credit.residue = ((s.socket n).credit.residue + s.tickFactor n) % 256) ∧
    (s.eligible n = false → (s.accruedAt n).credit = (s.socket n).credit) ∧
    ((s.socket n).scu.state ≠ .run → (s.accruedAt n).account = (s.socket n).account) ∧
    ((s.socket n).scu.state = .run →
      (s.accruedAt n).account.runSeconds = satInc 4294967295 (s.socket n).account.runSeconds ∧
      (s.eligible n = true → (s.accruedAt n).account.accruedSeconds = satInc 4294967295 (s.socket n).account.accruedSeconds) ∧
      (s.eligible n = false → (s.accruedAt n).account.accruedSeconds = (s.socket n).account.accruedSeconds) ∧
      (s.accruedAt n).account.outSeconds = (if (s.socket n).heat.inWindow = true then (s.socket n).account.outSeconds
        else satInc 4294967295 (s.socket n).account.outSeconds)) :=
  Socket.accrued_counts _ _ _ fun h => by
    obtain ⟨run, -, -, inWindow⟩ := (s.eligible_iff n).mp h
    exact ⟨run, inWindow⟩

/-- The seconds of a socket's account after a second tick (R127). -/
theorem State.secondTick_seconds (s : State) (n : Sock) :
    (s.secondTick.socket n).account.runSeconds = (s.accruedAt n).account.runSeconds ∧
    (s.secondTick.socket n).account.accruedSeconds = (s.accruedAt n).account.accruedSeconds ∧
    (s.secondTick.socket n).account.outSeconds = (s.accruedAt n).account.outSeconds := by
  obtain ⟨-, runSeconds, accruedSeconds, outSeconds, -, -⟩ := (s.secondTick_afterStop n).kept
  rw [runSeconds, accruedSeconds, outSeconds, State.timed_socket]
  exact ⟨rfl, rfl, rfl⟩

/-- What is due of the timers after a second tick (R9, R11). -/
theorem State.secondTick_expiries (s : State) (n : Sock) :
    (s.timed.socket n).timerExpiries n =
      (if (s.socket n).scu.state = .settle ∧ (s.socket n).heat.profile.settleTimeout ≤ (s.secondTick.socket n).scu.settleTimer then
        [.settleTimeout n] else []) ++
      (if (s.socket n).scu.state = .run ∧ (s.secondTick.socket n).scu.cleanRun = 60 then [.cleanRun n] else []) := by
  obtain ⟨-, -, -, -, settleTimer, cleanRun⟩ := (s.secondTick_afterStop n).kept
  rw [State.timed_expiries, ← settleTimer, ← cleanRun]

/-- Settles O36. -/
theorem aSecondTick : Obligations.ASecondTick := by
  unfold Obligations.ASecondTick
  intro s due phase
  refine ⟨_, exec_secondTick due phase, ?_⟩
  obtain ⟨clock, log, link, reports, later⟩ := s.secondTick_frame due
  have targets := s.targetReports_eq
  have credits := s.secondTick_credit
  have seconds := s.secondTick_seconds
  have timers := s.secondTick_timers
  have expiries := s.secondTick_expiries
  have feed := s.secondTick_feed
  simp only [expiries] at later
  generalize s.secondTick = t at *
  refine ⟨clock, log, fun mode => ?_, fun mode => ?_, feed, ?_, ?_, fun n => ?_⟩
  · rw [link, if_neg (by rw [mode]; decide)]
  · rw [link, if_pos mode]
  · rw [reports, targets]
  · intro timers limit
    rw [later]
    refine congrArg _ (if_congr (and_congr_right fun mode => ?_) rfl rfl)
    rw [link, if_pos mode]
    rfl
  · intro k k' inRun eligible sum points
    have may : s.eligible n = true ↔ eligible := s.eligible_iff n
    have credit : k'.credit = (s.accruedAt n).credit := credits n
    obtain ⟨runSeconds, accruedSeconds, outSeconds⟩ := seconds n
    have target : (s.accruedAt n).credit.target = k.credit.target := (Socket.accrued_kept _ _ _).2.2.2.2.2
    obtain ⟨accrues, stays, elsewhere, counts⟩ := s.accruedAt_counts n
    generalize s.accruedAt n = a at *
    refine ⟨fun held h => ?_, fun e => ?_, fun e => ?_, ?_, fun e => ?_, fun run => ?_, timers n⟩
    · rw [State.tickFactor_held h]
      exact factorOf_spec points held
    · rw [credit]; exact accrues (may.mpr e)
    · rw [credit]; exact stays (by simpa using fun x => e (may.mp x))
    · rw [credit, target]
    · rw [runSeconds, accruedSeconds, outSeconds, elsewhere e]; exact ⟨rfl, rfl, rfl⟩
    · obtain ⟨ran, accrued, idle, out⟩ := counts run
      rw [runSeconds, accruedSeconds, outSeconds]
      exact ⟨ran, fun e => accrued (may.mpr e), fun e => idle (by simpa using fun x => e (may.mp x)), out⟩

end Sys2Proof.Machine
end

section
/-!
PROOFS. Page checks: Verify Store, the scrub, and what the loss of a page does (R79, R80, R86 to R89).
-/

namespace Sys2Proof.Machine

theorem Store.pageFails_iff (t : Store) (p : Page) : t.pageFails p = true ↔ t.condition p = .good ∧ t.pageCrc p ≠ t.checks.get p := by
  simp [Store.pageFails]

/-! ### A page is lost (R88) -/

/-- The board with a page CORRUPT and STORE_FAULT set, before the engine is looked at. -/
def State.pageMarked (s : State) (p : Page) : State :=
  ({ s with store := s.store.setCondition p .corrupt } : State).raise .storeFault 0#16

theorem State.pageMarked_socket (s : State) (p : Page) (n : Sock) : (s.pageMarked p).socket n = s.socket n := State.socket_congr rfl n

theorem State.pageMarked_flag (s : State) (p : Page) (e : EventFlag) :
    (s.pageMarked p).flag e = if e = .storeFault then { s.flag .storeFault with isSet := true } else s.flag e := by
  have same : ∀ e, ({ s with store := s.store.setCondition p .corrupt } : State).flag e = s.flag e := fun _ => rfl
  rw [State.pageMarked, State.flag_raise, same, same]
  simp

theorem State.pageCorrupt_eq (s : State) (p : Page) : s.pageCorrupt p = (s.pageMarked p).stopForPage p := rfl

/-- The parts that a stop of the engine leaves alone. -/
theorem State.stopForPage_keeps (s : State) (p : Page) :
    (s.stopForPage p).store = s.store ∧ (s.stopForPage p).events = s.events ∧ (s.stopForPage p).log = s.log := by
  unfold State.stopForPage
  split
  · exact ⟨rfl, rfl, rfl⟩
  · split
    · simp
    · split <;> exact ⟨rfl, rfl, rfl⟩

/-- Where no socket's state, settled mark or mirror changes, no waiting socket runs. -/
theorem State.WaitersRun.of_alike {s t : State} (alike : ∀ n, (t.socket n).scu.state = (s.socket n).scu.state ∧
    (t.socket n).scu.settledMark = (s.socket n).scu.settledMark ∧ (t.socket n).account.mirror = (s.socket n).account.mirror) :
    s.WaitersRun t fun _ => false := fun n => ⟨fun h => by simp at h, fun _ => alike n⟩

theorem State.stopForPage_idle {s : State} {p : Page} (idle : s.engine.state = .idle) : s.stopForPage p = s := by
  rw [State.stopForPage, if_pos idle]

theorem State.stopForPage_touched {s : State} {p : Page} (running : s.engine.state ≠ .idle) (touched : p ∈ s.engine.held.pages) :
    s.stopForPage p = s.idle .storeFault := by
  rw [State.stopForPage, if_neg running, if_pos (List.contains_iff_mem.mpr touched)]

theorem State.stopForPage_elsewhere {s : State} {p : Page} (running : s.engine.state ≠ .idle) (elsewhere : p ∉ s.engine.held.pages) :
    s.stopForPage p =
      if s.engine.state = .run then { s with engine := { s.engine with state := .stopping .storeFault } } else s := by
  rw [State.stopForPage, if_neg running, if_neg (by rwa [List.contains_iff_mem])]

theorem State.stopForPage_elsewhere_socket {s : State} {p : Page} (away : s.engine.state = .idle ∨ p ∉ s.engine.held.pages)
    (n : Sock) : (s.stopForPage p).socket n = s.socket n := by
  by_cases idle : s.engine.state = .idle
  · rw [State.stopForPage_idle idle]
  · rw [State.stopForPage_elsewhere idle (away.resolve_left idle)]
    split
    · exact State.socket_congr rfl n
    · rfl

/-- What the loss of a GOOD page leaves (R88). -/
theorem State.pageCorrupt_lost (s : State) (p : Page) : s.PageLost (s.pageCorrupt p) p := by
  rw [State.pageCorrupt_eq]
  obtain ⟨store, events, log⟩ := (s.pageMarked p).stopForPage_keeps p
  have flag : ∀ e, ((s.pageMarked p).stopForPage p).flag e = (s.pageMarked p).flag e := State.flag_congr events
  have engine : (s.pageMarked p).engine = s.engine := rfl
  have socket := s.pageMarked_socket p
  have flags := s.pageMarked_flag p
  have marked : (s.pageMarked p).store = s.store.setCondition p .corrupt := rfl
  have logged : (s.pageMarked p).log = s.log := rfl
  generalize s.pageMarked p = u at *
  rw [marked] at store
  refine ⟨by rw [store]; rfl, by rw [store]; exact ⟨rfl, rfl⟩, by rw [flag, flags, if_pos rfl],
    fun e other => by rw [flag, flags, if_neg other], log.trans logged, fun idle => ?_, fun running touched => ?_, fun away => ?_,
    fun run away => ?_, fun reason stopping away => ?_⟩
  · rw [State.stopForPage_idle (by rw [engine]; exact idle), engine]
  · rw [State.stopForPage_touched (by rw [engine]; exact running) (by rw [engine]; exact touched)]
    have halted := u.idle_halted .storeFault
    refine ⟨halted.state, halted.lastStop, halted.current, halted.stimulus, halted.rate, fun n => ?_, fun n => ?_⟩
    · rw [State.idle_lane, socket]
    · have run := u.idle_waitersRun .storeFault n
      rwa [socket] at run
  · refine .of_alike fun n => ?_
    rw [State.stopForPage_elsewhere_socket (by rw [engine]; exact away), socket]
    exact ⟨rfl, rfl, rfl⟩
  · rw [State.stopForPage_elsewhere (by rw [engine, run]; decide) (by rw [engine]; exact away), if_pos (by rw [engine]; exact run)]
    rw [← engine]
  · rw [State.stopForPage_elsewhere (by rw [engine, stopping]; exact nofun) (by rw [engine]; exact away),
      if_neg (by rw [engine, stopping]; exact nofun), engine]

/-- The loss of a page is one for a state with the same engine, store, flags and log and, of each socket, the same state, mark,
mirror and lane. -/
theorem State.PageLost.before {s u t : State} {p : Page} (h : u.PageLost t p) (engine : u.engine = s.engine)
    (store : u.store.conditions = s.store.conditions ∧ u.store.mem = s.store.mem ∧ u.store.checks = s.store.checks)
    (events : u.events = s.events) (log : u.log = s.log)
    (socket : ∀ n, (u.socket n).scu.state = (s.socket n).scu.state ∧ (u.socket n).scu.settledMark = (s.socket n).scu.settledMark ∧
      (u.socket n).account.mirror = (s.socket n).account.mirror ∧ (u.socket n).lane = (s.socket n).lane) : s.PageLost t p := by
  have flag := State.flag_congr events
  obtain ⟨conditions, content, storeFault, flags, logged, idle, atOnce, elsewhere, atPassEnd, stopping⟩ := h
  rw [engine] at idle atOnce elsewhere atPassEnd stopping
  have runs : ∀ may, u.WaitersRun t may → s.WaitersRun t may := fun may run n => by
    obtain ⟨state, mark, mirror, -⟩ := socket n
    obtain ⟨goes, stays⟩ := run n
    rw [state, mark] at goes stays
    rw [mirror] at stays
    exact ⟨goes, stays⟩
  refine ⟨by rw [conditions, store.1], by rw [content.1, content.2]; exact store.2, by rw [storeFault, flag],
    fun e other => by rw [flags e other, flag], logged.trans log, idle, fun running touched => ?_, fun away => runs _ (elsewhere away),
    atPassEnd, stopping⟩
  obtain ⟨state, lastStop, current, stimulus, rate, lanes, run⟩ := atOnce running touched
  exact ⟨state, lastStop, current, stimulus, rate, fun n => by rw [lanes, (socket n).2.2.2], runs _ run⟩

theorem State.PageLost.after {s t u : State} {p : Page} (h : s.PageLost t p) (sockets : u.sockets = t.sockets)
    (engine : u.engine = t.engine) (store : u.store = t.store) (events : u.events = t.events) (log : u.log = t.log) :
    s.PageLost u p := by
  have flag := State.flag_congr events
  have socket := State.socket_congr sockets
  obtain ⟨conditions, content, storeFault, flags, logged, idle, atOnce, elsewhere, atPassEnd, stopping⟩ := h
  have runs : ∀ may, s.WaitersRun t may → s.WaitersRun u may := fun may run n => by
    have run := run n
    rwa [← socket] at run
  refine ⟨by rw [store, conditions], by rw [store]; exact content, by rw [flag, storeFault],
    fun e other => by rw [flag, flags e other], log.trans logged, fun i => engine.trans (idle i), fun running touched => ?_,
    fun away => runs _ (elsewhere away), fun r away => engine.trans (atPassEnd r away), fun r e away => engine.trans (stopping r e away)⟩
  obtain ⟨state, lastStop, current, stimulus, rate, lanes, run⟩ := atOnce running touched
  refine ⟨by rw [engine, state], by rw [engine, lastStop], by rw [engine, current], by rw [engine, stimulus], ?_,
    fun n => by rw [socket, lanes], runs _ run⟩
  rw [engine]
  exact rate.congr (by rw [engine]) fun n => State.permits_eq (by rw [socket])

/-! ### Verify Store (R86, R87) -/

/-- A verify ends at a page that is CORRUPT or whose check mismatches (R86). -/
def Store.verifyFails (t : Store) (p : Page) : Prop := t.condition p = .corrupt ∨ t.pageFails p = true

/-- A page that does not end a verify leaves the board as it is. -/
theorem State.verify_passes {s : State} {p : Page} (passes : ¬s.store.verifyFails p) (rest : List Page) :
    State.verify (p :: rest) s = State.verify rest s := by
  obtain ⟨sound, good⟩ := not_or.mp passes
  rw [State.verify]
  cases condition : s.store.condition p with
  | unloaded => rfl
  | corrupt => exact absurd condition sound
  | good => rw [State.checkPage, if_neg good]

theorem State.verify_append {s : State} {before : List Page} (passes : ∀ p ∈ before, ¬s.store.verifyFails p) (rest : List Page) :
    State.verify (before ++ rest) s = State.verify rest s := by
  induction before with
  | nil => rfl
  | cons p before ih =>
    rw [List.cons_append, State.verify_passes (passes p (by simp))]
    exact ih fun q hq => passes q (List.mem_cons_of_mem _ hq)

theorem State.verify_all {s : State} {pages : List Page} (passes : ∀ p ∈ pages, ¬s.store.verifyFails p) :
    State.verify pages s = (s, none) := by
  have all := State.verify_append passes []
  rwa [List.append_nil] at all

theorem State.verify_corrupt {s : State} {p : Page} (corrupt : s.store.condition p = .corrupt) (rest : List Page) :
    State.verify (p :: rest) s = (s, some p) := by
  rw [State.verify, corrupt]

theorem State.verify_mismatch {s : State} {p : Page} (fails : s.store.pageFails p = true) (rest : List Page) :
    State.verify (p :: rest) s = (s.pageCorrupt p, some p) := by
  rw [State.verify, ((s.store.pageFails_iff p).mp fails).1, State.checkPage, if_pos fails]

theorem mem_pageRange (first count : Nat) (p : Page) : p ∈ pageRange first count ↔ first ≤ p.val ∧ p.val < first + count := by
  simp [pageRange]

/-- A range stands in ascending order: what stands before a page of it lies below it. -/
theorem pageRange_split {first count : Nat} {p : Page} (within : p ∈ pageRange first count) :
    ∃ before rest, pageRange first count = before ++ p :: rest ∧ ∀ q ∈ before, q ∈ pageRange first count ∧ q < p := by
  obtain ⟨before, rest, split⟩ := List.append_of_mem within
  have sorted : (pageRange first count).Pairwise (· < ·) := (List.pairwise_lt_finRange 64).filter _
  rw [split] at sorted
  have below := (List.pairwise_append.mp sorted).2.2
  exact ⟨before, rest, split, fun q hq => ⟨by rw [split]; simp [hq], below q hq p (by simp)⟩⟩

/-- A verify of a range whose first failing page is p ends there (R86). -/
theorem State.verify_range {s : State} {first count : Nat} {p : Page} (within : p ∈ pageRange first count)
    (passes : ∀ q ∈ pageRange first count, q < p → ¬s.store.verifyFails q) :
    ∃ rest, State.verify (pageRange first count) s = State.verify (p :: rest) s := by
  obtain ⟨before, rest, split, below⟩ := pageRange_split within
  rw [split]
  exact ⟨rest, State.verify_append (fun q hq => passes q (below q hq).1 (below q hq).2) _⟩

theorem verifyStoreKind_carryOut (first count : Byte) (s : State) (many : Nat) (h : many = if count.toNat = 0 then 64 else count.toNat) :
    verifyStoreKind.carryOut [first, count] s =
      if first.toNat + many ≤ 64 then
        ((State.verify (pageRange first.toNat many) s).1,
          .now .ok (verifyBytes first.toNat many (State.verify (pageRange first.toNat many) s).2))
      else (s, .now .badArg []) := by
  have bounds : (first.toNat ≤ 63 ∧ many ≤ 64 ∧ first.toNat + many ≤ 64) ↔ first.toNat + many ≤ 64 :=
    ⟨fun h => h.2.2, fun fits => by
      have positive : 1 ≤ many := by rw [h]; split <;> omega
      omega⟩
  have carry : verifyStoreKind.carryOut [first, count] s =
      if first.toNat ≤ 63 ∧ (if count.toNat = 0 then 64 else count.toNat) ≤ 64 ∧
          first.toNat + (if count.toNat = 0 then 64 else count.toNat) ≤ 64 then
        ((State.verify (pageRange first.toNat (if count.toNat = 0 then 64 else count.toNat)) s).1,
          .now .ok (verifyBytes first.toNat (if count.toNat = 0 then 64 else count.toNat)
            (State.verify (pageRange first.toNat (if count.toNat = 0 then 64 else count.toNat)) s).2))
      else (s, .now .badArg []) := rfl
  rw [carry, ← h]
  exact if_congr bounds rfl rfl

theorem verifyStore_exec {s : State} {dst : Byte} (h : s.Hears dst) {first count : Byte} {t : State} {r : Response}
    (carry : verifyStoreKind.carryOut [first, count] s.heard = (t, r)) :
    exec (.verifyStore dst [first, count]) s = .next (t.respond 0x32#8 r) :=
  h.exec_plain (c := .verifyStore dst [first, count]) rfl rfl rfl (by simp) carry

/-! ### The scrub (R89) -/

/-- The scrub takes the first GOOD page in cyclic order from its pointer (R89). -/
theorem Store.scrubNext_first {t : Store} {k : Page} (good : t.condition (t.scrub + k) = .good)
    (first : ∀ j, j < k → t.condition (t.scrub + j) ≠ .good) : t.scrubNext = some (t.scrub + k) := by
  rw [Store.scrubNext, List.find?_map, Option.map_eq_some_iff]
  refine ⟨k, ?_, rfl⟩
  rw [List.find?_eq_some_iff_append]
  refine ⟨by simp [good], (List.finRange 64).take k, (List.finRange 64).drop (k + 1), ?_, fun j hj => ?_⟩
  · have here : (List.finRange 64).drop k = k :: (List.finRange 64).drop (k + 1) := by
      rw [List.drop_eq_getElem_cons (by simp)]
      simp
    rw [← here, List.take_append_drop]
  · obtain ⟨i, hi, rfl⟩ := List.mem_take_iff_getElem.mp hj
    have below : i < k.val := lt_of_lt_of_le hi (min_le_left _ _)
    have other := first ((List.finRange 64)[i]'(lt_of_lt_of_le hi (min_le_right _ _))) (by simpa [Fin.lt_def] using below)
    simpa using other

theorem Store.scrubNext_none {t : Store} (none : ∀ p, t.condition p ≠ .good) : t.scrubNext = Option.none := by
  rw [Store.scrubNext, List.find?_eq_none]
  intro p _
  simpa using none p

/-- The board with its scrub pointer past a page. -/
def State.scrubbedAt (s : State) (p : Page) : State :=
  { s with store := { s.store with scrub := p + 1, lastScrubbed := some p } }

theorem State.scrub_eq {s : State} (running : s.engine.state ≠ .idle) {p : Page} (next : s.store.scrubNext = some p) :
    s.scrub = if s.store.pageFails p = true then (s.scrubbedAt p).pageCorrupt p else s.scrubbedAt p := by
  rw [State.scrub, if_neg running, next]
  have fails : (s.scrubbedAt p).store.pageFails p = s.store.pageFails p := rfl
  change ((s.scrubbedAt p).checkPage p).1 = _
  rw [State.checkPage, fails]
  split <;> rfl

theorem State.pageCorrupt_scrub (s : State) (p : Page) :
    (s.pageCorrupt p).store.scrub = s.store.scrub ∧ (s.pageCorrupt p).store.lastScrubbed = s.store.lastScrubbed := by
  obtain ⟨store, -, -⟩ := (s.pageMarked p).stopForPage_keeps p
  rw [State.pageCorrupt_eq, store]
  exact ⟨rfl, rfl⟩

/-- A socket after the accrual and the timers of a tick: its state, mark, mirror and lane are as they were. -/
theorem State.timed_alike (s : State) (n : Sock) :
    (s.timed.socket n).scu.state = (s.socket n).scu.state ∧ (s.timed.socket n).scu.settledMark = (s.socket n).scu.settledMark ∧
    (s.timed.socket n).account.mirror = (s.socket n).account.mirror ∧ (s.timed.socket n).lane = (s.socket n).lane := by
  obtain ⟨-, -, -, lane, mirror, -⟩ := (s.socket n).accrued_kept (s.eligible n) (s.tickFactor n)
  rw [State.timed_socket]
  exact ⟨rfl, rfl, mirror, lane⟩

/-- Settles O44. -/
theorem pagesAreChecked : Obligations.PagesAreChecked := by
  unfold Obligations.PagesAreChecked
  refine ⟨fun t p => ⟨rfl, t.pageFails_iff p⟩, ?_, ?_⟩
  · intro dst first count s h many fails within
    have carry := verifyStoreKind_carryOut first count s.heard many rfl
    have inRange : ∀ p, p ∈ pageRange first.toNat many ↔ within p := mem_pageRange first.toNat many
    refine ⟨fun above => ?_, fun fits pass => ?_, fun p fits here failing earlier => ?_⟩
    · rw [if_neg (by omega)] at carry
      exact verifyStore_exec h carry
    · rw [if_pos fits, State.verify_all (s := s.heard) fun p hp => pass p ((inRange p).mp hp)] at carry
      exact verifyStore_exec h carry
    · intro sent
      obtain ⟨rest, range⟩ := State.verify_range (s := s.heard) ((inRange p).mpr here)
        fun q hq below => earlier q ((inRange q).mp hq) below
      rw [if_pos fits, range] at carry
      refine ⟨fun corrupt => ?_, fun mismatch => ?_⟩
      · rw [State.verify_corrupt (s := s.heard) corrupt] at carry
        exact verifyStore_exec h carry
      · rw [State.verify_mismatch (s := s.heard) mismatch] at carry
        refine ⟨_, verifyStore_exec h carry, ?_, ?_, rfl⟩
        · have lost := (s.heard.pageCorrupt_lost p).before (s := s) rfl ⟨rfl, rfl, rfl⟩ rfl rfl fun n => ⟨rfl, rfl, rfl, rfl⟩
          exact lost.after rfl rfl rfl rfl rfl
        · exact (s.heard.pageCorrupt_scrub p).1
  · intro s due phase
    have engine : s.timed.engine = s.engine := s.timed_keeps State.engine fun _ _ _ _ _ => rfl
    have store : s.timed.store = s.store := s.timed_keeps State.store fun _ _ _ _ _ => rfl
    have events : s.timed.events = s.events := s.timed_keeps State.events fun _ _ _ _ _ => rfl
    have log : s.timed.log = s.log := s.timed_keeps State.log fun _ _ _ _ _ => rfl
    have alike := s.timed_alike
    refine ⟨_, exec_secondTick due phase, ?_⟩
    rw [State.secondTick_eq]
    generalize s.timed = u at *
    have tick : u.scrub.silenceTick.store = u.scrub.store ∧ u.scrub.silenceTick.engine = u.scrub.engine ∧
        u.scrub.silenceTick.events = u.scrub.events ∧ u.scrub.silenceTick.log = u.scrub.log ∧
        u.scrub.silenceTick.sockets = u.scrub.sockets := by
      rw [State.silenceTick_eq]; exact ⟨rfl, rfl, rfl, rfl, rfl⟩
    obtain ⟨tickStore, tickEngine, tickEvents, tickLog, tickSockets⟩ := tick
    rw [tickStore, tickEngine, tickEvents]
    refine ⟨fun idle => ?_, fun running none => ?_, fun k running good first => ?_⟩
    · have same : u.scrub = u := by rw [State.scrub, if_pos (by rw [engine]; exact idle)]
      rw [same]
      exact ⟨store, engine, events⟩
    · have same : u.scrub = u := by
        rw [State.scrub, if_neg (by rw [engine]; exact running), Store.scrubNext_none (by rw [store]; exact none)]
      rw [same]
      exact ⟨store, events⟩
    · have next : u.store.scrubNext = some (s.store.scrub + k) := by rw [store]; exact Store.scrubNext_first good first
      have scrubbed := State.scrub_eq (s := u) (by rw [engine]; exact running) next
      rw [store] at scrubbed
      have pointer : u.scrub.store.scrub = s.store.scrub + k + 1 ∧ u.scrub.store.lastScrubbed = some (s.store.scrub + k) := by
        rw [scrubbed]
        split
        · exact (u.scrubbedAt (s.store.scrub + k)).pageCorrupt_scrub _
        · exact ⟨rfl, rfl⟩
      refine ⟨pointer.1, pointer.2, fun passes => ?_, fun fails => ?_⟩
      · rw [scrubbed, if_neg (by rw [passes]; decide)]
        refine ⟨engine, events, ?_⟩
        rw [← store]
        rfl
      · rw [if_pos fails] at scrubbed
        have lost := ((u.scrubbedAt (s.store.scrub + k)).pageCorrupt_lost (s.store.scrub + k)).before (s := s) engine
          (by rw [← store]; exact ⟨rfl, rfl, rfl⟩) events log alike
        rw [← scrubbed] at lost
        exact lost.after tickSockets tickEngine tickStore tickEvents tickLog

end Sys2Proof.Machine
end

section
/-!
PROOFS. Passes: the start of a pass, the next pass, arrival at an entry, and the counting of a pass (R100, R103, R104, R111 to R113).
-/

namespace Sys2Proof.Machine

/-! ### The start of a pass (R103) -/

theorem State.startPass_socket (s : State) (n : Sock) :
    s.startPass.socket n =
      if (s.socket n).scu.state = .run then { s.socket n with lane := (s.socket n).lane.startPass } else s.socket n := by
  have lanes : s.startPass.socket n =
      if SocketSet.has s.runSet n then { s.socket n with lane := (s.socket n).lane.startPass } else s.socket n :=
    (State.socket_congr (t := s.mapSockets fun n k => if SocketSet.has s.runSet n then { k with lane := k.lane.startPass } else k)
      (by simp [State.startPass]) n).trans (s.mapSockets_socket n _)
  rw [lanes, State.runSet, SocketSet.has_setWhere]
  simp only [beq_iff_eq]

theorem State.startPass_engine (s : State) :
    s.startPass.engine = { s.engine with participants := s.runSet, applied := 0 } := by
  simp [State.startPass]

theorem State.startPass_feed (s : State) (f : FeedId) : s.startPass.feed f = s.feed f := by
  cases f <;> simp [State.feed]

/-- The start of a pass moves no socket and leaves each as it was but for the lane of a socket in RUN. -/
theorem State.startPass_kept (s : State) (n : Sock) :
    (s.startPass.socket n).scu = (s.socket n).scu ∧ (s.startPass.socket n).rail = (s.socket n).rail ∧
    (s.startPass.socket n).heat = (s.socket n).heat ∧ (s.startPass.socket n).credit = (s.socket n).credit ∧
    (s.startPass.socket n).account = (s.socket n).account := by
  rw [State.startPass_socket]
  split <;> exact ⟨rfl, rfl, rfl, rfl, rfl⟩

theorem State.startPass_participants (s : State) (n : Sock) :
    SocketSet.has s.startPass.engine.participants n = ((s.startPass.socket n).scu.state == .run) := by
  rw [State.startPass_engine, (s.startPass_kept n).1]
  exact SocketSet.has_setWhere _ n

/-- Of a socket that is no participant the start of a pass leaves the lane alone (R103). -/
theorem State.startPass_lane {s : State} {n : Sock} (other : (s.socket n).scu.state ≠ .run) :
    (s.startPass.socket n).lane = (s.socket n).lane := by
  rw [State.startPass_socket, if_neg other]

theorem Lane.startPass_held (l : Lane) :
    l.startPass.heldLanes = l.profile.lanes ∧ l.startPass.heldThreshold = l.profile.threshold ∧
    l.startPass.heldTolerance = l.profile.tolerance ∧ l.startPass.result.compared = false ∧
    l.startPass.result.candidate = none := ⟨rfl, rfl, rfl, rfl, rfl⟩

theorem State.startPass_started (s : State) : s.PassStarted s.startPass := by
  intro n
  rw [State.startPass_participants, (s.startPass_kept n).1]
  refine ⟨fun part => ?_, fun other => ?_⟩
  · rw [State.startPass_socket, if_pos (by simpa using part)]
    exact Lane.startPass_held _
  · rw [State.startPass_lane (by simpa using other)]
    exact ⟨rfl, rfl, rfl⟩

/-! ### What a pass end keeps of a socket -/

/-- A lane with the same profile and the same counts and captures. -/
structure Lane.Counted (l l' : Lane) : Prop where
  profile : l'.profile = l.profile
  written : l'.written = l.written
  comparedPasses : l'.comparedPasses = l.comparedPasses
  totalFailing : l'.totalFailing = l.totalFailing
  consecutiveFailing : l'.consecutiveFailing = l.consecutiveFailing
  captures : l'.captures = l.captures
  truncated : l'.truncated = l.truncated

theorem Lane.Counted.refl (l : Lane) : l.Counted l := ⟨rfl, rfl, rfl, rfl, rfl, rfl, rfl⟩

/-- A socket whose counts, credit and failing-pass mark stand, and with them all its parts unless it moves. -/
structure Socket.Continued (k k' : Socket) : Prop where
  lane : k.lane.Counted k'.lane
  credit : k'.credit = k.credit
  failing : k'.scu.failingPassSinceRead = k.scu.failingPassSinceRead
  still : k'.scu.state = k.scu.state → k'.rail = k.rail ∧ k'.heat = k.heat ∧ k'.account = k.account

theorem Socket.Continued.dropped (k : Socket) : k.Continued { k with lane := { k.lane with result := {} } } :=
  ⟨⟨rfl, rfl, rfl, rfl, rfl, rfl, rfl⟩, rfl, rfl, fun _ => ⟨rfl, rfl, rfl⟩⟩

theorem Socket.Continued.moved {k j : Socket} (h : k.Continued j) {st : SocketState} (moves : st ≠ k.scu.state) :
    k.Continued (j.moved st) :=
  ⟨⟨h.lane.profile, h.lane.written, h.lane.comparedPasses, h.lane.totalFailing, h.lane.consecutiveFailing, h.lane.captures,
    h.lane.truncated⟩, h.credit, h.failing, fun same => absurd same moves⟩

theorem Socket.Continued.started {k j : Socket} (h : k.Continued j) : k.Continued { j with lane := j.lane.startPass } :=
  ⟨⟨h.lane.profile, h.lane.written, h.lane.comparedPasses, h.lane.totalFailing, h.lane.consecutiveFailing, h.lane.captures,
    h.lane.truncated⟩, h.credit, h.failing, h.still⟩

theorem Socket.Continued.refl (k : Socket) : k.Continued k := ⟨.refl _, rfl, rfl, fun _ => ⟨rfl, rfl, rfl⟩⟩

theorem State.idle_continued (s : State) (cause : StopCause) (n : Sock) : (s.socket n).Continued ((s.idle cause).socket n) := by
  rw [State.idle_socket]
  split
  · rename_i waits
    exact (Socket.Continued.dropped _).moved (by rw [waits.1]; decide)
  · exact .dropped _

theorem State.startPass_continued {k : Socket} {s : State} {n : Sock} (h : k.Continued (s.socket n)) :
    k.Continued (s.startPass.socket n) := by
  rw [State.startPass_socket]
  split
  · exact h.started
  · exact h

/-! ### The next pass (steps 5 to 7 of R104) -/

/-- The board with the rate fixed and the SCU's decisions taken, before the pass starts. -/
def State.decided (s : State) : State := s.recomputeRate.decideAll

theorem State.nextPass_eq (s : State) : s.nextPass = s.decided.startPass := rfl

theorem State.recomputeRate_mayRun {s : State} (running : s.engine.state ≠ .idle) (n : Sock) :
    s.recomputeRate.mayRun n = true ↔
      (s.socket n).scu.state = .settle ∧ (s.socket n).scu.settledMark = true ∧ s.permits n s.highestRate = true := by
  have permits : s.recomputeRate.permits n = s.permits n := State.permits_eq (by rw [State.recomputeRate_socket])
  rw [State.mayRun_iff, permits, State.recomputeRate_socket, State.recomputeRate_engine]
  simp [running]

theorem State.decided_socket {s : State} (running : s.engine.state ≠ .idle) (n : Sock) :
    s.decided.socket n =
      if (s.socket n).scu.state = .settle ∧ (s.socket n).scu.settledMark = true ∧ s.permits n s.highestRate = true then
        (s.socket n).moved .run
      else s.socket n := by
  rw [State.decided, State.decideAll_socket, State.recomputeRate_socket]
  exact if_congr (State.recomputeRate_mayRun running n) rfl rfl

/-- A board whose engine goes on with a pass: its course as it was, the highest rate, the sockets in RUN taking part (R103, R104). -/
structure State.PassOn (s t : State) : Prop where
  state : t.engine.state = s.engine.state
  current : t.engine.current = s.engine.current
  held : t.engine.held = s.engine.held
  repeatsLeft : t.engine.repeatsLeft = s.engine.repeatsLeft
  loopIndex : t.engine.loopIndex = s.engine.loopIndex
  applied : t.engine.applied = 0
  rate : t.engine.rate = s.highestRate
  started : s.PassStarted t
  participants : ∀ n, SocketSet.has t.engine.participants n = ((t.socket n).scu.state == .run)
  others : ∀ n, SocketSet.has t.engine.participants n = false → (t.socket n).lane = (s.socket n).lane
  waiters : s.WaitersRun t fun n => s.permits n s.highestRate
  feed : ∀ f, t.feed f = s.feed f
  continued : ∀ n, (s.socket n).Continued (t.socket n)

theorem State.nextPass_on {s : State} (running : s.engine.state ≠ .idle) : s.PassOn s.nextPass := by
  rw [State.nextPass_eq]
  have course : s.decided.engine.course = s.recomputeRate.engine.course := State.decideAll_course _
  have rate : s.decided.engine.rate = s.highestRate := by
    rw [State.decided, State.decideAll_rate (by rw [State.recomputeRate_engine]; exact running), State.recomputeRate_engine]
  have feed : ∀ f, s.decided.feed f = s.feed f := fun f => (State.decideAll_feed _ f).trans (s.recomputeRate_feed f)
  have socket := State.decided_socket running
  rw [State.recomputeRate_engine] at course
  generalize s.decided = u at *
  simp only [Engine.course, Engine.mk.injEq, true_and] at course
  obtain ⟨state, current, held, repeatsLeft, loopIndex, -, -, -, -⟩ := course
  have engine := u.startPass_engine
  have part := u.startPass_participants
  have unmoved : ∀ n, (u.socket n).scu.state ≠ .run → u.socket n = s.socket n := fun n other => by
    rw [socket] at other ⊢
    split at other
    · exact absurd rfl other
    · rename_i stays; rw [if_neg stays]
  have others : ∀ n, SocketSet.has u.startPass.engine.participants n = false → (u.startPass.socket n).lane = (s.socket n).lane :=
    fun n other => by
      have still : (u.socket n).scu.state ≠ .run := by
        rw [part, (u.startPass_kept n).1] at other
        simpa using other
      rw [State.startPass_lane still, unmoved n still]
  refine ⟨by rw [engine]; exact state, by rw [engine]; exact current, by rw [engine]; exact held, by rw [engine]; exact repeatsLeft,
    by rw [engine]; exact loopIndex, by rw [engine], by rw [engine]; exact rate, fun n => ⟨fun takes => ?_, fun other => ?_⟩,
    part, others, ?_, fun f => (u.startPass_feed f).trans (feed f), fun n => State.startPass_continued ?_⟩
  · have started := (u.startPass_started n).1 takes
    have profile : (u.socket n).lane.profile = (s.socket n).lane.profile := by rw [socket]; split <;> rfl
    rwa [profile] at started
  · rw [others n other]; exact ⟨rfl, rfl, rfl⟩
  · refine .of_sockets (fun n => ¬((s.socket n).scu.state = .settle ∧ (s.socket n).scu.settledMark = true ∧
      s.permits n s.highestRate = true)) (fun n => not_not) (fun n h => ?_) fun n h => ?_
    · rw [(u.startPass_kept n).1, (u.startPass_kept n).2.2.2.2, socket, if_pos (not_not.mp h)]
      exact ⟨rfl, rfl, rfl⟩
    · rw [(u.startPass_kept n).1, (u.startPass_kept n).2.2.2.2, socket, if_neg h]
      exact ⟨rfl, rfl, rfl⟩
  · rw [socket]
    split
    · rename_i waits
      exact (Socket.Continued.refl _).moved (by rw [waits.1]; decide)
    · exact .refl _

/-! ### Arrival (R100) -/

theorem State.blockBad_iff (s : State) (e : SeqEntry) : s.blockBad e = true ↔ ∃ p ∈ e.pages, s.store.condition p ≠ .good := by
  simp [State.blockBad]

theorem State.arrive_disabled {s : State} {e : EntryNo} (off : (s.engine.table.get e).enabled = false) :
    s.arrive e = ((s.idle .sequenceEnd).raise .sequenceEnd 0#16, false) := by
  rw [State.arrive, if_pos off]

theorem State.arrive_bad {s : State} {e : EntryNo} (on : (s.engine.table.get e).enabled = true)
    (bad : ∃ p ∈ (s.engine.table.get e).pages, s.store.condition p ≠ .good) :
    s.arrive e = ((s.idle .storeFault).raise .storeFault 0#16, false) := by
  rw [State.arrive, if_neg (by rw [on]; decide), if_pos ((s.blockBad_iff _).mpr bad)]

theorem State.arrive_good {s : State} {e : EntryNo} (on : (s.engine.table.get e).enabled = true)
    (good : ∀ p ∈ (s.engine.table.get e).pages, s.store.condition p = .good) :
    s.arrive e = ({ s with engine := s.engine.take e }, true) := by
  have fine : ¬s.blockBad (s.engine.table.get e) = true := fun bad => by
    obtain ⟨p, hp, not⟩ := (s.blockBad_iff _).mp bad
    exact not (good p hp)
  rw [State.arrive, if_neg (by rw [on]; decide), if_neg fine]

/-! ### The counting of a pass (R111 to R113) -/

/-- A participant after its pass has been counted (R25, R111). -/
def Socket.passCounted (k : Socket) : Socket :=
  { k with lane := k.lane.countPass,
           scu := { k.scu with failingPassSinceRead := k.scu.failingPassSinceRead || k.lane.result.failing } }

/-- The COMPARE_FAIL report of a participant at a pass end (R112). -/
def State.comparedAt (s : State) (n : Sock) : List Report :=
  if (s.socket n).lane.countPass.failsCompare = true then [⟨n, .failure .compareFail⟩] else []

theorem State.settlePass_eq (s : State) (n : Sock) :
    s.settlePass n = { s.setSocket n (s.socket n).passCounted with reports := s.reports ++ s.comparedAt n } := by
  unfold State.settlePass State.comparedAt
  dsimp only
  by_cases fails : (s.socket n).lane.countPass.failsCompare = true
  · rw [if_pos fails, if_pos fails]; rfl
  · rw [if_neg fails, if_neg fails, List.append_nil]; rfl

theorem State.settlePass_socket (s : State) (n m : Sock) :
    (s.settlePass n).socket m = if m = n then (s.socket n).passCounted else s.socket m := by
  rw [State.settlePass_eq]
  exact State.setSocket_socket ..

theorem State.settlePasses_socket (s : State) (n : Sock) :
    s.settlePasses.socket n = if SocketSet.has s.engine.participants n = true then (s.socket n).passCounted else s.socket n := by
  unfold State.settlePasses
  rw [foldl_socket (fun s n => (s.socket n).passCounted) State.settlePass_socket
    (fun s n m h => by rw [State.settlePass_socket, if_neg h]) n _ s (allSocks_nodup.filter _)]
  simp [mem_allSocks]

theorem State.settlePasses_reports (s : State) :
    s.settlePasses.reports =
      s.reports ++ ((allSocks.filter (SocketSet.has s.engine.participants)).map s.comparedAt).flatten :=
  foldl_appends State.reports State.comparedAt (fun s n => by rw [State.settlePass_eq])
    (fun s n m h => by rw [State.comparedAt, State.comparedAt, State.settlePass_socket, if_neg h]) _ s (allSocks_nodup.filter _)

/-- Which COMPARE_FAIL reports a pass end sends (R112). -/
theorem State.mem_settlePasses_reports (s : State) (n : Sock) :
    ⟨n, .failure .compareFail⟩ ∈ s.settlePasses.reports ↔
      ⟨n, .failure .compareFail⟩ ∈ s.reports ∨
        (SocketSet.has s.engine.participants n = true ∧ (s.socket n).lane.countPass.failsCompare = true) := by
  rw [State.settlePasses_reports, List.mem_append]
  refine or_congr_right ?_
  simp only [List.mem_flatten, List.mem_map, List.mem_filter, mem_allSocks, true_and, State.comparedAt]
  constructor
  · rintro ⟨l, ⟨m, part, rfl⟩, h⟩
    split at h
    · rename_i fails
      obtain rfl : n = m := by simpa using h
      exact ⟨part, fails⟩
    · simp at h
  · rintro ⟨part, fails⟩
    exact ⟨_, ⟨n, part, rfl⟩, by simp [fails]⟩

theorem Lane.failsCompare_iff (l : Lane) :
    l.failsCompare = true ↔ l.heldThreshold ≤ l.consecutiveFailing ∨ (l.heldTolerance < 65535 ∧ l.heldTolerance < l.totalFailing) := by
  simp [Lane.failsCompare]

/-- A pass that compared nothing changes no count (R111). -/
theorem Lane.countPass_idle {l : Lane} (nothing : l.result.compared = false) :
    l.countPass.comparedPasses = l.comparedPasses ∧ l.countPass.totalFailing = l.totalFailing ∧
    l.countPass.consecutiveFailing = l.consecutiveFailing ∧ l.countPass.captures = l.captures ∧
    l.countPass.truncated = l.truncated := by
  simp [Lane.countPass, nothing]

/-- A passing pass (R111). -/
theorem Lane.countPass_passed {l : Lane} (compared : l.result.compared = true) (passed : l.result.candidate = none) :
    l.countPass.comparedPasses = min 4294967295 (l.comparedPasses + 1) ∧ l.countPass.totalFailing = l.totalFailing ∧
    l.countPass.consecutiveFailing = 0 ∧ l.countPass.captures = l.captures ∧ l.countPass.truncated = l.truncated := by
  simp [Lane.countPass, compared, passed, satInc, Config.max32]

/-- A failing pass, and its capture, of which the newest 8 are held (R111, R113). -/
theorem Lane.countPass_failed {l : Lane} {c : Capture} (compared : l.result.compared = true) (failed : l.result.candidate = some c) :
    l.countPass.comparedPasses = min 4294967295 (l.comparedPasses + 1) ∧
    l.countPass.totalFailing = min 65535 (l.totalFailing + 1) ∧
    l.countPass.consecutiveFailing = min 65535 (l.consecutiveFailing + 1) ∧
    l.countPass.captures = (if l.captures.length < 8 then l.captures ++ [c]
      else l.captures.drop (l.captures.length - 7) ++ [c]) ∧
    l.countPass.truncated = (l.truncated || decide (8 ≤ l.captures.length)) := by
  unfold Lane.countPass Lane.appendCapture
  simp only [compared, failed, satInc, Config.max32, Config.max16, List.length_append, List.length_singleton]
  by_cases room : l.captures.length < 8
  · have fits : l.captures.length + 1 ≤ 8 := room
    simp [room, fits]
  · have full : ¬l.captures.length + 1 ≤ 8 := room
    have drop : (l.captures ++ [c]).drop (l.captures.length - 7) = l.captures.drop (l.captures.length - 7) ++ [c] := by
      rw [List.drop_append_of_le_length (by omega)]
    simp [room, full, Nat.not_lt.mp room]
    exact drop

/-- The values held for the pass outlast its counting. -/
theorem Lane.countPass_held (l : Lane) :
    l.countPass.heldLanes = l.heldLanes ∧ l.countPass.heldThreshold = l.heldThreshold ∧
    l.countPass.heldTolerance = l.heldTolerance ∧ l.countPass.result = {} := by
  unfold Lane.countPass Lane.appendCapture
  dsimp only
  split
  · exact ⟨rfl, rfl, rfl, rfl⟩
  · split
    · exact ⟨rfl, rfl, rfl, rfl⟩
    · split <;> exact ⟨rfl, rfl, rfl, rfl⟩

end Sys2Proof.Machine
end

section
/-!
PROOFS. A pass end (R100, R102, R104, R111 to R113).
-/

namespace Sys2Proof.Machine

/-! ### The counting of the participants (step 1 of R104) -/

/-- A board of which only the counting of the passes and the engine's own course have changed. -/
structure State.PassesCounted (s c : State) : Prop where
  socket : ∀ n, c.socket n = s.settlePasses.socket n
  reports : c.reports = s.settlePasses.reports
  due : c.due = s.due
  log : c.log = s.log
  store : c.store = s.store
  events : c.events = s.events
  feed : ∀ f, c.feed f = s.feed f
  powered : c.engine.powered = s.engine.powered

theorem State.settlePasses_feed (s : State) (f : FeedId) : s.settlePasses.feed f = s.feed f := by cases f <;> simp [State.feed]

theorem State.settlePasses_engine (s : State) : s.settlePasses.engine = s.engine := by simp

theorem State.PassesCounted.settled (s : State) : s.PassesCounted s.settlePasses :=
  ⟨fun _ => rfl, rfl, by simp, by simp, by simp, by simp, s.settlePasses_feed, by simp⟩

theorem State.PassesCounted.engine {s c : State} (h : s.PassesCounted c) {g : Engine} (powered : g.powered = c.engine.powered) :
    s.PassesCounted { c with engine := g } :=
  ⟨fun n => (State.socket_congr rfl n).trans (h.socket n), h.reports, h.due, h.log, h.store, h.events,
    fun f => Eq.trans (by cases f <;> rfl) (h.feed f), powered.trans h.powered⟩

/-- The board with its passes counted and one repeat less (steps 1 and 3 of R104). -/
def State.passLeft (s : State) : State :=
  { s.settlePasses with engine := { s.settlePasses.engine with repeatsLeft := s.settlePasses.engine.repeatsLeft - 1 } }

theorem State.PassesCounted.left (s : State) : s.PassesCounted s.passLeft := (State.PassesCounted.settled s).engine rfl

theorem State.passLeft_engine (s : State) :
    s.passLeft.engine = { s.engine with repeatsLeft := s.engine.repeatsLeft - 1 } := by
  have left : s.passLeft.engine = { s.settlePasses.engine with repeatsLeft := s.settlePasses.engine.repeatsLeft - 1 } := rfl
  rw [left, s.settlePasses_engine]

/-- The counting of a pass changes of a socket its lane and its failing-pass mark alone. -/
theorem State.settlePasses_kept (s : State) (n : Sock) :
    (s.settlePasses.socket n).scu.state = (s.socket n).scu.state ∧
    (s.settlePasses.socket n).scu.settledMark = (s.socket n).scu.settledMark ∧
    (s.settlePasses.socket n).rail = (s.socket n).rail ∧ (s.settlePasses.socket n).heat = (s.socket n).heat ∧
    (s.settlePasses.socket n).credit = (s.socket n).credit ∧ (s.settlePasses.socket n).account = (s.socket n).account ∧
    (s.settlePasses.socket n).lane.profile = (s.socket n).lane.profile ∧
    (s.settlePasses.socket n).lane.heldLanes = (s.socket n).lane.heldLanes ∧
    (s.settlePasses.socket n).lane.heldThreshold = (s.socket n).lane.heldThreshold ∧
    (s.settlePasses.socket n).lane.heldTolerance = (s.socket n).lane.heldTolerance := by
  rw [State.settlePasses_socket]
  split
  · obtain ⟨lanes, threshold, tolerance, -⟩ := (s.socket n).lane.countPass_held
    exact ⟨rfl, rfl, rfl, rfl, rfl, rfl, (Lane.countPass_frame _).1, lanes, threshold, tolerance⟩
  · exact ⟨rfl, rfl, rfl, rfl, rfl, rfl, rfl, rfl, rfl, rfl⟩

theorem State.PassesCounted.permits {s c : State} (h : s.PassesCounted c) (n : Sock) : c.permits n = s.permits n :=
  State.permits_eq (by rw [h.socket, (s.settlePasses_kept n).2.2.1])

theorem State.PassesCounted.highestRate {s c : State} (h : s.PassesCounted c) : c.highestRate = s.highestRate :=
  State.highestRate_congr h.powered h.permits

theorem State.PassesCounted.waiters {s c t : State} (h : s.PassesCounted c) {may : Sock → Bool} (run : c.WaitersRun t may) :
    s.WaitersRun t may := fun n => by
  obtain ⟨state, mark, -, -, -, account, -⟩ := s.settlePasses_kept n
  obtain ⟨goes, stays⟩ := run n
  rw [h.socket, state, mark] at goes stays
  rw [account] at stays
  exact ⟨goes, stays⟩

/-! ### The board after a pass end -/

/-- What every pass end leaves, however the engine goes on. -/
structure State.PassSettled (s t : State) : Prop where
  due : t.due = s.due
  log : t.log = s.log
  store : t.store = s.store
  reports : t.reports = s.settlePasses.reports
  feed : ∀ f, t.feed f = s.feed f
  continued : ∀ n, (s.settlePasses.socket n).Continued (t.socket n)

/-- A pass end at which the engine becomes IDLE (R102). -/
structure State.PassStops (s t : State) (cause : StopCause) : Prop extends State.PassSettled s t where
  halted : s.Halted t cause
  waiters : s.WaitersRun t fun _ => true
  results : ∀ n, (t.socket n).lane.result.compared = false ∧ (t.socket n).lane.result.candidate = none

/-- A pass end at which the engine goes on with another pass (R103, R104). -/
structure State.PassGoesOn (s t : State) : Prop extends State.PassSettled s t where
  state : t.engine.state = .run
  applied : t.engine.applied = 0
  rate : t.engine.rate = s.highestRate
  started : s.PassStarted t
  participants : ∀ n, SocketSet.has t.engine.participants n = ((t.socket n).scu.state == .run)
  others : ∀ n, SocketSet.has s.engine.participants n = false → SocketSet.has t.engine.participants n = false →
    (t.socket n).lane = (s.socket n).lane
  waiters : s.WaitersRun t fun n => s.permits n t.engine.rate
  events : t.events = s.events

theorem State.PassesCounted.stops {s c : State} (h : s.PassesCounted c) (loopIndex : c.engine.loopIndex = s.engine.loopIndex)
    (cause : StopCause) : s.PassStops (c.idle cause) cause := by
  have halted := c.idle_halted cause
  refine ⟨⟨?_, ?_, ?_, ?_, fun f => (c.idle_feed cause f).trans (h.feed f), fun n => ?_⟩, ?_, h.waiters (c.idle_waitersRun cause),
    fun n => ?_⟩
  · rw [← h.due]; simp
  · rw [← h.log]; simp
  · rw [← h.store]; simp
  · rw [← h.reports]; simp
  · rw [← h.socket]; exact c.idle_continued cause n
  · exact ⟨halted.state, halted.lastStop, halted.current, halted.repeatsLeft, halted.participants, halted.stimulus,
      halted.loopIndex.trans loopIndex, halted.rate⟩
  · rw [State.idle_lane]; exact ⟨rfl, rfl⟩

theorem State.PassStops.raise {s t : State} {cause : StopCause} (h : s.PassStops t cause) (e : EventFlag) :
    s.PassStops (t.raise e 0#16) cause ∧ ((t.raise e 0#16).flag e).isSet = true := by
  have socket : ∀ n, (t.raise e 0#16).socket n = t.socket n := fun n => State.socket_congr rfl n
  refine ⟨⟨⟨h.due, h.log, h.store, h.reports, fun f => Eq.trans (by simp) (h.feed f), fun n => ?_⟩,
    h.halted.congr rfl fun n => State.permits_eq (by rw [socket]), fun n => ?_, fun n => ?_⟩, by rw [State.flag_raise, if_pos rfl]⟩
  · rw [socket]; exact h.continued n
  · rw [socket]; exact h.waiters n
  · rw [socket]; exact h.results n

theorem State.PassesCounted.goesOn {s c : State} (h : s.PassesCounted c) (running : c.engine.state = .run) :
    s.PassGoesOn c.nextPass := by
  have on := State.nextPass_on (s := c) (by rw [running]; decide)
  have rate : c.nextPass.engine.rate = s.highestRate := on.rate.trans h.highestRate
  refine ⟨⟨?_, ?_, ?_, ?_, fun f => (on.feed f).trans (h.feed f), fun n => ?_⟩, on.state.trans running, on.applied, rate,
    fun n => ?_, on.participants, fun n out other => ?_, ?_, ?_⟩
  · rw [← h.due]; simp
  · rw [← h.log]; simp
  · rw [← h.store]; simp
  · rw [← h.reports]; simp
  · rw [← h.socket]; exact on.continued n
  · obtain ⟨-, -, -, -, -, -, profile, lanes, threshold, tolerance⟩ := s.settlePasses_kept n
    obtain ⟨takes, stays⟩ := on.started n
    rw [h.socket, profile] at takes
    rw [h.socket, lanes, threshold, tolerance] at stays
    exact ⟨takes, stays⟩
  · rw [on.others n other, h.socket, State.settlePasses_socket, if_neg (by rw [out]; decide)]
  · rw [rate]
    have may : (fun n => c.permits n c.highestRate) = fun n => s.permits n s.highestRate :=
      funext fun n => by rw [h.permits, h.highestRate]
    rw [← may]
    exact h.waiters on.waiters
  · rw [← h.events]; simp

/-! ### The cases of a pass end (R104) -/

theorem State.passEnd_stopping {s : State} {reason : StopReason} (stopping : s.engine.state = .stopping reason) :
    s.passEnd = s.settlePasses.idle reason.cause := by
  rw [State.passEnd, stopping]

theorem State.passEnd_run {s : State} (run : s.engine.state = .run) :
    s.passEnd = if s.engine.repeatsLeft - 1 = 0 then s.passLeft.followLink else s.passLeft.nextPass := by
  have cases : s.passEnd = if s.settlePasses.engine.repeatsLeft - 1 = 0 then s.passLeft.followLink else s.passLeft.nextPass := by
    rw [State.passEnd, run]; rfl
  rw [cases, s.settlePasses_engine]

theorem State.followLink_none {s : State} (ends : s.engine.held.link = none) :
    s.followLink = (s.idle .sequenceEnd).raise .sequenceEnd 0#16 := by
  rw [State.followLink, ends]

theorem State.followLink_some {s : State} {e : EntryNo} (goes : s.engine.held.link = some e) :
    s.followLink = if (s.arrive e).2 = true then (s.arrive e).1.nextPass else (s.arrive e).1 := by
  simp only [State.followLink, goes]
  rcases s.arrive e with ⟨t, _ | _⟩
  · exact (if_neg Bool.false_ne_true).symm
  · exact (if_pos rfl).symm

/-- The engine's case at a pass end in STOPPING (R104). -/
theorem State.passEnd_stops {s : State} {reason : StopReason} (stopping : s.engine.state = .stopping reason) :
    s.PassStops s.passEnd reason.cause ∧ s.passEnd.events = s.events := by
  rw [State.passEnd_stopping stopping]
  refine ⟨(State.PassesCounted.settled s).stops (by rw [s.settlePasses_engine]) _, ?_⟩
  simp

/-- The engine's case at a pass end with repeats left (R104). -/
theorem State.passEnd_repeats {s : State} (run : s.engine.state = .run) (more : 1 < s.engine.repeatsLeft) :
    s.PassGoesOn s.passEnd ∧ s.passEnd.engine.repeatsLeft = s.engine.repeatsLeft - 1 ∧
    s.passEnd.engine.current = s.engine.current ∧ s.passEnd.engine.held = s.engine.held ∧
    s.passEnd.engine.loopIndex = s.engine.loopIndex := by
  have running : s.passLeft.engine.state = .run := by rw [s.passLeft_engine]; exact run
  have on := State.nextPass_on (s := s.passLeft) (by rw [running]; decide)
  rw [State.passEnd_run run, if_neg (by omega)]
  refine ⟨(State.PassesCounted.left s).goesOn running, ?_, ?_, ?_, ?_⟩
  · rw [on.repeatsLeft, s.passLeft_engine]
  · rw [on.current, s.passLeft_engine]
  · rw [on.held, s.passLeft_engine]
  · rw [on.loopIndex, s.passLeft_engine]

section
variable {s : State} (run : s.engine.state = .run) (last : s.engine.repeatsLeft ≤ 1)
include run last

theorem State.passEnd_last : s.passEnd = s.passLeft.followLink := by rw [State.passEnd_run run, if_pos (by omega)]

/-- A last pass end that follows no link (R100). -/
theorem State.passEnd_ends (ends : s.engine.held.link = none) :
    s.PassStops s.passEnd .sequenceEnd ∧ (s.passEnd.flag .sequenceEnd).isSet = true := by
  rw [State.passEnd_last run last, State.followLink_none (by rw [s.passLeft_engine]; exact ends)]
  exact ((State.PassesCounted.left s).stops (by rw [s.passLeft_engine]) _).raise _

variable {e : EntryNo} (goes : s.engine.held.link = some e)
include goes

theorem State.passEnd_link :
    s.passEnd = if (s.passLeft.arrive e).2 = true then (s.passLeft.arrive e).1.nextPass else (s.passLeft.arrive e).1 := by
  rw [State.passEnd_last run last, State.followLink_some (by rw [s.passLeft_engine]; exact goes)]

/-- A last pass end that follows a link to a disabled entry (R100). -/
theorem State.passEnd_disabled (off : (s.engine.table.get e).enabled = false) :
    s.PassStops s.passEnd .sequenceEnd ∧ (s.passEnd.flag .sequenceEnd).isSet = true := by
  rw [State.passEnd_link run last goes, State.arrive_disabled (by rw [s.passLeft_engine]; exact off)]
  exact ((State.PassesCounted.left s).stops (by rw [s.passLeft_engine]) _).raise _

/-- A last pass end that follows a link to an entry over a page not GOOD (R100). -/
theorem State.passEnd_bad (on : (s.engine.table.get e).enabled = true)
    (bad : ∃ p ∈ (s.engine.table.get e).pages, s.store.condition p ≠ .good) :
    s.PassStops s.passEnd .storeFault ∧ (s.passEnd.flag .storeFault).isSet = true := by
  rw [State.passEnd_link run last goes, State.arrive_bad (by rw [s.passLeft_engine]; exact on)
    (by rw [s.passLeft_engine, (State.PassesCounted.left s).store]; exact bad)]
  exact ((State.PassesCounted.left s).stops (by rw [s.passLeft_engine]) _).raise _

/-- A last pass end that follows a link to an entry that runs (R100). -/
theorem State.passEnd_follows (on : (s.engine.table.get e).enabled = true)
    (good : ∀ p ∈ (s.engine.table.get e).pages, s.store.condition p = .good) :
    s.PassGoesOn s.passEnd ∧ s.passEnd.engine.current = some e ∧ s.passEnd.engine.held = s.engine.table.get e ∧
    s.passEnd.engine.repeatsLeft = (s.engine.table.get e).repeats ∧
    s.passEnd.engine.loopIndex =
      (if (s.engine.table.get e).loopHead then satInc 4294967295 s.engine.loopIndex else s.engine.loopIndex) := by
  have engine : ({ s.passLeft with engine := s.passLeft.engine.take e } : State).engine =
      { s.engine with repeatsLeft := s.engine.repeatsLeft - 1 : Engine }.take e := congrArg (Engine.take · e) s.passLeft_engine
  rw [State.passEnd_link run last goes, State.arrive_good (by rw [s.passLeft_engine]; exact on)
    (by rw [s.passLeft_engine, (State.PassesCounted.left s).store]; exact good)]
  have counted := (State.PassesCounted.left s).engine (g := s.passLeft.engine.take e) rfl
  generalize ({ s.passLeft with engine := s.passLeft.engine.take e } : State) = c at *
  have running : c.engine.state = .run := by rw [engine]; rfl
  have pass := State.nextPass_on (s := c) (by rw [running]; decide)
  rw [if_pos rfl]
  refine ⟨counted.goesOn running, ?_, ?_, ?_, ?_⟩
  · rw [pass.current, engine]; rfl
  · rw [pass.held, engine]; rfl
  · rw [pass.repeatsLeft, engine]; rfl
  · rw [pass.loopIndex, engine]; rfl

end

/-- At every pass end the engine becomes IDLE or goes on (R104). -/
theorem State.passEnd_outcome {s : State} (busy : s.engine.state ≠ .idle) :
    (∃ cause, s.PassStops s.passEnd cause) ∨ s.PassGoesOn s.passEnd := by
  cases state : s.engine.state with
  | idle => exact absurd state busy
  | stopping reason => exact .inl ⟨_, (State.passEnd_stops state).1⟩
  | run =>
    rcases Nat.lt_or_ge 1 s.engine.repeatsLeft with more | last
    · exact .inr (State.passEnd_repeats state more).1
    · cases link : s.engine.held.link with
      | none => exact .inl ⟨_, (State.passEnd_ends state last link).1⟩
      | some e =>
        cases on : (s.engine.table.get e).enabled with
        | false => exact .inl ⟨_, (State.passEnd_disabled state last link on).1⟩
        | true =>
          by_cases good : ∀ p ∈ (s.engine.table.get e).pages, s.store.condition p = .good
          · exact .inr (State.passEnd_follows state last link on good).1
          · exact .inl ⟨_, (State.passEnd_bad state last link on (by simpa using good)).1⟩

/-! ### The lanes after a pass end (R25, R111 to R113) -/

/-- A socket's counts, captures and mark after a pass end, and its report. -/
theorem State.PassSettled.lane {s t : State} (h : s.PassSettled t) (n : Sock) :
    let l := (s.socket n).lane
    let l' := (t.socket n).lane
    let same := l'.comparedPasses = l.comparedPasses ∧ l'.totalFailing = l.totalFailing ∧
      l'.consecutiveFailing = l.consecutiveFailing ∧ l'.captures = l.captures ∧ l'.truncated = l.truncated
    let part := SocketSet.has s.engine.participants n
    let reported := ⟨n, .failure .compareFail⟩ ∈ s.reports
    l'.profile = l.profile ∧ l'.written = l.written ∧ (part = false ∨ l.result.compared = false → same) ∧
    (part = true → l.result.compared = true → l.result.candidate = none →
      l'.comparedPasses = min 4294967295 (l.comparedPasses + 1) ∧ l'.totalFailing = l.totalFailing ∧
      l'.consecutiveFailing = 0 ∧ l'.captures = l.captures ∧ l'.truncated = l.truncated) ∧
    (∀ c, part = true → l.result.compared = true → l.result.candidate = some c →
      l'.comparedPasses = min 4294967295 (l.comparedPasses + 1) ∧ l'.totalFailing = min 65535 (l.totalFailing + 1) ∧
      l'.consecutiveFailing = min 65535 (l.consecutiveFailing + 1) ∧
      l'.captures = (if l.captures.length < 8 then l.captures ++ [c]
        else l.captures.drop (l.captures.length - 7) ++ [c]) ∧
      l'.truncated = (l.truncated || decide (8 ≤ l.captures.length))) ∧
    (t.socket n).scu.failingPassSinceRead = ((s.socket n).scu.failingPassSinceRead ||
      (part && l.result.compared && l.result.candidate.isSome)) ∧
    (⟨n, .failure .compareFail⟩ ∈ t.reports ↔ reported ∨ (part = true ∧ (l.heldThreshold ≤ l'.consecutiveFailing ∨
      (l.heldTolerance < 65535 ∧ l.heldTolerance < l'.totalFailing)))) := by
  obtain ⟨⟨profile, written, compared, total, consecutive, captures, truncated⟩, -, failing, -⟩ := h.continued n
  have settled := s.settlePasses_socket n
  have sent := s.mem_settlePasses_reports n
  rw [← h.reports] at sent
  cases part : SocketSet.has s.engine.participants n with
  | false =>
    rw [part, if_neg (by decide)] at settled
    rw [part] at sent
    rw [settled] at profile written compared total consecutive captures truncated failing
    refine ⟨profile, written, fun _ => ⟨compared, total, consecutive, captures, truncated⟩, nofun, fun _ => nofun, ?_, ?_⟩
    · simpa using failing
    · simpa using sent
  | true =>
    rw [part, if_pos rfl] at settled
    rw [part] at sent
    rw [settled] at profile written compared total consecutive captures truncated failing
    have counts : ∀ {a b c d e}, (s.socket n).lane.countPass.comparedPasses = a ∧ (s.socket n).lane.countPass.totalFailing = b ∧
        (s.socket n).lane.countPass.consecutiveFailing = c ∧ (s.socket n).lane.countPass.captures = d ∧
        (s.socket n).lane.countPass.truncated = e →
        (t.socket n).lane.comparedPasses = a ∧ (t.socket n).lane.totalFailing = b ∧
        (t.socket n).lane.consecutiveFailing = c ∧ (t.socket n).lane.captures = d ∧ (t.socket n).lane.truncated = e :=
      fun ⟨ha, hb, hc, hd, he⟩ =>
        ⟨compared.trans ha, total.trans hb, consecutive.trans hc, captures.trans hd, truncated.trans he⟩
    obtain ⟨frame, frameWritten⟩ := (s.socket n).lane.countPass_frame
    refine ⟨profile.trans frame, written.trans frameWritten, fun nothing => ?_, fun _ whole passed => ?_, fun c _ whole failed => ?_,
      ?_, ?_⟩
    · exact counts (Lane.countPass_idle (nothing.resolve_left nofun))
    · exact counts (Lane.countPass_passed whole passed)
    · exact counts (Lane.countPass_failed whole failed)
    · rw [Bool.true_and]; exact failing
    · obtain ⟨-, threshold, tolerance, -⟩ := (s.socket n).lane.countPass_held
      have both : (t.socket n).lane.consecutiveFailing = (s.socket n).lane.countPass.consecutiveFailing ∧
          (t.socket n).lane.totalFailing = (s.socket n).lane.countPass.totalFailing := ⟨consecutive, total⟩
      rw [Lane.failsCompare_iff, threshold, tolerance, ← both.1, ← both.2] at sent
      exact sent

/-- What a socket keeps through a pass end. -/
theorem State.PassSettled.kept {s t : State} (h : s.PassSettled t) (n : Sock) :
    (t.socket n).credit = (s.socket n).credit ∧ ((t.socket n).scu.state = (s.socket n).scu.state →
      (t.socket n).rail = (s.socket n).rail ∧ (t.socket n).heat = (s.socket n).heat ∧
      (t.socket n).account = (s.socket n).account) := by
  obtain ⟨state, -, rail, heat, credit, account, -⟩ := s.settlePasses_kept n
  have go := h.continued n
  refine ⟨go.credit.trans credit, fun same => ?_⟩
  obtain ⟨hr, hh, ha⟩ := go.still (same.trans state.symm)
  exact ⟨hr.trans rail, hh.trans heat, ha.trans account⟩

theorem State.Halted.engine {s t : State} {cause : StopCause} (h : s.Halted t cause) :
    t.engine.state = .idle ∧ t.engine.lastStop = cause ∧ t.engine.current = none ∧
    t.engine.repeatsLeft = 0 ∧ t.engine.participants = 0#16 ∧ t.engine.stimulus = 0#16 ∧
    t.engine.loopIndex = s.engine.loopIndex ∧ t.IsHighestRate t.engine.rate :=
  ⟨h.state, h.lastStop, h.current, h.repeatsLeft, h.participants, h.stimulus, h.loopIndex, h.rate⟩

theorem State.PassGoesOn.engine {s t : State} (h : s.PassGoesOn t) :
    t.engine.state = .run ∧ t.engine.applied = 0 ∧ s.IsHighestRate t.engine.rate ∧ s.PassStarted t ∧
    ∀ n, SocketSet.has t.engine.participants n = ((t.socket n).scu.state == .run) ∧
      (SocketSet.has s.engine.participants n = false → SocketSet.has t.engine.participants n = false →
        (t.socket n).lane = (s.socket n).lane) :=
  ⟨h.state, h.applied, by rw [h.rate]; exact s.highestRate_isHighest, h.started, fun n => ⟨h.participants n, h.others n⟩⟩

/-- Settles O31. -/
theorem aPassEnds : Obligations.APassEnds := by
  unfold Obligations.APassEnds
  refine ⟨rfl, rfl, fun s rest due busy => ?_⟩
  have row := exec_first (c := .passEnd) (e := .passEnd) (fun _ => rfl) due
  have fires : ({ s with due := rest } : State).fire .passEnd = ({ s with due := rest } : State).passEnd := rfl
  rw [fires] at row
  refine ⟨_, row, ?_⟩
  have feed : ∀ f, ({ s with due := rest } : State).feed f = s.feed f := s.due_feed rest
  have outcome := State.passEnd_outcome (s := { s with due := rest }) busy
  have stops := @State.passEnd_stops { s with due := rest }
  have repeats := @State.passEnd_repeats { s with due := rest }
  have ends := @State.passEnd_ends { s with due := rest }
  have disabled := @State.passEnd_disabled { s with due := rest }
  have bad := @State.passEnd_bad { s with due := rest }
  have follows := @State.passEnd_follows { s with due := rest }
  generalize ({ s with due := rest } : State).passEnd = t at *
  have settled : ({ s with due := rest } : State).PassSettled t := by
    rcases outcome with ⟨_, stop⟩ | on
    · exact stop.toPassSettled
    · exact on.toPassSettled
  refine ⟨settled.due, settled.log, settled.store, fun f => (settled.feed f).trans (feed f), fun idle => ?_, fun running => ?_,
    settled.kept, settled.lane, fun reason stopping => ?_, fun run more => ?_, fun run last => ⟨fun link => ?_, fun e link => ?_⟩⟩
  · rcases outcome with ⟨_, stop⟩ | on
    · exact ⟨stop.waiters, stop.results⟩
    · rw [on.state] at idle; exact absurd idle (by decide)
  · rcases outcome with ⟨_, stop⟩ | on
    · exact absurd stop.halted.state running
    · exact on.waiters
  · obtain ⟨stop, events⟩ := stops stopping
    exact ⟨stop.halted.engine, events⟩
  · obtain ⟨on, repeatsLeft, current, held, loopIndex⟩ := repeats run more
    exact ⟨on.engine, repeatsLeft, current, held, loopIndex, on.events⟩
  · obtain ⟨stop, flag⟩ := ends run last link
    exact ⟨stop.halted.engine, flag⟩
  · refine ⟨fun off => ?_, fun on broken => ?_, fun on good => ?_⟩
    · obtain ⟨stop, flag⟩ := disabled run last link off
      exact ⟨stop.halted.engine, flag⟩
    · obtain ⟨stop, flag⟩ := bad run last link on broken
      exact ⟨stop.halted.engine, flag⟩
    · obtain ⟨goes, current, held, repeatsLeft, loopIndex⟩ := follows run last link on good
      exact ⟨goes.engine, current, held, repeatsLeft, goes.events, loopIndex⟩

end Sys2Proof.Machine
end

section
/-!
PROOFS. The requests of the engine: Write Sequence Entry (R93, R94), Start Sequence (R99, R100) and Stop Sequence (R101).
-/

namespace Sys2Proof.Machine

/-- The pages that a block touches (R79, R92). -/
theorem SeqEntry.mem_pages (e : SeqEntry) (p : Page) :
    p ∈ e.pages ↔ e.start / 64 ≤ p.val ∧ p.val ≤ (e.start + e.length - 1) / 64 := by
  simp [SeqEntry.pages, touched]

/-! ### Entry numbers -/

theorem entryNoOf_above {b : Byte} (above : 31 < b.toNat) : entryNoOf b = none := by
  rw [entryNoOf, dif_neg (by omega)]

theorem entryNoOf_code {b : Byte} {e : EntryNo} (h : b.toNat = e.val) : entryNoOf b = some e := by
  rw [entryNoOf, dif_pos (by omega)]
  exact congrArg some (Fin.ext h)

/-- The one byte that carries an entry number. -/
theorem entryCode_eq {b : Byte} {e : EntryNo} (h : b.toNat = e.val) : BitVec.ofNat 8 e.val = b := by
  rw [← h, BitVec.ofNat_toNat, BitVec.setWidth_eq]

theorem byteAt_zero (b : Byte) (p : List Byte) : byteAt (b :: p) 0 = b := rfl

/-! ### Write Sequence Entry (R93, R94) -/

/-- A Write Sequence Entry heard on an open link. -/
theorem writeSequenceEntry_exec {s : State} {dst b : Byte} {p : List Byte} (h : s.Hears dst) (length : p.length = 7)
    {t : State} {r : Response} (carry : writeSequenceEntryKind.carryOut (b :: p) s.heard = (t, r)) :
    exec (.writeSequenceEntry dst (b :: p)) s = .next (t.respond 0x34#8 r) :=
  h.exec_plain (c := .writeSequenceEntry dst (b :: p)) rfl rfl (by simp [writeSequenceEntryKind, exactly, length])
    (by simp [length]) carry

theorem writeSequenceEntryKind_refused {b : Byte} {p : List Byte} (bad : 31 < b.toNat ∨ readEntry p = none) (s : State) :
    writeSequenceEntryKind.carryOut (b :: p) s = (s, .now .badArg []) := by
  simp only [writeSequenceEntryKind, byteAt_zero, List.drop_one, List.tail_cons]
  rcases bad with above | none
  · rw [entryNoOf_above above]
  · rw [none]; cases entryNoOf b <;> rfl

theorem writeSequenceEntryKind_carryOut {b : Byte} {p : List Byte} {e : EntryNo} {entry : SeqEntry} (number : b.toNat = e.val)
    (passes : readEntry p = some entry) (s : State) :
    writeSequenceEntryKind.carryOut (b :: p) s =
      if s.engine.executing = some e then (s, .now .busy [])
      else ({ s with engine := { s.engine with table := s.engine.table.set e.val entry e.isLt } }, .now .ok (writeEntryBytes entry)) := by
  simp only [writeSequenceEntryKind, byteAt_zero, List.drop_one, List.tail_cons, entryNoOf_code number, passes]

/-- The entry now executing (R94). -/
theorem Engine.executing_iff (g : Engine) (e : EntryNo) : g.executing = some e ↔ g.state ≠ .idle ∧ g.current = some e := by
  unfold Engine.executing
  by_cases h : g.state = .idle <;> simp [h]

/-! ### Start Sequence (R99, R100, R103) -/

theorem startSequence_exec {s : State} {dst b : Byte} (h : s.Hears dst) {t : State} {r : Response}
    (carry : startSequenceKind.carryOut [b] s.heard = (t, r)) :
    exec (.startSequence dst [b]) s = .next (t.respond 0x38#8 r) :=
  h.exec_plain (c := .startSequence dst [b]) rfl rfl rfl (by simp) carry

theorem startSequenceKind_carryOut {b : Byte} {e : EntryNo} (number : b.toNat = e.val) (s : State) :
    startSequenceKind.carryOut [b] s =
      if s.engine.state ≠ .idle then (s, .now .busy [])
      else if (s.engine.table.get e).enabled = false then (s, .now .badArg [])
      else (s.start e, .now .ok (s.start e).engine.startBytes) := by
  simp only [startSequenceKind, byteAt_single, entryNoOf_code number]

theorem State.start_bad {s : State} {e : EntryNo} (on : (s.engine.table.get e).enabled = true)
    (bad : ∃ p ∈ (s.engine.table.get e).pages, s.store.condition p ≠ .good) :
    s.start e = (s.idle .storeFault).raise .storeFault 0#16 := by
  rw [State.start, State.arrive_bad on bad]

theorem State.start_good {s : State} {e : EntryNo} (on : (s.engine.table.get e).enabled = true)
    (good : ∀ p ∈ (s.engine.table.get e).pages, s.store.condition p = .good) :
    s.start e = ({ s with engine := s.engine.take e } : State).startPass := by
  rw [State.start, State.arrive_good on good]

/-- The engine after an arrival that starts a pass (R100, R103). -/
theorem State.start_engine {s : State} {e : EntryNo} (on : (s.engine.table.get e).enabled = true)
    (good : ∀ p ∈ (s.engine.table.get e).pages, s.store.condition p = .good) :
    (s.start e).engine = { s.engine.take e with participants := s.runSet, applied := 0 } := by
  rw [State.start_good on good, State.startPass_engine]
  rfl

/-- A Start Sequence over a page not GOOD stops at once with STORE_FAULT (R99, R100, R102). -/
theorem State.start_bad_lost {s : State} {e : EntryNo} (on : (s.engine.table.get e).enabled = true)
    (bad : ∃ p ∈ (s.engine.table.get e).pages, s.store.condition p ≠ .good) :
    s.Halted (s.start e) .storeFault ∧ ((s.start e).flag .storeFault).isSet = true ∧ s.WaitersRun (s.start e) fun _ => true := by
  rw [State.start_bad on bad]
  have halted := s.idle_halted .storeFault
  have run := s.idle_waitersRun .storeFault
  generalize s.idle .storeFault = u at *
  have socket : ∀ n, (u.raise .storeFault 0#16).socket n = u.socket n := fun n => State.socket_congr rfl n
  refine ⟨halted.congr rfl fun n => State.permits_eq (by rw [socket]), by rw [State.flag_raise, if_pos rfl], fun n => ?_⟩
  rw [socket]
  exact run n

/-- A Start Sequence over GOOD pages starts a pass (R99, R100, R103). -/
theorem State.start_good_sockets {s : State} {e : EntryNo} (on : (s.engine.table.get e).enabled = true)
    (good : ∀ p ∈ (s.engine.table.get e).pages, s.store.condition p = .good) :
    (s.start e).events = s.events ∧ (s.start e).store = s.store ∧ s.PassStarted (s.start e) ∧
    ∀ n, ((s.start e).socket n).scu = (s.socket n).scu ∧ ((s.start e).socket n).lane.profile = (s.socket n).lane.profile ∧
      SocketSet.has (s.start e).engine.participants n = ((s.socket n).scu.state == .run) ∧
      ((s.socket n).scu.state ≠ .run → ((s.start e).socket n).lane = (s.socket n).lane) := by
  rw [State.start_good on good]
  have socket : ∀ n, ({ s with engine := s.engine.take e } : State).socket n = s.socket n := fun n => State.socket_congr rfl n
  have events : ({ s with engine := s.engine.take e } : State).events = s.events := rfl
  have store : ({ s with engine := s.engine.take e } : State).store = s.store := rfl
  generalize ({ s with engine := s.engine.take e } : State) = u at *
  refine ⟨by rw [← events]; simp, by rw [← store]; simp, fun n => ?_, fun n => ⟨?_, ?_, ?_, fun other => ?_⟩⟩
  · rw [← socket]; exact u.startPass_started n
  · rw [(u.startPass_kept n).1, socket]
  · rw [← socket, State.startPass_socket]; split <;> rfl
  · rw [State.startPass_participants, (u.startPass_kept n).1, socket]
  · rw [State.startPass_lane (by rw [socket]; exact other), socket]

/-! ### Stop Sequence (R101) -/

theorem stopSequence_exec {s : State} {dst : Byte} (h : s.Hears dst) :
    exec (.stopSequence dst []) s =
      .next (({ s.heard with engine := s.engine.stop } : State).answer 0x39#8 .ok [s.engine.stop.state.code]) :=
  h.exec_plain (c := .stopSequence dst []) rfl rfl rfl (by simp)
    (rfl : stopSequenceKind.carryOut [] s.heard = ({ s.heard with engine := s.engine.stop }, .now .ok [s.engine.stop.state.code]))

/-- After Stop Sequence the engine is IDLE or STOPPING (R101). -/
theorem Engine.stop_code (g : Engine) : g.stop.state.code = if g.state = .idle then 0#8 else 2#8 := by
  unfold Engine.stop
  cases h : g.state with
  | run => rfl
  | idle | stopping => simp [h, EngineState.code]

/-- Settles O45. -/
theorem entriesAndTheEngine : Obligations.EntriesAndTheEngine := by
  unfold Obligations.EntriesAndTheEngine
  refine ⟨SeqEntry.mem_pages, ?_, ?_, ?_⟩
  · intro dst b p s h length
    refine ⟨fun bad => writeSequenceEntry_exec h length (writeSequenceEntryKind_refused bad _), fun e entry number passes => ?_⟩
    have carry := writeSequenceEntryKind_carryOut number passes s.heard
    have executing : s.heard.engine.executing = some e ↔ _ := s.engine.executing_iff e
    refine ⟨fun busy current => ?_, fun free => ?_⟩
    · rw [if_pos (executing.mpr ⟨busy, current⟩)] at carry
      exact writeSequenceEntry_exec h length carry
    · rw [if_neg fun x => free (executing.mp x)] at carry
      exact ⟨_, writeSequenceEntry_exec h length carry, rfl, rfl, rfl, rfl⟩
  · intro dst b s h refused
    refine ⟨fun above => ?_, fun below busy => ?_, fun e number idle => ?_⟩
    · have carry : startSequenceKind.carryOut [b] s.heard = (s.heard, .now .badArg []) := by
        simp only [startSequenceKind, byteAt_single, entryNoOf_above above]
      exact startSequence_exec h carry
    · have carry := startSequenceKind_carryOut (e := ⟨b.toNat, by omega⟩) rfl s.heard
      rw [if_pos (by exact busy)] at carry
      exact startSequence_exec h carry
    · intro entry
      have carry := startSequenceKind_carryOut number s.heard
      rw [if_neg (by rw [State.heard_engine, idle]; decide)] at carry
      refine ⟨fun off => ?_, fun on bad => ?_, fun on good => ?_⟩
      · rw [if_pos (by exact off)] at carry
        exact startSequence_exec h carry
      · rw [if_neg (by rw [State.heard_engine]; exact ne_of_eq_of_ne on (by decide))] at carry
        obtain ⟨halted, flag, run⟩ := State.start_bad_lost (s := s.heard) on bad
        refine ⟨_, startSequence_exec h carry, ?_⟩
        have bytes : (s.heard.start e).engine.startBytes = [0#8, 255#8] ++ le32 s.engine.loopIndex ++ [3#8] := by
          rw [Engine.startBytes, halted.state, halted.current, halted.lastStop, halted.loopIndex]; rfl
        rw [bytes]
        generalize s.heard.start e = t at *
        exact ⟨halted.state, halted.lastStop, halted.current, halted.loopIndex, flag, halted.rate, run, rfl⟩
      · rw [if_neg (by rw [State.heard_engine]; exact ne_of_eq_of_ne on (by decide))] at carry
        obtain ⟨events, store, started, sockets⟩ := State.start_good_sockets (s := s.heard) on good
        have engine := State.start_engine (s := s.heard) on good
        refine ⟨_, startSequence_exec h carry, ?_⟩
        have bytes : (s.heard.start e).engine.startBytes =
            [1#8, b] ++ le32 (s.heard.start e).engine.loopIndex ++ [s.engine.lastStop.code] := by
          rw [engine, ← entryCode_eq number]; rfl
        rw [bytes]
        generalize s.heard.start e = t at *
        have take : ∀ {β : Type} (f : Engine → β), f t.engine = f { s.engine.take e with participants := s.heard.runSet, applied := 0 } :=
          fun f => congrArg f engine
        exact ⟨take Engine.state, take Engine.current, take Engine.held, take Engine.repeatsLeft, take Engine.applied,
          take Engine.rate, events, store, take Engine.loopIndex, started, sockets, rfl⟩
  · intro dst s h
    have row := stopSequence_exec h
    rw [Engine.stop_code] at row
    exact ⟨_, row, rfl, rfl, rfl, rfl⟩

end Sys2Proof.Machine
end

section
/-!
PROOFS. The TRU's notices that a socket is no longer settled, and the reports they stand behind (R70, R74; log entry 27).
-/

namespace Sys2Proof.Machine

/-! ### What the SCU does, it does without a look at the reports that wait -/

/-- The board with other reports waiting. -/
def State.withReports (s : State) (l : List Report) : State := { s with reports := l }

theorem State.withReports_socket (s : State) (l : List Report) (n : Sock) : (s.withReports l).socket n = s.socket n := State.socket_congr rfl n

theorem State.withReports_move (s : State) (l : List Report) (n : Sock) (st : SocketState) :
    (s.withReports l).move n st = (s.move n st).withReports l := by
  have listed : (if st.powered then (s.withReports l).modSocket n fun k => k.moved st
      else ((s.withReports l).modSocket n fun k => k.moved st).modFeed (feedOf n) fun g => g.leave n) =
      (if st.powered then s.modSocket n fun k => k.moved st
        else (s.modSocket n fun k => k.moved st).modFeed (feedOf n) fun g => g.leave n).withReports l := by
    split
    · rfl
    · cases feedOf n <;> rfl
  have rate : ∀ (u : State) x, (u.withReports l).rateAfter x = (u.rateAfter x).withReports l := fun u x => by
    have engine : (u.withReports l).engine = u.engine := rfl
    unfold State.rateAfter
    rw [engine]
    split
    · rfl
    · rfl
  have follow : ∀ u : State, ({ u.withReports l with engine := u.engine.follow n st } : State) =
      ({ u with engine := u.engine.follow n st } : State).withReports l := fun _ => rfl
  unfold State.move
  dsimp only
  rw [listed]
  exact (congrArg (State.rateAfter · s.engine.powered) (follow _)).trans (rate _ _)

theorem State.withReports_feed (s : State) (l : List Report) (f : FeedId) : (s.withReports l).feed f = s.feed f := by
  cases f <;> rfl

theorem State.withReports_evaluate (s : State) (f : FeedId) :
    ∃ sent, ∀ l, (s.withReports l).evaluate f = (s.evaluate f).withReports (l ++ sent) := by
  have socket : ∀ l, (s.withReports l).socket = s.socket := fun l => funext (s.withReports_socket l)
  have feed : ∀ l, (s.withReports l).feed = s.feed := fun l => funext (s.withReports_feed l)
  have ramping : ∀ l, (s.withReports l).ramping f = s.ramping f := fun l => by
    simp only [State.ramping, State.granted, State.inQueue, socket, feed]
  have admission : ∀ l, (s.withReports l).admission = s.admission := fun l => funext fun n => by
    rw [State.admission, State.admission, socket]
  have committed : ∀ l, (s.withReports l).committed f = s.committed f := fun l => by
    rw [State.committed, State.committed, admission, feed]
  cases queue : (s.feed f).queue with
  | nil => exact ⟨[], fun l => by rw [State.evaluate, State.evaluate, feed, queue, List.append_nil]⟩
  | cons n rest =>
    by_cases fits : s.ramping f = false ∧ s.committed f + s.admission n ≤ (s.feed f).limit
    · refine ⟨[⟨n, .grant⟩], fun l => ?_⟩
      simp only [State.evaluate, feed, queue, ramping, committed, admission, if_pos fits]
      cases f <;> rfl
    · refine ⟨[], fun l => ?_⟩
      simp only [State.evaluate, feed, queue, ramping, committed, admission, if_neg fits, List.append_nil]

theorem State.withReports_accountFailure (s : State) (l : List Report) (n : Sock) (c : Cause) (d : SocketState) :
    (s.withReports l).accountFailure n c d = (s.accountFailure n c d).withReports l := by
  have log : ∀ (u : State) (r : FailRecord), (u.withReports l).logRecord r = (u.logRecord r).withReports l := fun u r => by
    have same : (u.withReports l).log = u.log := rfl
    unfold State.logRecord State.storeRecord State.dropRecord
    rw [same]
    dsimp only
    split
    · split <;> rfl
    · split <;> rfl
  have captures : ∀ u : State, (u.withReports l).takeCaptures n c = (u.takeCaptures n c).withReports l := fun u => by
    unfold State.takeCaptures
    split <;> rfl
  have kind : (s.withReports l).kindOf n = s.kindOf n := by rw [State.kindOf, State.kindOf, State.withReports_socket]
  have record : (s.withReports l).recordOf n (s.kindOf n) c d = s.recordOf n (s.kindOf n) c d := by
    unfold State.recordOf; rw [State.withReports_socket]; rfl
  have marked : (s.withReports l).markFailed n (s.kindOf n) c = (s.markFailed n (s.kindOf n) c).withReports l := rfl
  unfold State.accountFailure
  dsimp only
  rw [kind, record, marked, log, captures]

theorem State.withReports_fail (s : State) (n : Sock) (c : Cause) :
    ∃ sent, ∀ l, (s.withReports l).fail n c = (s.fail n c).withReports (l ++ sent) := by
  have state : ∀ l, ((s.withReports l).socket n).scu.state = (s.socket n).scu.state := fun l => by rw [State.withReports_socket]
  cases runs : c.runsIn (s.socket n).scu.state with
  | false => exact ⟨[], fun l => by rw [State.fail_discarded _ n c runs, State.fail_discarded _ n c (by rw [state]; exact runs), List.append_nil]⟩
  | true =>
    have taken : ∀ l, (s.withReports l).fail n c = (((s.accountFailure n c (c.disposition s.link.mode)).withReports l).dispose n
        (c.disposition s.link.mode)).raise c.flag (single n) := fun l => by
      rw [State.fail_taken _ n c (by rw [state]; exact runs), ← State.withReports_accountFailure]; rfl
    rw [State.fail_taken _ n c runs]
    generalize s.accountFailure n c (c.disposition s.link.mode) = u at *
    generalize c.disposition s.link.mode = d at *
    by_cases hold : d = .hold
    · refine ⟨[], fun l => ?_⟩
      rw [taken, State.dispose, State.dispose, if_pos hold, if_pos hold, State.withReports_move, List.append_nil]
      rfl
    · obtain ⟨sent, evaluate⟩ := (u.move n d).withReports_evaluate (feedOf n)
      refine ⟨sent, fun l => ?_⟩
      rw [taken, State.dispose, State.dispose, if_neg hold, if_neg hold, State.moveAdmit, State.moveAdmit,
        State.withReports_move, evaluate]
      rfl

theorem State.withReports_takeSettled (s : State) (n : Sock) (l : List Report) :
    (s.withReports l).takeSettled n = (s.takeSettled n).withReports l := by
  have run : ∀ u : State, (u.withReports l).settleToRun n = (u.settleToRun n).withReports l := fun u => by
    have may : (u.withReports l).mayRun n = u.mayRun n := rfl
    unfold State.settleToRun
    rw [may, State.withReports_move]
    split <;> rfl
  have state : ((s.withReports l).socket n).scu.state = (s.socket n).scu.state := by rw [State.withReports_socket]
  unfold State.takeSettled
  rw [state]
  split
  · exact run (s.modScu n fun r => { r with settledMark := true })
  · rfl

/-- The reports of the TRU have their effect whatever reports wait behind them. -/
theorem State.withReports_taken (s : State) (n : Sock) {kind : ReportKind} (tru : kind.sender = .tru) :
    ∃ sent, ∀ l, (s.withReports l).taken n kind = (s.taken n kind).withReports (l ++ sent) := by
  cases kind with
  | grant | qualified | trip | shed | target => exact absurd tru (by decide)
  | settled => exact ⟨[], fun l => by rw [List.append_nil]; exact s.withReports_takeSettled n l⟩
  | notSettled => exact ⟨[], fun l => by rw [List.append_nil]; rfl⟩
  | failure c => exact s.withReports_fail n c

/-! ### The notices (log entry 27) -/

theorem State.oldest_eq_none {s : State} {n : Sock} {sender : Reporter}
    (free : ∀ r ∈ s.reports, r.socket = n → r.kind.sender ≠ sender) : s.oldest n sender = none := by
  rw [State.oldest, List.find?_eq_none]
  intro r hr
  simpa using free r hr

theorem State.oldest_eq {s : State} {n : Sock} {sender : Reporter} {before after : List Report} {r : Report}
    (reports : s.reports = before ++ r :: after) (free : ∀ x ∈ before, x.socket = n → x.kind.sender ≠ sender)
    (here : r.socket = n ∧ r.kind.sender = sender) : s.oldest n sender = some r := by
  rw [State.oldest, reports, List.find?_append, List.find?_eq_none.mpr fun x hx => by simpa using free x hx]
  simp [here]

theorem erase_behind {before after : List Report} {r : Report} (fresh : r ∉ before) :
    (before ++ r :: after).erase r = before ++ after := by
  rw [List.erase_append_right _ fresh, List.erase_cons_head]

theorem State.takeNotSettled_drop (s : State) (n : Sock) (r : Report) :
    (s.takeNotSettled n).drop r = (s.drop r).takeNotSettled n := rfl

/-- The notices that stand first clear the mark, whenever it is cleared before them. -/
theorem State.takeNotices_takeNotSettled (n : Sock) : ∀ (k : Nat) (s : State),
    State.takeNotices n k (s.takeNotSettled n) = (State.takeNotices n k s).takeNotSettled n
  | 0, _ => rfl
  | k + 1, s => by
    have oldest : (s.takeNotSettled n).oldest n .tru = s.oldest n .tru := rfl
    rw [State.takeNotices, State.takeNotices, oldest]
    cases s.oldest n .tru with
    | none => rfl
    | some r =>
      dsimp only
      split
      · rw [State.takeNotSettled_drop, State.takeNotices_takeNotSettled n k]
      · rfl

/-- A report of the TRU in its turn is taken, and the notices behind it with it (R20, R74). -/
theorem exec_tru {c : Instr} {n : Sock} {kind : ReportKind} (row : reportOfRow c = some ⟨n, kind⟩) (tru : kind.sender = .tru)
    {s : State} (due : s.due = []) {before after : List Report} (reports : s.reports = before ++ ⟨n, kind⟩ :: after)
    (free : ∀ r ∈ before, r.socket = n → r.kind.sender ≠ .tru) :
    exec c s = .next (State.takeNotices n s.reports.length ((s.withReports (before ++ after)).taken n kind)) := by
  have first : s.beforeReport = s := by
    rw [s.beforeReport_settled (by simp [due]) (by simp [due]), s.settled_of_none due]
  have may : s.mayTake n kind = true := s.mayTake_of_waiting n kind before after reports fun r hr hs => by
    have other := free r hr hs
    refine ⟨fun e => other (by rw [e, tru]), ?_⟩
    simp [ReportKind.waitsBehind, tru, other]
  have dropped : s.drop ⟨n, kind⟩ = s.withReports (before ++ after) := by
    rw [State.drop, reports, erase_behind fun h => free _ h rfl tru]; rfl
  rw [exec_report row, first, State.takeReport, if_pos may, dropped]

/-- A report of the TRU with a notice behind it is taken as if alone, and the notice with it (R74; log entry 27). -/
theorem exec_noticed {c : Instr} {n : Sock} {kind : ReportKind} (row : reportOfRow c = some ⟨n, kind⟩) (tru : kind.sender = .tru)
    {s : State} (due : s.due = []) {before between after : List Report}
    (reports : s.reports = before ++ ⟨n, kind⟩ :: (between ++ ⟨n, .notSettled⟩ :: after))
    (free : ∀ r ∈ before ++ between, r.socket = n → r.kind.sender ≠ .tru) {u : State}
    (alone : exec c (s.withReports (before ++ ⟨n, kind⟩ :: (between ++ after))) = .next u) :
    exec c s = .next (u.takeNotSettled n) := by
  have ahead : ∀ r ∈ before, r.socket = n → r.kind.sender ≠ .tru := fun r hr => free r (List.mem_append_left _ hr)
  obtain ⟨sent, taken⟩ := s.withReports_taken n tru
  have row' := exec_tru row tru (s := s.withReports (before ++ ⟨n, kind⟩ :: (between ++ after))) due rfl ahead
  rw [alone] at row'
  obtain rfl := Host.Outcome.next.inj row'
  have both : ∀ l l', (s.withReports l').withReports l = s.withReports l := fun _ _ => rfl
  rw [exec_tru row tru due reports ahead, ← State.takeNotices_takeNotSettled, both, taken, taken]
  have length : s.reports.length = (before ++ ⟨n, kind⟩ :: (between ++ after)).length + 1 := by
    rw [reports]; simp; omega
  have list : before ++ (between ++ ⟨n, .notSettled⟩ :: after) ++ sent =
      (before ++ between) ++ ⟨n, .notSettled⟩ :: (after ++ sent) := by simp
  have rest : before ++ (between ++ after) ++ sent = (before ++ between) ++ (after ++ sent) := by simp
  have first : ((s.taken n kind).withReports ((before ++ between) ++ ⟨n, .notSettled⟩ :: (after ++ sent))).oldest n .tru =
      some ⟨n, .notSettled⟩ := State.oldest_eq rfl free ⟨rfl, rfl⟩
  have dropped : ((s.taken n kind).withReports ((before ++ between) ++ ⟨n, .notSettled⟩ :: (after ++ sent))).drop ⟨n, .notSettled⟩ =
      (s.taken n kind).withReports ((before ++ between) ++ (after ++ sent)) := by
    rw [State.drop]
    exact congrArg (State.withReports (s.taken n kind)) (erase_behind fun h => free _ h rfl rfl)
  rw [length, list, rest, State.takeNotices, first]
  dsimp only
  rw [if_pos rfl, dropped]
  rfl

/-! ### A report leaves the records of other sockets alone -/

/-- The SCU's record of every socket but n is as it was. -/
def State.RecordsStay (s t : State) (n : Sock) : Prop := ∀ m, m ≠ n → (t.socket m).scu = (s.socket m).scu

namespace State.RecordsStay

variable {s t u : State} {n : Sock}

theorem refl (s : State) (n : Sock) : s.RecordsStay s n := fun _ _ => rfl

theorem trans (h : s.RecordsStay t n) (h' : t.RecordsStay u n) : s.RecordsStay u n := fun m hm => (h' m hm).trans (h m hm)

theorem of_sockets (h : t.sockets = s.sockets) : s.RecordsStay t n := fun m _ => by rw [State.socket_congr h]

theorem modSocket (s : State) (n : Sock) (f : Socket → Socket) : s.RecordsStay (s.modSocket n f) n := fun m hm => by
  rw [State.modSocket_socket, if_neg hm]

theorem move (s : State) (n : Sock) (st : SocketState) : s.RecordsStay (s.move n st) n := fun m hm => by
  rw [State.move_socket, if_neg hm]

theorem evaluate (s : State) (f : FeedId) : s.RecordsStay (s.evaluate f) n := fun m _ => s.evaluate_scu f m

theorem moveAdmit (s : State) (n : Sock) (st : SocketState) : s.RecordsStay (s.moveAdmit n st) n :=
  (move s n st).trans (evaluate _ _)

theorem requeued (s : State) (n : Sock) : s.RecordsStay (s.requeued n) n := by
  unfold State.requeued
  dsimp only
  split
  · exact moveAdmit s n .off
  · exact evaluate s _

theorem fail (s : State) (n : Sock) (c : Cause) : s.RecordsStay (s.fail n c) n := by
  cases runs : c.runsIn (s.socket n).scu.state with
  | false => rw [s.fail_discarded n c runs]; exact refl s n
  | true =>
    rw [s.fail_taken n c runs]
    have accounted : s.RecordsStay (s.accountFailure n c (c.disposition s.link.mode)) n := fun m hm => by
      rw [State.accountFailure_socket, if_neg hm]
    refine (accounted.trans ?_).trans (of_sockets rfl)
    unfold State.dispose
    split
    · exact move _ n _
    · exact moveAdmit _ n _

theorem shedMove (s : State) (n : Sock) : s.RecordsStay (s.shedMove n) n := by
  have counted : s.RecordsStay (s.countShed n) n := modSocket s n _
  unfold State.shedMove
  dsimp only
  split
  · exact counted.trans (move _ n _)
  · split
    · exact (counted.trans (move _ n .queued)).trans (of_sockets (by simp))
    · exact refl s n

theorem taken (s : State) (n : Sock) (kind : ReportKind) : s.RecordsStay (s.taken n kind) n := by
  cases kind with
  | grant =>
    simp only [State.taken, State.takeGrant]
    split
    · exact move s n _
    · exact refl s n
  | qualified =>
    simp only [State.taken, State.takeQualified]
    split
    · exact moveAdmit s n _
    · exact refl s n
  | settled =>
    simp only [State.taken, State.takeSettled, State.settleToRun]
    split
    · split
      · exact (modSocket s n _).trans (move _ n _)
      · exact modSocket s n _
    · exact refl s n
  | notSettled => exact modSocket s n _
  | target =>
    simp only [State.taken, State.takeTarget]
    split
    · exact ((modSocket s n _).trans (moveAdmit _ n _)).trans (of_sockets rfl)
    · exact refl s n
  | trip =>
    simp only [State.taken, State.takeTrip]
    split
    · split
      · have queued := (modSocket s n fun k => k.tripped (s.isRetry n)).trans (move _ n .queued)
        exact (queued.trans (of_sockets (by simp))).trans (requeued _ n)
      · exact (modSocket s n _).trans (fail _ n _)
    · exact refl s n
  | shed =>
    simp only [State.taken, State.takeShed]
    split
    · exact (shedMove s n).trans (evaluate _ _)
    · split
      · exact (shedMove s n).trans (requeued _ n)
      · exact refl s n
  | failure c => exact fail s n c

end State.RecordsStay

/-- The reports of the TRU about a socket. -/
def State.truReports (s : State) (m : Sock) : List Report := s.reports.filter fun x => x.socket == m && x.kind.sender == .tru

theorem filter_erase_of_neg {α : Type} [BEq α] [LawfulBEq α] {p : α → Bool} {a : α} (h : p a = false) :
    ∀ l : List α, (l.erase a).filter p = l.filter p
  | [] => rfl
  | x :: l => by
    by_cases e : x = a
    · subst e; simp [h]
    · rw [List.erase_cons_tail (by simpa using e), List.filter_cons, List.filter_cons, filter_erase_of_neg h l]

theorem State.truReports_drop (s : State) {r : Report} {m : Sock} (other : m ≠ r.socket) :
    (s.drop r).truReports m = s.truReports m :=
  filter_erase_of_neg (by simp [Ne.symm other]) _

theorem State.truReports_grants {s t : State} (h : s.GrantsSent t) (m : Sock) : t.truReports m = s.truReports m := by
  obtain ⟨l, grants, sent⟩ := h
  have none : (l.filter fun x => x.socket == m && x.kind.sender == .tru) = [] := by
    rw [List.filter_eq_nil_iff]
    intro r hr
    simp [grants r hr, ReportKind.sender]
  rw [State.truReports, sent, List.filter_append, none, List.append_nil]
  rfl

theorem State.takeNotices_others (n : Sock) : ∀ (k : Nat) (s : State),
    s.RecordsStay (State.takeNotices n k s) n ∧ ∀ m, m ≠ n → (State.takeNotices n k s).truReports m = s.truReports m
  | 0, s => ⟨.refl s n, fun _ _ => rfl⟩
  | k + 1, s => by
    unfold State.takeNotices
    cases found : s.oldest n .tru with
    | none => exact ⟨.refl s n, fun _ _ => rfl⟩
    | some r =>
      dsimp only
      split
      · obtain ⟨records, reports⟩ := State.takeNotices_others n k ((s.drop r).takeNotSettled n)
        have about : r.socket = n := by
          have here := List.find?_some found
          simp only [Bool.and_eq_true, beq_iff_eq] at here
          exact here.1
        have dropped : s.RecordsStay ((s.drop r).takeNotSettled n) n :=
          (State.RecordsStay.of_sockets rfl).trans (.modSocket (s.drop r) n _)
        exact ⟨dropped.trans records, fun m hm => (reports m hm).trans (s.truReports_drop (by rw [about]; exact hm))⟩
      · exact ⟨.refl s n, fun _ _ => rfl⟩

/-- A report taken leaves the record of every other socket, and the reports of the TRU about it (R74; log entry 27). -/
theorem exec_report_others {c : Instr} {r : Report} (row : reportOfRow c = some r) {s : State} (due : s.due = []) :
    ∃ t, exec c s = .next t ∧ ∀ m, m ≠ r.socket →
      (t.socket m).scu = (s.socket m).scu ∧ t.truReports m = s.truReports m := by
  obtain ⟨n, kind⟩ := r
  have first : s.beforeReport = s := by
    rw [s.beforeReport_settled (by simp [due]) (by simp [due]), s.settled_of_none due]
  refine ⟨_, exec_report row s, ?_⟩
  rw [first]
  rcases s.takeReport_cases n kind (·.taken n kind) with ⟨-, e⟩ | ⟨-, e⟩ <;> rw [e]
  · obtain ⟨records, reports⟩ := State.takeNotices_others n s.reports.length ((s.drop ⟨n, kind⟩).taken n kind)
    have taken := State.RecordsStay.taken (s.drop ⟨n, kind⟩) n kind
    intro m hm
    refine ⟨(records m hm).trans (taken m hm), (reports m hm).trans ?_⟩
    rw [State.truReports_grants (.taken _ n kind), s.truReports_drop hm]
  · exact fun m _ => ⟨rfl, rfl⟩

end Sys2Proof.Machine
end

section
/-!
PROOFS. A thermal tick: the TRU's monitors, reports, notices and flags (R56 to R60, R68, R70 to R74).
-/

namespace Sys2Proof.Machine

/-! ### One position at a thermal tick -/

/-- What readings, verdict and regulator leave of a TRU part. -/
structure Heat.Monitored (h h' : Heat) : Prop where
  profile : h'.profile = h.profile
  inWindowCount : h'.inWindowCount = h.inWindowCount
  outWindowCount : h'.outWindowCount = h.outWindowCount
  runawayCount : h'.runawayCount = h.runawayCount
  lastLimited : h'.lastLimited = h.lastLimited

theorem Heat.Monitored.trans {a b c : Heat} (h : a.Monitored b) (h' : b.Monitored c) : a.Monitored c :=
  ⟨h'.profile.trans h.profile, h'.inWindowCount.trans h.inWindowCount, h'.outWindowCount.trans h.outWindowCount,
    h'.runawayCount.trans h.runawayCount, h'.lastLimited.trans h.lastLimited⟩

theorem Heat.Monitored.read (h : Heat) (t : Int) : h.Monitored (h.read t) := by
  unfold Heat.read
  split <;> exact ⟨rfl, rfl, rfl, rfl, rfl⟩

theorem Heat.Monitored.demandStage (h : Heat) (heated : Bool) : h.Monitored (h.demandStage heated) := by
  unfold Heat.demandStage
  split
  · split <;> exact ⟨rfl, rfl, rfl, rfl, rfl⟩
  · exact ⟨rfl, rfl, rfl, rfl, rfl⟩

theorem Heat.Monitored.thermalFirst (k : Socket) (t : Int) : k.heat.Monitored (k.thermalFirst t).heat := by
  unfold Socket.thermalFirst
  dsimp only
  split
  · exact .demandStage _ _
  · have judged : (k.heat.read t).Monitored (k.heat.read t).judge := ⟨rfl, rfl, rfl, rfl, rfl⟩
    exact ((Heat.Monitored.read _ t).trans judged).trans (.demandStage _ _)

/-- A position after a thermal tick: reading `x`, duty `d` (R56). -/
def Socket.ticked (k : Socket) (x : Int) (d : Nat) : Socket :=
  ({ (k.thermalFirst x).withDuty d with
      heat := ((k.thermalFirst x).withDuty d).heat.monitor k.heat k.scu.state } : Socket).notices

theorem Socket.notices_heat (k : Socket) : k.notices.heat = k.heat := by
  unfold Socket.notices
  split <;> rfl

theorem Socket.ticked_heat (k : Socket) (x : Int) (d : Nat) :
    (k.ticked x d).heat = ((k.thermalFirst x).withDuty d).heat.monitor k.heat k.scu.state := by
  rw [Socket.ticked, Socket.notices_heat]

theorem Socket.ticked_profile (k : Socket) (x : Int) (d : Nat) : (k.ticked x d).heat.profile = k.heat.profile := by
  rw [Socket.ticked_heat]
  exact (Heat.Monitored.thermalFirst k x).profile

/-- The in-window count (R70). -/
theorem Socket.ticked_inWindowCount (k : Socket) (x : Int) (d : Nat) :
    (k.ticked x d).heat.inWindowCount =
      (if k.scu.state = .settle ∧ (k.ticked x d).heat.inWindow = true then min 8 (k.heat.inWindowCount + 1) else 0) := by
  rw [← (Heat.Monitored.thermalFirst k x).inWindowCount, Socket.ticked_heat]
  rfl

/-- The out-of-window count (R71). -/
theorem Socket.ticked_outWindowCount (k : Socket) (x : Int) (d : Nat) :
    (k.ticked x d).heat.outWindowCount =
      (if k.scu.state = .run ∧ k.heat.profile.excursionLimit ≠ 0 ∧ (k.ticked x d).heat.inWindow = false then
        min 28800 (k.heat.outWindowCount + 1) else 0) := by
  rw [← (Heat.Monitored.thermalFirst k x).outWindowCount, ← (Heat.Monitored.thermalFirst k x).profile, Socket.ticked_heat]
  rfl

theorem Socket.ticked_runawayCount (k : Socket) (x : Int) (d : Nat) :
    (k.ticked x d).heat.runawayCount =
      if k.scu.state.powered then ((k.thermalFirst x).withDuty d).heat.runawayStep k.heat.held else 0 := by
  rw [Socket.ticked_heat]
  rfl

/-- The runaway count of a heated socket with a held temperature before and after the reading (R72). -/
theorem Socket.ticked_runaway (k : Socket) (x : Int) (d : Nat) (now before : Int) (heated : k.scu.state.powered = true)
    (after : (k.ticked x d).heat.held = some now) (held : k.heat.held = some before) :
    (k.ticked x d).heat.runawayCount =
      (if (k.ticked x d).heat.demand = 0 ∧ k.heat.profile.setpoint + k.heat.profile.runawayMargin < now ∧ before ≤ now then
        min 16 (k.heat.runawayCount + 1) else 0) := by
  have kept := Heat.Monitored.thermalFirst k x
  rw [Socket.ticked_runawayCount, if_pos heated]
  rw [Socket.ticked_heat] at after ⊢
  have now' : ((k.thermalFirst x).withDuty d).heat.held = some now := after
  simp only [Heat.runawayStep, now', held]
  rw [← kept.profile, ← kept.runawayCount]
  rfl

theorem Socket.ticked_noRunaway (k : Socket) (x : Int) (d : Nat)
    (cold : k.scu.state.powered = false ∨ k.heat.held = none ∨ (k.ticked x d).heat.held = none) :
    (k.ticked x d).heat.runawayCount = 0 := by
  rw [Socket.ticked_runawayCount]
  split
  · rename_i heated
    have missing := cold.resolve_left (by rw [heated]; decide)
    rw [Socket.ticked_heat] at missing
    have held : k.heat.held = none ∨ ((k.thermalFirst x).withDuty d).heat.held = none := missing
    unfold Heat.runawayStep
    rcases held with e | e <;> rw [e]
    cases ((k.thermalFirst x).withDuty d).heat.held <;> rfl
  · rfl

/-- The SCU's record after a thermal tick (R25). -/
theorem Socket.ticked_scu (k : Socket) (x : Int) (d : Nat) :
    (k.ticked x d).scu.state = k.scu.state ∧ (k.ticked x d).scu.settledMark = k.scu.settledMark ∧
    (k.ticked x d).scu.inWindowThroughout = (k.scu.inWindowThroughout && (!k.scu.state.powered || (k.ticked x d).heat.inWindow)) ∧
    (k.ticked x d).scu.heaterLimitedSinceRead = (k.scu.heaterLimitedSinceRead || (k.ticked x d).heat.limited) ∧
    (k.ticked x d).heat.heatedBefore = k.scu.state.powered := by
  rw [Socket.ticked_heat]
  unfold Socket.ticked Socket.notices
  have state : ((k.thermalFirst x).withDuty d).scu.state = k.scu.state := rfl
  dsimp only
  have marked : (((k.thermalFirst x).withDuty d).heat.monitor k.heat k.scu.state).heatedBefore = k.scu.state.powered := rfl
  rw [state]
  cases heated : k.scu.state.powered with
  | true => exact ⟨rfl, rfl, rfl, rfl, marked.trans heated⟩
  | false => exact ⟨rfl, rfl, (Bool.and_true _).symm, rfl, marked.trans heated⟩

/-- The peak held temperature (R59). -/
theorem Socket.ticked_account (k : Socket) (x : Int) (d : Nat) :
    (∀ held, k.scu.state.powered = true → (k.ticked x d).heat.held = some held →
      (k.ticked x d).account.peakTemp = max k.account.peakTemp held) ∧
    (k.scu.state.powered = false ∨ (k.ticked x d).heat.held = none → (k.ticked x d).account = k.account) := by
  rw [Socket.ticked_heat]
  unfold Socket.ticked Socket.notices
  have state : ((k.thermalFirst x).withDuty d).scu.state = k.scu.state := rfl
  dsimp only
  rw [state]
  generalize ((k.thermalFirst x).withDuty d).heat.monitor k.heat k.scu.state = h
  have account : ((k.thermalFirst x).withDuty d).account = k.account := rfl
  cases k.scu.state.powered with
  | false => exact ⟨nofun, fun _ => rfl⟩
  | true =>
    refine ⟨fun held _ e => ?_, fun e => ?_⟩
    · rw [if_pos rfl]; dsimp only; rw [e, account]
    · rw [if_pos rfl]; dsimp only; rw [e.resolve_left nofun, account]

/-! ### The tick -/

/-- The board after stages 1 to 3 of a thermal tick. -/
def State.demanded (s : State) (readings : Vector Int 16) : State := s.mapSockets fun n k => k.thermalFirst (readings.get n)

/-- The board after stage 5's counts and the notices, before the reports. -/
def State.monitored (s : State) (readings : Vector Int 16) : State :=
  (s.demanded readings).scale.mapSockets fun n k =>
    ({ k with heat := k.heat.monitor (s.socket n).heat k.scu.state } : Socket).notices

theorem State.thermalTick_eq (s : State) (readings : Vector Int 16) :
    s.thermalTick readings = allSocks.foldl (State.thermalReport s.sockets) (s.monitored readings) := rfl

/-- The duties of a thermal tick (R66, R67). -/
def State.tickDuty (s : State) (readings : Vector Int 16) (n : Sock) : Nat :=
  (scaleDuties s.budget (s.demanded readings).demands).getD n.val 0

theorem State.demanded_socket (s : State) (readings : Vector Int 16) (n : Sock) :
    (s.demanded readings).socket n = (s.socket n).thermalFirst (readings.get n) := s.mapSockets_socket n _

/-- The board with its duties given, before the flag of a limit. -/
def State.scaled (s : State) : State := s.mapSockets fun n k => k.withDuty ((scaleDuties s.budget s.demands).getD n.val 0)

theorem State.scale_eq (s : State) :
    s.scale = if s.lastLimitedSet = 0#16 ∧ s.scaled.limitedSet ≠ 0#16 then s.scaled.raise .heaterLimited s.scaled.limitedSet
      else s.scaled := rfl

theorem State.scaled_socket (s : State) (n : Sock) :
    s.scaled.socket n = (s.socket n).withDuty ((scaleDuties s.budget s.demands).getD n.val 0) := s.mapSockets_socket n _

theorem State.scale_socket_eq (s : State) (n : Sock) : s.scale.socket n = s.scaled.socket n := by
  rw [State.scale_eq]
  split
  · exact State.socket_congr rfl n
  · rfl

theorem State.monitored_socket (s : State) (readings : Vector Int 16) (n : Sock) :
    (s.monitored readings).socket n = (s.socket n).ticked (readings.get n) (s.tickDuty readings n) := by
  have duty : (s.demanded readings).scale.socket n =
      ((s.socket n).thermalFirst (readings.get n)).withDuty (s.tickDuty readings n) := by
    rw [State.scale_socket_eq, State.scaled_socket, State.demanded_socket]
    rfl
  rw [State.monitored, State.mapSockets_socket, duty]
  rfl

/-! ### Reports, and what is due -/

/-- The reports that stages 1 and 2 give of a socket (R58, R60). -/
def Socket.limitReports (k : Socket) (n : Sock) : List Report :=
  (if k.scu.state.powered = true ∧ k.heat.overTemp = true then [⟨n, .failure .overTemp⟩] else []) ++
  (if k.scu.state.powered = true ∧ k.heat.implausible = 3 then [⟨n, .failure .sensorFault⟩] else [])

theorem State.limitReports_eq (s : State) (n : Sock) :
    s.limitReports n = { s with reports := s.reports ++ (s.socket n).limitReports n } := by
  unfold State.limitReports Socket.limitReports
  dsimp only
  generalize s.socket n = k
  cases k.scu.state.powered with
  | false => simp
  | true =>
    by_cases hot : k.heat.overTemp = true <;> by_cases fault : k.heat.implausible = 3 <;> simp [hot, fault, State.send]

/-- What a socket's monitors make due between the sockets before a tick and a state within it. -/
def State.tickExpiries (s : State) (before : Vector Socket 16) (n : Sock) : List Expiry :=
  (s.socket n).heat.expiries (before.get n).heat (s.socket n).scu n

/-- A window edge of a socket (R73). -/
def State.edgeAt (s : State) (before : Vector Socket 16) (n : Sock) : Bool :=
  (s.socket n).heat.edge (before.get n).heat (s.socket n).scu.state

theorem State.thermalReport_parts (s : State) (before : Vector Socket 16) (n : Sock) :
    (State.thermalReport before s n).sockets = s.sockets ∧
    (State.thermalReport before s n).due = s.due ++ s.tickExpiries before n ∧
    (State.thermalReport before s n).reports = s.reports ++ (s.socket n).limitReports n ∧
    (State.thermalReport before s n).events =
      (if s.edgeAt before n then s.raise .windowEdge (single n) else s).events := by
  unfold State.thermalReport State.tickExpiries State.edgeAt
  dsimp only
  cases (s.socket n).heat.edge (before.get n).heat (s.socket n).scu.state with
  | true =>
    have socket : (s.raise .windowEdge (single n)).socket n = s.socket n := State.socket_congr rfl n
    rw [if_pos rfl, State.limitReports_eq, socket]
    exact ⟨rfl, rfl, rfl, rfl⟩
  | false =>
    rw [if_neg (by decide), State.limitReports_eq]
    exact ⟨rfl, rfl, rfl, rfl⟩

theorem State.thermalReport_socket (s : State) (before : Vector Socket 16) (n m : Sock) :
    (State.thermalReport before s n).socket m = s.socket m := State.socket_congr (s.thermalReport_parts before n).1 m

theorem State.thermalTick_socket (s : State) (readings : Vector Int 16) (n : Sock) :
    (s.thermalTick readings).socket n = (s.socket n).ticked (readings.get n) (s.tickDuty readings n) := by
  rw [State.thermalTick_eq, foldl_keeps (fun u : State => u.socket n) _ (fun u m => u.thermalReport_socket s.sockets m n),
    State.monitored_socket]

theorem State.thermalReport_later (s : State) (before : Vector Socket 16) (n m : Sock) :
    (State.thermalReport before s n).tickExpiries before m = s.tickExpiries before m ∧
    (State.thermalReport before s n).edgeAt before m = s.edgeAt before m := by
  rw [State.tickExpiries, State.tickExpiries, State.edgeAt, State.edgeAt, State.thermalReport_socket]
  exact ⟨rfl, rfl⟩

theorem State.thermalReports_due (before : Vector Socket 16) (s : State) :
    (allSocks.foldl (State.thermalReport before) s).due = s.due ++ (allSocks.map (s.tickExpiries before)).flatten :=
  foldl_appends State.due (fun s n => s.tickExpiries before n) (fun s n => (s.thermalReport_parts before n).2.1)
    (fun s n m _ => (s.thermalReport_later before n m).1) _ s allSocks_nodup

theorem State.thermalReports_reports (before : Vector Socket 16) (s : State) :
    (allSocks.foldl (State.thermalReport before) s).reports =
      s.reports ++ (allSocks.map fun n => (s.socket n).limitReports n).flatten :=
  foldl_appends State.reports (fun s n => (s.socket n).limitReports n) (fun s n => (s.thermalReport_parts before n).2.2.1)
    (fun s n m _ => by rw [State.thermalReport_socket]) _ s allSocks_nodup

/-- The flags after the reports of a list of sockets: WINDOW_EDGE takes the sockets with an edge (R73, R157). -/
theorem State.thermalReports_flag (before : Vector Socket 16) : ∀ (l : List Sock) (s : State),
    ((l.foldl (State.thermalReport before) s).flag .windowEdge).isSet =
      ((s.flag .windowEdge).isSet || l.any fun n => s.edgeAt before n) ∧
    (∀ m, SocketSet.has ((l.foldl (State.thermalReport before) s).flag .windowEdge).sockets m =
      (SocketSet.has (s.flag .windowEdge).sockets m || l.any fun n => decide (m = n) && s.edgeAt before n)) ∧
    ∀ e, e ≠ .windowEdge → (l.foldl (State.thermalReport before) s).flag e = s.flag e
  | [], s => by simp
  | n :: l, s => by
    obtain ⟨isSet, sockets, others⟩ := State.thermalReports_flag before l (State.thermalReport before s n)
    have later : (State.thermalReport before s n).edgeAt before = s.edgeAt before :=
      funext fun m => (s.thermalReport_later before n m).2
    have flag := State.flag_congr (s.thermalReport_parts before n).2.2.2
    simp only [List.foldl_cons, List.any_cons]
    rw [isSet, later, flag]
    cases edge : s.edgeAt before n with
    | false =>
      refine ⟨by simp, fun m => ?_, fun e other => ?_⟩
      · rw [sockets, later, flag, if_neg (by rw [edge]; decide), Bool.and_false, Bool.false_or]
      · rw [others e other, flag, if_neg (by rw [edge]; decide)]
    | true =>
      refine ⟨by simp [State.flag_raise], fun m => ?_, fun e other => ?_⟩
      · rw [sockets, later, flag, if_pos edge, State.flag_raise, if_pos rfl, Bool.and_true, ← Bool.or_assoc]
        dsimp only
        rw [SocketSet.has_or, SocketSet.has_single]
      · rw [others e other, flag, if_pos edge, State.flag_raise, if_neg other]

theorem State.scaled_limitedSet (s : State) (n : Sock) : SocketSet.has s.limitedSet n = (s.socket n).heat.limited :=
  SocketSet.has_setWhere _ n

theorem setWhere_eq_zero (p : Sock → Bool) : setWhere p = 0#16 ↔ ∀ n, p n = false := by
  constructor
  · intro h n
    rw [← SocketSet.has_setWhere p n, h, SocketSet.has_zero]
  · intro h
    exact SocketSet.ext fun n => by rw [SocketSet.has_setWhere, h, SocketSet.has_zero]

theorem State.mapSockets_flag (s : State) (f : Sock → Socket → Socket) (e : EventFlag) : (s.mapSockets f).flag e = s.flag e :=
  State.flag_congr (by simp) e

/-- HEATER_LIMITED at a thermal tick: set where the scaling before found no socket limited and this one does (R68, R157; log entry 40). -/
theorem State.monitored_flag (s : State) (readings : Vector Int 16) (e : EventFlag) :
    (s.monitored readings).flag e =
      if ((∀ n, (s.socket n).heat.lastLimited = false) ∧ ∃ n, ((s.thermalTick readings).socket n).heat.limited = true) ∧
          e = .heaterLimited then
        { s.flag .heaterLimited with
          isSet := true, sockets := (s.flag .heaterLimited).sockets ||| (s.demanded readings).scaled.limitedSet }
      else s.flag e := by
  have limited : ∀ n, ((s.demanded readings).scaled.socket n).heat.limited =
      ((s.thermalTick readings).socket n).heat.limited := fun n => by
    rw [State.thermalTick_socket, Socket.ticked_heat, State.scaled_socket, State.demanded_socket]; rfl
  have last : (s.demanded readings).lastLimitedSet = 0#16 ↔ ∀ n, (s.socket n).heat.lastLimited = false := by
    rw [State.lastLimitedSet, setWhere_eq_zero]
    refine forall_congr' fun n => ?_
    rw [State.demanded_socket, (Heat.Monitored.thermalFirst _ _).lastLimited]
  have now : (s.demanded readings).scaled.limitedSet ≠ 0#16 ↔ ∃ n, ((s.thermalTick readings).socket n).heat.limited = true := by
    rw [State.limitedSet, ne_eq, setWhere_eq_zero]
    simp only [limited, not_forall, Bool.not_eq_false]
  have kept : ∀ e, (s.demanded readings).scaled.flag e = s.flag e := fun e =>
    (State.mapSockets_flag _ _ e).trans (State.mapSockets_flag _ _ e)
  rw [State.monitored, State.mapSockets_flag, State.scale_eq]
  by_cases begins : (∀ n, (s.socket n).heat.lastLimited = false) ∧ ∃ n, ((s.thermalTick readings).socket n).heat.limited = true
  · rw [if_pos ⟨last.mpr begins.1, now.mpr begins.2⟩, State.flag_raise, kept, kept]
    by_cases here : e = .heaterLimited
    · rw [if_pos here, if_pos ⟨begins, here⟩]
    · rw [if_neg here, if_neg fun x => here x.2]
  · rw [if_neg fun x => begins ⟨last.mp x.1, now.mp x.2⟩, kept, if_neg fun x => begins x.1]

/-! ### What is due and sent, socket by socket -/

/-- The part of a joined list that belongs to one socket. -/
theorem filter_flatten_own {α : Type} (f : Sock → List α) (p : α → Bool) (n : Sock) (own : ∀ x ∈ f n, p x = true)
    (other : ∀ m, m ≠ n → ∀ x ∈ f m, p x = false) : ∀ l : List Sock, l.Nodup →
      ((l.map f).flatten).filter p = if n ∈ l then f n else []
  | [], _ => by simp
  | m :: l, once => by
    obtain ⟨fresh, once⟩ := List.nodup_cons.mp once
    rw [List.map_cons, List.flatten_cons, List.filter_append, filter_flatten_own f p n own other l once]
    by_cases e : m = n
    · subst e
      rw [List.filter_eq_self.mpr own, if_neg fresh, List.append_nil, if_pos (by simp)]
    · have none : (f m).filter p = [] := List.filter_eq_nil_iff.mpr fun x hx => by simp [other m e x hx]
      rw [none, List.nil_append]
      simp [Ne.symm e]

theorem Heat.mem_expiries {h before : Heat} {r : Record} {n : Sock} {e : Expiry} (he : e ∈ h.expiries before r n) :
    e ∈ [.runaway n, .excursion n, .thermallySettled n, .notSettled n] := by
  simp only [Heat.expiries, List.mem_append, List.mem_ite_nil_right, List.mem_singleton] at he
  rcases he with ((⟨-, rfl⟩ | ⟨-, rfl⟩) | ⟨-, rfl⟩) | ⟨-, rfl⟩ <;> simp

theorem Socket.mem_limitReports {k : Socket} {n : Sock} {r : Report} (hr : r ∈ k.limitReports n) : r.socket = n := by
  simp only [Socket.limitReports, List.mem_append, List.mem_ite_nil_right, List.mem_singleton] at hr
  rcases hr with ⟨-, rfl⟩ | ⟨-, rfl⟩ <;> rfl

theorem EdgeSelection.matchesEdge_eq (e : EdgeSelection) (entering : Bool) :
    e.matchesEdge entering = if entering then e == .enter || e == .both else e == .leave || e == .both := by
  cases e <;> cases entering <;> rfl

/-- A window edge (R73). -/
theorem Heat.edge_eq (h before : Heat) (st : SocketState) :
    h.edge before st = (st.powered && before.heatedBefore &&
      ((h.inWindow && !before.inWindow && (h.profile.edge == .enter || h.profile.edge == .both)) ||
        (!h.inWindow && before.inWindow && (h.profile.edge == .leave || h.profile.edge == .both)))) := by
  rw [Heat.edge, EdgeSelection.matchesEdge_eq]
  cases h.inWindow <;> cases before.inWindow <;> simp

theorem exec_thermalTick {s : State} (due : s.due = []) (running : s.phase = .running) (readings : Vector Int 16) :
    exec (.thermalTick readings) s = .next (s.thermalTick readings) := by
  have exec_eq : exec (.thermalTick readings) s = execThermalTick readings s := rfl
  rw [exec_eq, execThermalTick, s.settled_of_none due, if_pos running]

theorem State.thermalTick_monitored (s : State) (readings : Vector Int 16) (n : Sock) :
    (s.monitored readings).socket n = (s.thermalTick readings).socket n := by
  rw [State.monitored_socket, State.thermalTick_socket]

/-- What a thermal tick makes due, in its order (R74). -/
theorem State.thermalTick_due {s : State} (due : s.due = []) (readings : Vector Int 16) :
    (s.thermalTick readings).due =
      (allSocks.map fun n => ((s.thermalTick readings).socket n).heat.expiries (s.socket n).heat
        ((s.thermalTick readings).socket n).scu n).flatten := by
  have monitored : (s.monitored readings).due = [] := by
    rw [State.monitored, State.mapSockets_due, State.scale_due, State.demanded, State.mapSockets_due, due]
  have own : ∀ n, (s.monitored readings).tickExpiries s.sockets n =
      ((s.thermalTick readings).socket n).heat.expiries (s.socket n).heat ((s.thermalTick readings).socket n).scu n := fun n => by
    rw [State.tickExpiries, State.thermalTick_monitored]; rfl
  have after := State.thermalReports_due s.sockets (s.monitored readings)
  rw [← State.thermalTick_eq, monitored, List.nil_append, funext own] at after
  exact after

/-- The reports that a thermal tick sends (R58, R60, R74). -/
theorem State.thermalTick_reports (s : State) (readings : Vector Int 16) :
    (s.thermalTick readings).reports =
      s.reports ++ (allSocks.map fun n => ((s.thermalTick readings).socket n).limitReports n).flatten := by
  have monitored : (s.monitored readings).reports = s.reports := by
    have scaled : ∀ u : State, u.scale.reports = u.reports := fun u => by rw [State.scale_eq]; split <;> rfl
    rw [State.monitored, State.mapSockets_reports, scaled]
    rfl
  have own : (fun n => ((s.monitored readings).socket n).limitReports n) =
      fun n => ((s.thermalTick readings).socket n).limitReports n := funext fun n => by rw [State.thermalTick_monitored]
  have after := State.thermalReports_reports s.sockets (s.monitored readings)
  rw [← State.thermalTick_eq, monitored, own] at after
  exact after

/-- The flags after a thermal tick (R68, R73, R157). -/
theorem State.thermalTick_flag (s : State) (readings : Vector Int 16) :
    ((s.thermalTick readings).flag .windowEdge).isSet =
      ((s.flag .windowEdge).isSet || allSocks.any fun n => (s.thermalTick readings).edgeAt s.sockets n) ∧
    (∀ m, SocketSet.has ((s.thermalTick readings).flag .windowEdge).sockets m =
      (SocketSet.has (s.flag .windowEdge).sockets m || (s.thermalTick readings).edgeAt s.sockets m)) ∧
    ∀ e, e ≠ .windowEdge → (s.thermalTick readings).flag e = (s.monitored readings).flag e := by
  have edges : (s.monitored readings).edgeAt s.sockets = (s.thermalTick readings).edgeAt s.sockets := funext fun n => by
    rw [State.edgeAt, State.edgeAt, State.thermalTick_monitored]
  have before : (s.monitored readings).flag .windowEdge = s.flag .windowEdge := by
    rw [State.monitored_flag, if_neg fun x => absurd x.2 (by decide)]
  obtain ⟨isSet, sockets, others⟩ := State.thermalReports_flag s.sockets allSocks (s.monitored readings)
  rw [← State.thermalTick_eq, edges, before] at isSet
  rw [← State.thermalTick_eq, before] at sockets
  refine ⟨isSet, fun m => ?_, others⟩
  rw [sockets, edges]
  refine congrArg _ ?_
  rw [Bool.eq_iff_iff, List.any_eq_true]
  simp [mem_allSocks]

/-- Settles O35. -/
theorem aThermalTickWatches : Obligations.AThermalTickWatches := by
  unfold Obligations.AThermalTickWatches
  refine ⟨fun n s free => ?_, fun n s waits => ?_, fun n s due reports => ?_, ?_, fun c r s row due => exec_report_others row due, ?_⟩
  · have now : s.fire (.notSettled n) = s.takeNotSettled n := by
      rw [State.fire, State.noticeNotSettled, State.oldest_eq_none free, if_neg (by decide)]
    refine ⟨_, now, ?_, rfl, fun m hm => ?_⟩
    · exact congrArg (·.scu.settledMark) ((s.modScu_socket n n _).trans (if_pos rfl))
    · exact (s.modScu_socket n m _).trans (if_neg hm)
  · have some : (s.oldest n .tru).isSome = true := by
      obtain ⟨r, hr, about, tru⟩ := waits
      rw [State.oldest, List.find?_isSome]
      exact ⟨r, hr, by simp [about, tru]⟩
    rw [State.fire, State.noticeNotSettled, if_pos some]
    rfl
  · have row : reportOfRow (.settledReportTaken n) = some ⟨n, .settled⟩ := rfl
    have alone := exec_tru row rfl (s := s.withReports [⟨n, .settled⟩]) due (before := []) (after := []) rfl nofun
    have taken : State.takeNotices n 1 (((s.withReports [⟨n, .settled⟩]).withReports []).taken n .settled) =
        (s.takeSettled n).withReports [] := by
      rw [State.takeNotices_none]
      · exact s.withReports_takeSettled n []
      · have sent : (((s.withReports [⟨n, .settled⟩]).withReports []).taken n .settled) = (s.takeSettled n).withReports [] :=
          s.withReports_takeSettled n []
        rw [sent]
        nofun
    have noticed := exec_noticed row rfl due (before := []) (between := []) (after := []) reports nofun
      (alone.trans (congrArg Host.Outcome.next taken))
    refine ⟨_, noticed, rfl, ?_⟩
    exact congrArg (·.scu.settledMark) ((State.modScu_socket _ n n _).trans (if_pos rfl))
  · intro c n kind s before between after u row tru due reports free alone
    refine ⟨_, exec_noticed row tru due reports free alone, rfl, fun m hm => ?_, ?_⟩
    · exact (u.modScu_socket n m _).trans (if_neg hm)
    · exact (u.modScu_socket n n _).trans (if_pos rfl)
  · intro readings s due running
    refine ⟨_, exec_thermalTick due running readings, ?_⟩
    obtain ⟨edgeSet, edgeSockets, flags⟩ := s.thermalTick_flag readings
    have limits := s.monitored_flag readings
    have limited : ∀ n, SocketSet.has (s.demanded readings).scaled.limitedSet n =
        ((s.thermalTick readings).socket n).heat.limited := fun n => by
      rw [State.scaled_limitedSet, State.thermalTick_socket, Socket.ticked_heat, State.scaled_socket, State.demanded_socket]; rfl
    have later := State.thermalTick_due due readings
    have sent := s.thermalTick_reports readings
    have socket := s.thermalTick_socket readings
    generalize s.thermalTick readings = t at *
    have profile : ∀ n, (t.socket n).heat.profile = (s.socket n).heat.profile := fun n => by
      rw [socket, Socket.ticked_profile]
    have state : ∀ n, (t.socket n).scu.state = (s.socket n).scu.state := fun n => by
      rw [socket]; exact ((s.socket n).ticked_scu _ _).1
    intro edge begins
    have edges : ∀ n, t.edgeAt s.sockets n = edge n := fun n => by
      rw [State.edgeAt, Heat.edge_eq, profile, state]
      rfl
    refine ⟨fun h => ?_, fun h => ?_, ?_, fun e heater window => ?_, fun e he => ?_, fun n => ?_⟩
    · rw [flags _ (by decide), limits, if_pos ⟨h, rfl⟩]
      exact ⟨rfl, fun n => by rw [SocketSet.has_or, limited]⟩
    · rw [flags _ (by decide), limits, if_neg fun x => h x.1]
    · rw [edgeSet, Bool.or_eq_true, List.any_eq_true]
      simp only [mem_allSocks, true_and, edges]
    · rw [flags e window, limits, if_neg fun x => heater x.2]
    · rw [later] at he
      obtain ⟨l, hl, he⟩ := List.mem_flatten.mp he
      obtain ⟨n, -, rfl⟩ := List.mem_map.mp hl
      exact ⟨n, Heat.mem_expiries he⟩
    · have inWindow := (s.socket n).ticked_inWindowCount (readings.get n) (s.tickDuty readings n)
      have outWindow := (s.socket n).ticked_outWindowCount (readings.get n) (s.tickDuty readings n)
      have runaway := (s.socket n).ticked_runaway (readings.get n) (s.tickDuty readings n)
      have noRunaway := (s.socket n).ticked_noRunaway (readings.get n) (s.tickDuty readings n)
      have account := (s.socket n).ticked_account (readings.get n) (s.tickDuty readings n)
      have scu := (s.socket n).ticked_scu (readings.get n) (s.tickDuty readings n)
      rw [← socket] at inWindow outWindow noRunaway account scu
      simp only [← socket] at runaway
      obtain ⟨-, mark, throughout, limitedRead, heated⟩ := scu
      have sentOwn : (t.reports.filter fun r => r.socket == n) =
          (s.reports.filter fun r => r.socket == n) ++ (t.socket n).limitReports n := by
        rw [sent, List.filter_append, filter_flatten_own (fun n => (t.socket n).limitReports n) _ n (fun r hr => by simp [Socket.mem_limitReports hr])
          (fun m hm r hr => by simp [Socket.mem_limitReports hr, hm]) _ allSocks_nodup, if_pos (mem_allSocks n)]
      have dueOwn : (t.due.filter fun e => e ∈ [.runaway n, .excursion n, .thermallySettled n, .notSettled n]) =
          (t.socket n).heat.expiries (s.socket n).heat (t.socket n).scu n := by
        rw [later, filter_flatten_own (fun n => (t.socket n).heat.expiries (s.socket n).heat (t.socket n).scu n) _ n (fun e he => decide_eq_true (Heat.mem_expiries he))
          (fun m hm e he => by
            have own := Heat.mem_expiries he
            simp only [List.mem_cons, List.not_mem_nil, or_false] at own
            rcases own with rfl | rfl | rfl | rfl <;> simp [hm]) _ allSocks_nodup, if_pos (mem_allSocks n)]
      rw [Heat.expiries, state, mark, profile] at dueOwn
      rw [Socket.limitReports, Heat.overTemp, state, profile, ← List.append_assoc] at sentOwn
      exact ⟨inWindow, outWindow, runaway, noRunaway, dueOwn, sentOwn, mark, account.1, account.2, throughout, limitedRead, heated,
        by rw [edgeSockets, edges]⟩

end Sys2Proof.Machine
end

section
/-!
PROOFS. What a command leaves alone (R22, R26, R28, R30, R54, R65, R83, R86, R93, R108, R120, R146, R147, R149, R150, R154, R161,
R170): an event every setting, a request every setting but its own.
-/

namespace Sys2Proof.Machine

/-! ### Events -/

theorem State.SettingsKept.store (s : State) (m : Store) : s.SettingsKept { s with store := m } :=
  ⟨rfl, rfl, rfl, rfl, rfl, rfl, rfl, rfl, rfl, rfl, rfl, fun f => by cases f <;> rfl, fun _ => rfl, fun _ => .refl _⟩

/-- A tick, a vector period, an upset, an expiry or a report taken changes no setting. -/
theorem exec_event {c : Instr} {s t : State} (event : Instr.isEvent c = true) (h : exec c s = .next t) : s.SettingsKept t := by
  have settled := State.SettingsKept.settled s
  cases he : expiryOfRow c with
  | some e => rcases exec_expiry he s with h' | h' <;> (rw [h'] at h; cases h; exact .occur s _)
  | none =>
  cases hr : reportOfRow c with
  | some r =>
    rw [exec_report (n := r.socket) (kind := r.kind) hr] at h
    cases h
    exact (State.SettingsKept.beforeReport s).trans (State.Steady.takeReport _ _ _).toSettingsKept
  | none =>
  cases c <;> simp only [Instr.isEvent, expiryOfRow, reportOfRow, Option.isSome_none, Bool.false_eq_true, reduceCtorEq] at event he hr <;>
    simp only [exec, execSampleTick, execThermalTick, execSecondTick, execStoreUpset, execVectorStep, Host.Outcome.next.injEq] at h <;>
    subst h
  case sampleTick => split; exacts [settled, settled.trans (State.Steady.sampleTick _ _).toSettingsKept]
  case thermalTick => split; exacts [settled.trans (State.Steady.thermalTick _ _).toSettingsKept, settled]
  case secondTick => split; exacts [settled, settled.trans (State.Steady.secondTick _).toSettingsKept]
  case storeUpset => exact settled.trans (.store _ _)
  case vectorStep => split; exacts [settled.trans (State.Steady.vectorStep _ _ _).toSettingsKept, settled]

/-! ### What a request of a kind leaves alone -/

/-- What a request with this kind code leaves of a socket. -/
structure Socket.Requested (code : Byte) (k k' : Socket) : Prop where
  sensedMv : k'.rail.sensedMv = k.rail.sensedMv
  sensedMa : k'.rail.sensedMa = k.rail.sensedMa
  offset : k'.rail.offset = k.rail.offset
  temperature : k'.heat.held = k.heat.held
  account : code ≠ 0x16#8 → code ≠ 0x17#8 → k'.credit.credit = k.credit.credit ∧ k'.credit.residue = k.credit.residue ∧
    k'.account.firstCause = k.account.firstCause ∧ k'.account.runSeconds = k.account.runSeconds ∧
    k'.lane.comparedPasses = k.lane.comparedPasses
  railProfile : code ≠ 0x20#8 → k'.rail.profile = k.rail.profile
  heatProfile : code ≠ 0x28#8 → k'.heat.profile = k.heat.profile
  testProfile : code ≠ 0x3B#8 → k'.lane.profile = k.lane.profile ∧ k'.credit.target = k.credit.target

theorem Socket.Requested.trans {code : Byte} {k k' k'' : Socket} (h : k.Requested code k') (h' : k'.Requested code k'') :
    k.Requested code k'' where
  sensedMv := h'.sensedMv.trans h.sensedMv
  sensedMa := h'.sensedMa.trans h.sensedMa
  offset := h'.offset.trans h.offset
  temperature := h'.temperature.trans h.temperature
  account one all := by
    obtain ⟨credit, residue, cause, seconds, passes⟩ := h.account one all
    obtain ⟨credit', residue', cause', seconds', passes'⟩ := h'.account one all
    exact ⟨credit'.trans credit, residue'.trans residue, cause'.trans cause, seconds'.trans seconds, passes'.trans passes⟩
  railProfile other := (h'.railProfile other).trans (h.railProfile other)
  heatProfile other := (h'.heatProfile other).trans (h.heatProfile other)
  testProfile other :=
    ⟨(h'.testProfile other).1.trans (h.testProfile other).1, (h'.testProfile other).2.trans (h.testProfile other).2⟩

theorem Socket.Handled.requested {k k' : Socket} (h : k.Handled k') (code : Byte) : k.Requested code k' :=
  ⟨h.sensedMv, h.sensedMa, h.offset, h.temperature,
    fun _ _ => ⟨congrArg Credit.credit h.credit, congrArg Credit.residue h.credit, h.firstCause, h.runSeconds, h.compared⟩,
    fun _ => h.railProfile, fun _ => h.heatProfile, fun _ => ⟨h.laneProfile, congrArg Credit.target h.credit⟩⟩

theorem Socket.Requested.refl (code : Byte) (k : Socket) : k.Requested code k := (Socket.Handled.refl k).requested code

/-- What a request with this kind code leaves of the machine. -/
structure State.Requested (code : Byte) (s t : State) : Prop where
  clock : t.clock = s.clock
  identity : t.identity = s.identity
  phase : t.phase = s.phase
  due : t.due = s.due
  pending : t.pending = s.pending
  address : t.link.address = s.link.address
  groups : code ≠ 0x03#8 → t.link.groups = s.link.groups
  silenceParam : code ≠ 0x04#8 → t.link.silenceParam = s.link.silenceParam
  enabled : code ≠ 0x0A#8 → ∀ e, (t.flag e).enabled = (s.flag e).enabled
  ceiling : code ≠ 0x21#8 → t.ceiling = s.ceiling
  limit : code ≠ 0x22#8 → ∀ f, (t.feed f).limit = (s.feed f).limit
  budget : code ≠ 0x29#8 → t.budget = s.budget
  content : code ≠ 0x30#8 → t.store.mem = s.store.mem ∧ t.store.checks = s.store.checks
  store : code ≠ 0x30#8 → code ≠ 0x32#8 → t.store = s.store
  table : code ≠ 0x34#8 → t.engine.table = s.engine.table
  factors : code ≠ 0x40#8 → t.factors = s.factors
  log : code ≠ 0x17#8 → code ≠ 0x4A#8 → code ≠ 0x4B#8 → t.log = s.log
  sockets : ∀ n, (s.socket n).Requested code (t.socket n)

theorem State.Handled.requested {s t : State} (h : s.Handled t) {code : Byte} (store : code ≠ 0x32#8 → t.store = s.store) :
    s.Requested code t :=
  ⟨h.clock, h.identity, h.phase, h.due, h.pending, by rw [h.link], fun _ => by rw [h.link], fun _ => by rw [h.link],
    fun _ => h.enabled, fun _ => h.ceiling, fun _ => h.limit, fun _ => h.budget, fun _ => ⟨h.mem, h.checks⟩, fun _ => store,
    fun _ => h.table, fun _ => h.factors, fun _ _ _ => h.log, fun n => (h.sockets n).requested code⟩

theorem State.Requested.refl (code : Byte) (s : State) : s.Requested code s := (State.Handled.refl s).requested fun _ => rfl

theorem State.Requested.trans {code : Byte} {s t u : State} (h : s.Requested code t) (h' : t.Requested code u) :
    s.Requested code u where
  clock := h'.clock.trans h.clock
  identity := h'.identity.trans h.identity
  phase := h'.phase.trans h.phase
  due := h'.due.trans h.due
  pending := h'.pending.trans h.pending
  address := h'.address.trans h.address
  groups other := (h'.groups other).trans (h.groups other)
  silenceParam other := (h'.silenceParam other).trans (h.silenceParam other)
  enabled other e := (h'.enabled other e).trans (h.enabled other e)
  ceiling other := (h'.ceiling other).trans (h.ceiling other)
  limit other f := (h'.limit other f).trans (h.limit other f)
  budget other := (h'.budget other).trans (h.budget other)
  content other := ⟨(h'.content other).1.trans (h.content other).1, (h'.content other).2.trans (h.content other).2⟩
  store load verify := (h'.store load verify).trans (h.store load verify)
  table other := (h'.table other).trans (h.table other)
  factors other := (h'.factors other).trans (h.factors other)
  log clear trim threshold := (h'.log clear trim threshold).trans (h.log clear trim threshold)
  sockets n := (h.sockets n).trans (h'.sockets n)

/-- A change of one socket that a kind's own rule gives it. -/
theorem State.Requested.modSocket {code : Byte} (s : State) (n : Sock) {f : Socket → Socket}
    (h : (s.socket n).Requested code (f (s.socket n))) : s.Requested code (s.modSocket n f) := by
  refine ⟨rfl, rfl, rfl, rfl, rfl, rfl, fun _ => rfl, fun _ => rfl, fun _ _ => rfl, fun _ => rfl, fun _ f => by simp, fun _ => rfl,
    fun _ => ⟨rfl, rfl⟩, fun _ _ => rfl, fun _ => rfl, fun _ => rfl, fun _ _ _ => rfl, fun m => ?_⟩
  rw [State.modSocket_socket]
  split
  · rename_i e; subst e; exact h
  · exact .refl code _

/-- A change of the link's counts, mode, receiver and reply alone. -/
theorem State.Requested.link (code : Byte) (s : State) {l : Link} (address : l.address = s.link.address)
    (groups : code ≠ 0x03#8 → l.groups = s.link.groups) (silenceParam : code ≠ 0x04#8 → l.silenceParam = s.link.silenceParam) :
    s.Requested code { s with link := l } :=
  ⟨rfl, rfl, rfl, rfl, rfl, address, groups, silenceParam, fun _ _ => rfl, fun _ => rfl, fun _ f => by cases f <;> rfl,
    fun _ => rfl, fun _ => ⟨rfl, rfl⟩, fun _ _ => rfl, fun _ => rfl, fun _ => rfl, fun _ _ _ => rfl, fun _ => .refl code _⟩

theorem State.Requested.events {code : Byte} (s : State) {v : Vector FlagState 12}
    (enabled : code ≠ 0x0A#8 → ∀ i, (v.get i).enabled = (s.events.get i).enabled) : s.Requested code { s with events := v } :=
  ⟨rfl, rfl, rfl, rfl, rfl, rfl, fun _ => rfl, fun _ => rfl, fun other e => enabled other e.index, fun _ => rfl,
    fun _ f => by cases f <;> rfl, fun _ => rfl, fun _ => ⟨rfl, rfl⟩, fun _ _ => rfl, fun _ => rfl, fun _ => rfl,
    fun _ _ _ => rfl, fun _ => .refl code _⟩

theorem State.Requested.loaded (s : State) (m : Store) : s.Requested 0x30#8 { s with store := m } :=
  ⟨rfl, rfl, rfl, rfl, rfl, rfl, fun _ => rfl, fun _ => rfl, fun _ _ => rfl, fun _ => rfl, fun _ f => by cases f <;> rfl,
    fun _ => rfl, fun other => absurd rfl other, fun other => absurd rfl other, fun _ => rfl, fun _ => rfl, fun _ _ _ => rfl,
    fun _ => .refl _ _⟩

theorem State.Requested.engine {code : Byte} (s : State) {g : Engine} (table : code ≠ 0x34#8 → g.table = s.engine.table) :
    s.Requested code { s with engine := g } :=
  ⟨rfl, rfl, rfl, rfl, rfl, rfl, fun _ => rfl, fun _ => rfl, fun _ _ => rfl, fun _ => rfl, fun _ f => by cases f <;> rfl,
    fun _ => rfl, fun _ => ⟨rfl, rfl⟩, fun _ _ => rfl, table, fun _ => rfl, fun _ _ _ => rfl, fun _ => .refl _ _⟩

theorem State.Requested.factorTables (s : State) (f : Factors) : s.Requested 0x40#8 { s with factors := f } :=
  ⟨rfl, rfl, rfl, rfl, rfl, rfl, fun _ => rfl, fun _ => rfl, fun _ _ => rfl, fun _ => rfl, fun _ f => by cases f <;> rfl,
    fun _ => rfl, fun _ => ⟨rfl, rfl⟩, fun _ _ => rfl, fun _ => rfl, fun other => absurd rfl other, fun _ _ _ => rfl,
    fun _ => .refl _ _⟩

theorem State.Requested.failLog {code : Byte} (s : State) {l : FailLog}
    (log : code ≠ 0x17#8 → code ≠ 0x4A#8 → code ≠ 0x4B#8 → l = s.log) : s.Requested code { s with log := l } :=
  ⟨rfl, rfl, rfl, rfl, rfl, rfl, fun _ => rfl, fun _ => rfl, fun _ _ => rfl, fun _ => rfl, fun _ f => by cases f <;> rfl,
    fun _ => rfl, fun _ => ⟨rfl, rfl⟩, fun _ _ => rfl, fun _ => rfl, fun _ => rfl, log, fun _ => .refl _ _⟩

theorem State.Requested.heaterBudget (s : State) (b : Nat) : s.Requested 0x29#8 { s with budget := b } :=
  ⟨rfl, rfl, rfl, rfl, rfl, rfl, fun _ => rfl, fun _ => rfl, fun _ _ => rfl, fun _ => rfl, fun _ f => by cases f <;> rfl,
    fun other => absurd rfl other, fun _ => ⟨rfl, rfl⟩, fun _ _ => rfl, fun _ => rfl, fun _ => rfl, fun _ _ _ => rfl,
    fun _ => .refl _ _⟩

theorem State.Requested.boardCeiling (s : State) (mv : Nat) : s.Requested 0x21#8 { s with ceiling := mv } :=
  ⟨rfl, rfl, rfl, rfl, rfl, rfl, fun _ => rfl, fun _ => rfl, fun _ _ => rfl, fun other => absurd rfl other,
    fun _ f => by cases f <;> rfl, fun _ => rfl, fun _ => ⟨rfl, rfl⟩, fun _ _ => rfl, fun _ => rfl, fun _ => rfl, fun _ _ _ => rfl,
    fun _ => .refl _ _⟩

/-! ### The owners -/

/-- A request by sets whose action keeps the settings and the store. -/
theorem State.Requested.forSet (code : Byte) (s : State) (x : SocketSet) (judge : State → Sock → Option Status)
    (act : State → Sock → State) (h : ∀ t n, State.Handled t (act t n)) (store : ∀ t n, (act t n).store = t.store) :
    s.Requested code (s.forSet x judge act).1 :=
  s.forSet_keeps (s.Requested code) x judge act (fun t n ht _ => ht.trans ((h t n).requested fun _ => store t n)) (.refl code s)

theorem State.arm_store (s : State) (n : Sock) : (s.arm n).store = s.store := by simp [State.arm]

theorem State.powerDown_store (s : State) (n : Sock) : (s.powerDown n).store = s.store := by
  unfold State.powerDown
  split_ifs <;> simp

theorem State.Handled.scale (s : State) : s.Handled s.scale := by
  have scaled : s.Handled s.scaled := by
    unfold State.scaled
    generalize scaleDuties s.budget s.demands = duties
    exact .mapSockets s
  rw [State.scale_eq]
  split
  · exact scaled.trans (.raise _ _ _)
  · exact scaled

theorem State.scale_store (s : State) : s.scale.store = s.store := by
  rw [State.scale_eq]
  split <;> rfl

theorem State.Handled.retarget (s : State) (n : Sock) : s.Handled (s.retarget n) := by
  have moved : ∀ f : Rail → Rail, (∀ r, (f r).profile = r.profile ∧ (f r).written = r.written ∧ (f r).sensedMv = r.sensedMv ∧
      (f r).sensedMa = r.sensedMa ∧ (f r).offset = r.offset) → s.Handled (s.modRail n f) := fun f kept =>
    .modSocket s n fun k => by
      obtain ⟨profile, written, mv, ma, offset⟩ := kept k.rail
      exact ⟨profile, written, mv, ma, offset, rfl, rfl, rfl, rfl, rfl, rfl, rfl, rfl, rfl, rfl, rfl, rfl⟩
  unfold State.retarget
  split
  · exact moved _ fun r => by split <;> exact ⟨rfl, rfl, rfl, rfl, rfl⟩
  · exact .refl s

theorem State.Requested.setFeedLimit (s : State) (f : FeedId) (limit : Nat) :
    s.Requested 0x22#8 (s.setFeedLimit f limit).1 := by
  refine State.setFeedLimit_holds f limit (.refl _ s)
    (fun t n ht => ht.trans ((State.Handled.shedNow t n).requested fun _ => by simp [State.shedNow_frame]))
    (fun t n ht => ht.trans ?_) (fun t ht => ht.trans ?_)
    fun t ht => ht.trans ((State.Handled.evaluate t f).requested fun _ => by simp)
  · unfold State.withdraw
    split
    · exact (State.Handled.move t n (by simp)).requested fun _ => by simp
    · exact .refl _ t
  · refine ⟨by simp, by simp, by simp, by simp, by simp, by simp, fun _ => by simp, fun _ => by simp, fun _ e => ?_, fun _ => by simp,
      fun other => absurd rfl other, fun _ => by simp, fun _ => by simp, fun _ _ => by simp, fun _ => by simp, fun _ => by simp,
      fun _ _ _ => by simp, fun n => by simp only [State.modFeed_socket]; exact .refl _ _⟩
    rw [State.flag_congr (t := t) (by simp)]

theorem Socket.Requested.cleared (code : Byte) (k : Socket) (st : SocketState) (own : code = 0x16#8 ∨ code = 0x17#8) :
    k.Requested code (k.cleared st) :=
  ⟨rfl, rfl, rfl, rfl, fun one all => absurd own (not_or.mpr ⟨one, all⟩), fun _ => rfl, fun _ => rfl, fun _ => ⟨rfl, rfl⟩⟩

theorem State.Requested.clearAccounts (s : State) :
    s.Requested 0x17#8 { s.mapSockets (fun _ k => k.cleared k.scu.state.afterClear) with log := s.log.cleared } := by
  have cleared : s.Requested 0x17#8 (s.mapSockets fun _ k => k.cleared k.scu.state.afterClear) := by
    refine ⟨by simp, by simp, by simp, by simp, by simp, by simp, fun _ => by simp, fun _ => by simp, fun _ e => ?_, fun _ => by simp,
      fun _ f => by simp, fun _ => by simp, fun _ => by simp, fun _ _ => by simp, fun _ => by simp, fun _ => by simp,
      fun _ _ _ => by simp, fun n => ?_⟩
    · rw [State.mapSockets_flag]
    · rw [State.mapSockets_socket]; exact .cleared _ _ _ (.inr rfl)
  exact cleared.trans (.failLog _ fun other => absurd rfl other)

theorem State.start_store (s : State) (e : EntryNo) : (s.start e).store = s.store := by
  have arrived : (s.arrive e).1.store = s.store := by
    unfold State.arrive
    dsimp only
    split_ifs <;> simp
  unfold State.start
  split <;> rename_i t ht <;> rw [ht] at arrived
  · simpa using arrived
  · exact arrived

theorem clearFlags_enabled (x : BitVec 16) (events : Vector FlagState 12) (i : Fin 12) :
    ((clearFlags x events).get i).enabled = (events.get i).enabled := by
  simp only [clearFlags, Vector.get_eq_getElem, Vector.getElem_ofFn]
  split <;> rfl

/-- The owner of a request changes no setting but those of its own rule. -/
theorem State.Answered.requested {s t : State} {code : Byte} (h : s.Answered code t) : s.Requested code t := by
  cases h with
  | same => exact .refl _ s
  | groups g => exact .link _ s rfl (fun other => absurd rfl other) fun _ => rfl
  | silenceParam b => exact .link _ s rfl (fun _ => rfl) fun other => absurd rfl other
  | acked x => exact .events s fun _ => clearFlags_enabled x s.events
  | enables x => exact .events s fun other => absurd rfl other
  | arm x => exact .forSet _ s x _ _ .arm State.arm_store
  | powerDown x => exact .forSet _ s x _ _ .powerDown State.powerDown_store
  | pause x => exact .forSet _ s x _ _ (fun t n => .move t n (by simp)) fun t n => by simp
  | resume x => exact .forSet _ s x _ _ (fun t n => .move t n (by simp)) fun t n => by simp
  | release x => exact .forSet _ s x _ _ (fun t n => .moveAdmit t n (by simp)) fun t n => by simp
  | statusRead n | calibration n =>
    exact .modSocket s n ⟨rfl, rfl, rfl, rfl, fun _ _ => ⟨rfl, rfl, rfl, rfl, rfl⟩, fun _ => rfl, fun _ => rfl,
      fun _ => ⟨rfl, rfl⟩⟩
  | accountCleared n => exact .modSocket s n (.cleared _ _ _ (.inl rfl))
  | accountsCleared => exact .clearAccounts s
  | railProfile n p =>
    exact .modSocket s n ⟨rfl, rfl, rfl, rfl, fun _ _ => ⟨rfl, rfl, rfl, rfl, rfl⟩, fun other => absurd rfl other, fun _ => rfl,
      fun _ => ⟨rfl, rfl⟩⟩
  | ceiling mv =>
    refine (State.Requested.boardCeiling s _).trans ((State.Handled.foldl _ .retarget _).requested fun _ => ?_)
    exact foldl_keeps State.store _ (fun t n => by unfold State.retarget; split <;> rfl) _ _
  | feedLimit f mv => exact .setFeedLimit s f _
  | thermalProfile n p =>
    exact .modSocket s n ⟨rfl, rfl, rfl, rfl, fun _ _ => ⟨rfl, rfl, rfl, rfl, rfl⟩, fun _ => rfl, fun other => absurd rfl other,
      fun _ => ⟨rfl, rfl⟩⟩
  | budget value =>
    exact (State.Requested.heaterBudget s _).trans ((State.Handled.scale _).requested fun _ => State.scale_store _)
  | loaded start vectors => exact .loaded s _
  | verified pages => exact (State.Handled.verify pages s).requested fun other => absurd rfl other
  | entry e entry => exact .engine s fun other => absurd rfl other
  | started e _ => exact (State.Handled.start s e).requested fun _ => s.start_store e
  | stopped => exact .engine s fun _ => by unfold Engine.stop; split <;> rfl
  | testProfile n p =>
    exact .modSocket s n ⟨rfl, rfl, rfl, rfl, fun _ _ => ⟨rfl, rfl, rfl, rfl, rfl⟩, fun _ => rfl, fun _ => rfl,
      fun other => absurd rfl other⟩
  | factors f => exact .factorTables s f
  | trimmed n => exact .failLog s fun _ other => absurd rfl other
  | threshold n => exact .failLog s fun _ _ other => absurd rfl other

/-! ### A request heard on an open link -/

theorem State.seen_eq (s : State) (c : Instr) : ∃ x, s.seen c = { s with presence := x } := by
  cases c
  case armSockets x => exact ⟨x, rfl⟩
  all_goals exact ⟨s.presence, rfl⟩

theorem State.Requested.seen (code : Byte) (s : State) (c : Instr) : s.Requested code (s.seen c) := by
  obtain ⟨x, e⟩ := s.seen_eq c
  rw [e]
  exact ⟨rfl, rfl, rfl, rfl, rfl, rfl, fun _ => rfl, fun _ => rfl, fun _ _ => rfl, fun _ => rfl, fun _ f => by cases f <;> rfl,
    fun _ => rfl, fun _ => ⟨rfl, rfl⟩, fun _ _ => rfl, fun _ => rfl, fun _ => rfl, fun _ _ _ => rfl, fun _ => .refl code _⟩

theorem State.Requested.withReply (code : Byte) (s : State) (r : ReplySlot) : s.Requested code (s.withReply r) :=
  .link code s rfl (fun _ => rfl) fun _ => rfl

theorem State.Requested.respond (code : Byte) (s : State) (kind : Byte) (r : Response) : s.Requested code (s.respond kind r) := by
  cases r <;> exact .withReply code s _

/-- Whatever a request row does on an open link, it changes no setting but those of its kind's own rule. -/
theorem exec_requested {c : Instr} {k : RequestKind} {dst : Byte} {p : List Byte} {s t : State}
    (row : requestOfRow c = some (k, dst, p)) (h : s.Hears dst) (ht : exec c s = .next t) : s.Requested k.code t := by
  have settled : s.settled = s := s.settled_of_none h.due
  have seen := State.Requested.seen k.code s c
  obtain ⟨⟨due, phase, receiver, reply⟩, address, notBroadcast⟩ := h.seen c
  have listening : (s.seen c).listening = true := by simp [State.listening, phase, reply]
  have abandoned : (s.seen c).abandonReply = s.seen c := by simp [State.abandonReply, reply]
  rw [exec_request row, settled, State.requestOf, State.request, receiver] at ht
  generalize s.seen c = u at *
  obtain rfl := Host.Outcome.next.inj ht
  have counted : ∀ f, u.Requested k.code (u.count f) := fun f => .link _ u rfl (fun _ => rfl) fun _ => rfl
  simp only [State.receiveRequest, listening, abandoned, phase, if_true]
  refine seen.trans ?_
  split
  · rw [State.takeFrame_individual _ _ _ _ _ (Link.addressing_own address notBroadcast)]
    have heard : u.Requested k.code (u.count LinkCounters.addGood).attend :=
      (counted _).trans (.link _ (u.count LinkCounters.addGood) rfl (fun _ => rfl) fun _ => rfl)
    refine heard.trans ?_
    unfold State.takeIndividual
    dsimp only
    split
    · exact ((carryOut_answered (requestOfRow_mem row) p _).requested).trans (.respond _ _ _ _)
    · exact .withReply _ _ _
  · exact counted _

/-- Settles O52. -/
theorem eachSettingHasItsOneCommand : Obligations.EachSettingHasItsOneCommand := by
  unfold Obligations.EachSettingHasItsOneCommand
  refine ⟨fun c s t event ht => ?_, fun c k dst p s t row h ht => ?_⟩
  · obtain ⟨identity, phase, ceiling, budget, factors, table, presence, address, groups, silenceParam, pending, limit, enabled,
      sockets⟩ := exec_event event ht
    refine ⟨identity, phase, ceiling, budget, factors, table, presence, address, groups, silenceParam, pending, limit, enabled,
      fun n => ?_⟩
    obtain ⟨rail, railWritten, heat, heatWritten, lane, laneWritten, target, -⟩ := sockets n
    exact ⟨rail, railWritten, heat, heatWritten, lane, laneWritten, target⟩
  · obtain ⟨clock, identity, phase, due, pending, address, groups, silenceParam, enabled, ceiling, limit, budget, content, store,
      table, factors, log, sockets⟩ := exec_requested row h ht
    refine ⟨clock, identity, phase, due.trans h.due, pending, address, groups, silenceParam, enabled, ceiling, limit, budget, content,
      store, table, factors, log, fun n => ?_⟩
    obtain ⟨mv, ma, offset, temperature, account, rail, heat, lane⟩ := sockets n
    exact ⟨mv, ma, offset, temperature, account, rail, heat, lane⟩

end Sys2Proof.Machine
end

section
/-!
PROOFS. A Board Reset (R182) and the end of an identity load (R178).
-/

namespace Sys2Proof.Machine

/-! ### A socket after a Board Reset (R1, R23, R53, R76, R117, R131, R151) -/

theorem SocketState.afterReset_eq (st : SocketState) :
    st.afterReset = (if st.busy = true ∧ st ≠ .hold then .off else if st = .hold then .safe else st) := by
  cases st <;> rfl

/-- What a Board Reset leaves of a socket, with or without retain. -/
theorem Socket.afterReset_scu (k : Socket) (retain : Bool) :
    (k.afterReset retain).scu = { state := k.scu.state.afterReset, firstFail := k.scu.firstFail } ∧
    (k.afterReset retain).credit.credit = k.credit.credit ∧ (k.afterReset retain).credit.residue = k.credit.residue ∧
    (k.afterReset retain).account =
      { k.account with
          mirror := (k.afterReset retain).scu.state,
          interrupts := if k.scu.state.busy then satInc 65535 k.account.interrupts else k.account.interrupts } :=
  ⟨rfl, rfl, rfl, rfl⟩

/-- With retain the profiles, marks and the target stand (R26, R54, R108, R131). -/
theorem Socket.afterReset_retain (k : Socket) :
    (k.afterReset true).rail.profile = k.rail.profile ∧ (k.afterReset true).rail.written = k.rail.written ∧
    (k.afterReset true).heat.profile = k.heat.profile ∧ (k.afterReset true).heat.written = k.heat.written ∧
    (k.afterReset true).lane.profile = k.lane.profile ∧ (k.afterReset true).lane.written = k.lane.written ∧
    (k.afterReset true).credit.target = k.credit.target := ⟨rfl, rfl, rfl, rfl, rfl, rfl, rfl⟩

/-- Without retain they are as after power-on. -/
theorem Socket.afterReset_fresh (k : Socket) :
    (k.afterReset false).rail.profile = {} ∧ (k.afterReset false).rail.written = false ∧
    (k.afterReset false).heat.profile = {} ∧ (k.afterReset false).heat.written = false ∧
    (k.afterReset false).lane.profile = {} ∧ (k.afterReset false).lane.written = false ∧
    (k.afterReset false).credit.target = 0 := ⟨rfl, rfl, rfl, rfl, rfl, rfl, rfl⟩

/-! ### The board after a Board Reset (R96, R131, R151, R159, R164, R170, R175) -/

theorem flagsAfterReset_get (events : Vector FlagState 12) (i : Fin 12) :
    (flagsAfterReset events).get i = { events.get i with isSet := false, sockets := 0#16 } := by
  simp [flagsAfterReset, Vector.get_eq_getElem]

theorem replicate_get {α : Type} {n : Nat} (a : α) (i : Fin n) : (Vector.replicate n a).get i = a := by
  simp [Vector.get_eq_getElem]

theorem Factors.afterReset_slots (f : Factors) (retain : Bool) (i : Fin 16) : (f.afterReset retain).slots.get i = none := by
  cases retain <;> exact replicate_get _ i

theorem FailLog.afterReset_eq (l : FailLog) (retain : Bool) :
    l.afterReset retain =
      { l with
          threshold := if retain then l.threshold else 96,
          thresholdArmed := if retain then l.thresholdArmed else decide (l.records.length < 96) } := by
  cases retain <;> rfl

theorem exec_replySent {s : State} (due : s.due = []) {bytes : List Byte} {retain : Bool}
    (sending : s.link.reply = .sending bytes (some retain)) :
    exec .replySent s = .next (((s.withReply .idle).count LinkCounters.addReply).boardReset retain) := by
  have exec_eq : exec .replySent s = execReplySent s := rfl
  rw [exec_eq, execReplySent, s.settled_of_none due, sending]

/-- The engine, the store and the link after a Board Reset, with and without retain. -/
theorem State.boardReset_parts (u : State) (retain : Bool) :
    (u.boardReset retain).engine = u.engine.afterReset retain ∧ (u.boardReset retain).store = u.store.afterReset retain ∧
    (u.boardReset retain).factors = u.factors.afterReset retain ∧ (u.boardReset retain).link = u.link.afterReset retain ∧
    (u.boardReset retain).log = u.log.afterReset retain ∧ (u.boardReset retain).events = flagsAfterReset u.events ∧
    (u.boardReset retain).budget = (if retain then u.budget else 0) ∧ (u.boardReset retain).ceiling = u.ceiling ∧
    (u.boardReset retain).phase = .reloading retain ∧ (u.boardReset retain).reports = u.reports ∧
    (u.boardReset retain).clock = u.clock ∧ (u.boardReset retain).identity = u.identity := by
  simp [State.boardReset]

theorem Engine.afterReset_idle (g : Engine) (retain : Bool) :
    (g.afterReset retain).current = none ∧ (g.afterReset retain).repeatsLeft = 0 ∧ (g.afterReset retain).participants = 0#16 ∧
    (g.afterReset retain).powered = 0#16 ∧ (g.afterReset retain).stimulus = 0#16 ∧ (g.afterReset retain).state = .idle ∧
    (g.afterReset retain).rate = .r4 ∧ (g.afterReset retain).loopIndex = 0 ∧
    (g.afterReset retain).lastStop = (if g.state = .idle then g.lastStop else .reset) :=
  ⟨rfl, rfl, rfl, rfl, rfl, rfl, rfl, rfl, rfl⟩

theorem Store.afterReset_scrub (t : Store) (retain : Bool) :
    (t.afterReset retain).scrub = 0 ∧ (t.afterReset retain).lastScrubbed = none := by
  cases retain <;> exact ⟨rfl, rfl⟩

/-- The rail of a socket after a Board Reset (R53). -/
theorem Socket.afterReset_rail (k : Socket) (retain : Bool) :
    (k.afterReset retain).rail.output = 0 ∧ (k.afterReset retain).rail.commanded = 0 ∧
    (k.afterReset retain).rail.motion = .still ∧ (k.afterReset retain).rail.qualified = false ∧
    (k.afterReset retain).rail.qualCount = 0 ∧ (k.afterReset retain).rail.unregCount = 0 ∧
    (k.afterReset retain).rail.tripFilter = 0 ∧ (k.afterReset retain).rail.contactCount = 0 ∧
    (k.afterReset retain).rail.calibration = none ∧ (k.afterReset retain).rail.offset = k.rail.offset ∧
    (k.afterReset retain).rail.faulted = k.rail.faulted := ⟨rfl, rfl, rfl, rfl, rfl, rfl, rfl, rfl, rfl, rfl, rfl⟩

/-- The TRU and CMP parts of a socket after a Board Reset (R76, R117). -/
theorem Socket.afterReset_heat (k : Socket) (retain : Bool) :
    (k.afterReset retain).heat.duty = 0 ∧ (k.afterReset retain).heat.held = none ∧
    (k.afterReset retain).heat =
      { profile := (k.afterReset retain).heat.profile, written := (k.afterReset retain).heat.written } ∧
    (k.afterReset retain).lane.captures = k.lane.captures ∧ (k.afterReset retain).lane.totalFailing = k.lane.totalFailing ∧
    (k.afterReset retain).lane.truncated = k.lane.truncated ∧
    (k.afterReset retain).lane.comparedPasses = k.lane.comparedPasses ∧
    (k.afterReset retain).lane.consecutiveFailing = k.lane.consecutiveFailing := ⟨rfl, rfl, rfl, rfl, rfl, rfl, rfl, rfl⟩

/-- Settles O53. -/
theorem aBoardResetActs : Obligations.ABoardResetActs := by
  unfold Obligations.ABoardResetActs
  intro bytes retain s due sending
  refine ⟨_, exec_replySent due sending, ?_⟩
  set u := (s.withReply .idle).count LinkCounters.addReply with hu
  have sockets : ∀ n, u.socket n = s.socket n := fun n => State.socket_congr rfl n
  have feeds : ∀ f, u.feed f = s.feed f := fun f => by cases f <;> rfl
  have beforeReset : u.reports = s.reports ∧ u.clock = s.clock ∧ u.link.address = s.link.address ∧ u.identity = s.identity ∧
      u.log = s.log ∧ u.engine = s.engine ∧ u.events = s.events ∧ u.factors = s.factors ∧ u.link.groups = s.link.groups ∧
      u.link.silenceParam = s.link.silenceParam ∧ u.budget = s.budget ∧ u.ceiling = s.ceiling ∧ u.store = s.store :=
    ⟨rfl, rfl, rfl, rfl, rfl, rfl, rfl, rfl, rfl, rfl, rfl, rfl, rfl⟩
  obtain ⟨reports, clock, address, identity, log, engine, events, factors, groups, silenceParam, budget, ceiling, store⟩ := beforeReset
  clear_value u
  obtain ⟨tEngine, tStore, tFactors, tLink, tLog, tEvents, tBudget, tCeiling, tPhase, tReports, tClock, tIdentity⟩ :=
    u.boardReset_parts retain
  have socket := u.boardReset_socket retain
  have feed := u.boardReset_feed retain
  generalize u.boardReset retain = t at *
  obtain ⟨current, repeatsLeft, participants, powered, stimulus, state, rate, loopIndex, lastStop⟩ := s.engine.afterReset_idle retain
  rw [engine] at tEngine
  rw [store] at tStore
  have scrub := s.store.afterReset_scrub retain
  refine ⟨tPhase, tReports.trans reports, tClock.trans clock, by rw [tLink]; rfl, by rw [tLink]; rfl, by rw [tLink]; rfl,
    by rw [tLink]; rfl, by rw [tLink, ← address]; rfl, tIdentity.trans identity, by rw [tLog, log]; exact FailLog.afterReset_eq _ _,
    by rw [tEngine, current], by rw [tEngine, repeatsLeft], by rw [tEngine, participants], by rw [tEngine, powered],
    by rw [tEngine, stimulus], by rw [tEngine, state], by rw [tEngine, rate], by rw [tEngine, loopIndex], by rw [tEngine, lastStop],
    by rw [tStore, scrub.1], by rw [tStore, scrub.2], fun i => by rw [tFactors]; exact Factors.afterReset_slots _ _ i, fun f => ?_,
    fun e => ?_, fun kept => ?_, fun fresh => ?_, fun n => ?_⟩
  · rw [feed]; exact ⟨rfl, rfl, rfl⟩
  · have flag : t.flag e = { s.flag e with isSet := false, sockets := 0#16 } := by
      rw [State.flag, tEvents, events]; exact flagsAfterReset_get _ _
    rw [flag]; exact ⟨rfl, rfl, rfl⟩
  · subst kept
    refine ⟨by rw [tEngine]; rfl, by rw [tFactors, factors]; rfl, by rw [tLink, ← groups]; rfl, by rw [tLink, ← silenceParam]; rfl,
      by rw [tBudget, budget, if_pos rfl], tCeiling.trans ceiling, fun f => by rw [feed, feeds]; rfl, ?_⟩
    rw [tStore]; exact ⟨rfl, rfl, rfl⟩
  · subst fresh
    refine ⟨fun e => by rw [tEngine]; exact replicate_get _ e, by rw [tFactors]; rfl, fun i => by rw [tLink]; exact replicate_get _ i,
      by rw [tLink]; rfl, by rw [tBudget, if_neg (by decide)], fun p => by rw [tStore]; exact replicate_get _ p⟩
  · rw [socket, sockets]
    generalize s.socket n = k
    obtain ⟨scu, credit, residue, account⟩ := k.afterReset_scu retain
    obtain ⟨output, commanded, motion, qualified, qualCount, unregCount, tripFilter, contactCount, calibration, offset, faulted⟩ :=
      k.afterReset_rail retain
    obtain ⟨duty, held, heat, captures, total, truncated, compared, consecutive⟩ := k.afterReset_heat retain
    refine ⟨by rw [scu]; exact k.scu.state.afterReset_eq, by rw [scu], by rw [scu], by rw [scu], by rw [scu], by rw [scu], by rw [scu],
      by rw [scu], by rw [scu], by rw [scu], credit, residue, account, output, commanded, motion, qualified, qualCount, unregCount,
      tripFilter, contactCount, calibration, offset, faulted, duty, held, heat, captures, total, truncated, compared, consecutive,
      fun kept => ?_, fun fresh => ?_⟩
    · subst kept; exact k.afterReset_retain
    · subst fresh; exact k.afterReset_fresh

/-! ### The identity (R27, R177, R178) -/

/-- A block passes with 64 bytes, its check right and its format known (R178; log entry 29). -/
def LoadAttempt.GoodBlock (b : List Byte) : Prop := b.length = 64 ∧ crc16 (b.take 62) = set16 b 62 ∧ byteAt b 0 = 0x01#8

theorem LoadAttempt.passes_iff (b : List Byte) : LoadAttempt.passes (.block b) = true ↔ LoadAttempt.GoodBlock b := by
  simp [LoadAttempt.passes, LoadAttempt.GoodBlock, and_assoc]

theorem LoadAttempt.passes_false {a : LoadAttempt} (fails : ∀ b, a = .block b → ¬LoadAttempt.GoodBlock b) : LoadAttempt.passes a = false := by
  cases a with
  | noAck => rfl
  | block b => exact Bool.eq_false_iff.mpr fun h => fails b rfl ((LoadAttempt.passes_iff b).mp h)

section
variable {first second third : LoadAttempt} {b : List Byte}

theorem loadIdentity_first (good : LoadAttempt.GoodBlock b) :
    loadIdentity (.block b) second third = { valid := true, image := b } := by
  rw [loadIdentity, List.find?_cons_of_pos ((LoadAttempt.passes_iff b).mpr good)]
  rfl

theorem loadIdentity_second (failed : LoadAttempt.passes first = false) (good : LoadAttempt.GoodBlock b) :
    loadIdentity first (.block b) third = { valid := true, image := b } := by
  rw [loadIdentity, List.find?_cons_of_neg (by simp [failed]), List.find?_cons_of_pos ((LoadAttempt.passes_iff b).mpr good)]
  rfl

theorem loadIdentity_third (failed : LoadAttempt.passes first = false) (failed' : LoadAttempt.passes second = false)
    (good : LoadAttempt.GoodBlock b) : loadIdentity first second (.block b) = { valid := true, image := b } := by
  rw [loadIdentity, List.find?_cons_of_neg (by simp [failed]), List.find?_cons_of_neg (by simp [failed']),
    List.find?_cons_of_pos ((LoadAttempt.passes_iff b).mpr good)]
  rfl

theorem loadIdentity_fault (failed : LoadAttempt.passes first = false) (failed' : LoadAttempt.passes second = false)
    (failed'' : LoadAttempt.passes third = false) :
    loadIdentity first second third = { valid := false, image := List.replicate 64 0#8 } := by
  rw [loadIdentity, List.find?_cons_of_neg (by simp [failed]), List.find?_cons_of_neg (by simp [failed']),
    List.find?_cons_of_neg (by simp [failed'']), List.find?_nil]

end

/-! ### The end of a load (R3, R28, R30, R65) -/

theorem State.ceilingAfterLoad_eq (s : State) (i : Identity) :
    s.ceilingAfterLoad i = if s.phase = .reloading true then min s.ceiling i.nativeCeiling else i.nativeCeiling := by
  unfold State.ceilingAfterLoad
  cases s.phase with
  | starting | running => simp
  | reloading retain => cases retain <;> simp

theorem State.limitAfterLoad_eq (s : State) (i : Identity) (f : FeedId) :
    s.limitAfterLoad i f = if s.phase = .reloading true then min (s.feed f).limit (i.nativeLimit f) else i.nativeLimit f := by
  unfold State.limitAfterLoad
  cases s.phase with
  | starting | running => simp
  | reloading retain => cases retain <;> simp

/-- A socket under a loaded population moves to ABSENT or, fitted anew, to OFF, or is as it was (R3). -/
theorem Socket.populate_cases (k : Socket) (fitted : Bool) :
    (k.populate fitted).scu.state = (if fitted = false then .absent else if k.scu.state = .absent then .off else k.scu.state) ∧
    (k.populate fitted = k ∨ ∃ st : SocketState, (st = .off ∨ st = .absent) ∧ st ≠ k.scu.state ∧ k.populate fitted = k.moved st) := by
  unfold Socket.populate
  cases fitted with
  | true =>
    by_cases absent : k.scu.state = .absent
    · simp only [if_true, if_pos absent, Bool.true_eq_false, if_false]
      exact ⟨rfl, .inr ⟨.off, .inl rfl, by rw [absent]; decide, rfl⟩⟩
    · simp only [if_true, if_neg absent, Bool.true_eq_false, if_false]
      exact ⟨trivial, .inl trivial⟩
  | false =>
    by_cases absent : k.scu.state = .absent
    · simp only [Bool.false_eq_true, if_false, if_pos absent, if_true]
      exact ⟨absent, .inl trivial⟩
    · simp only [Bool.false_eq_true, if_false, if_neg absent, if_true]
      exact ⟨rfl, .inr ⟨.absent, .inr rfl, fun e => absent e.symm, rfl⟩⟩

/-- What a move to OFF or ABSENT leaves of a socket (R2, R64). -/
theorem Socket.moved_unpowered (k : Socket) {st : SocketState} (off : st = .off ∨ st = .absent) :
    (k.moved st).scu = { k.scu with state := st, cleanRun := 0, settledMark := false } ∧
    (k.moved st).account = { k.account with mirror := st } ∧ (k.moved st).credit = k.credit ∧
    (k.moved st).lane = { k.lane with result := {} } ∧
    (k.moved st).rail =
      { k.rail with
          commanded := 0, output := 0, motion := .still, qualCount := 0, qualified := false, unregCount := 0,
          tripFilter := 0, contactCount := 0 } ∧
    (k.moved st).heat =
      { k.heat with
          accumulator := 0, demand := 0, duty := 0, limited := false, inWindowCount := 0, outWindowCount := 0,
          runawayCount := 0 } := by
  rcases off with rfl | rfl
  · refine ⟨rfl, rfl, rfl, rfl, rfl, ?_⟩
    simp [Socket.moved, Heat.moved, Heat.off, SocketState.powered]
  · refine ⟨rfl, rfl, rfl, rfl, rfl, ?_⟩
    simp [Socket.moved, Heat.moved, Heat.off, SocketState.powered]

theorem exec_identityLoadEnd {s : State} (due : s.due = []) (loading : s.phase ≠ .running) (first second third : LoadAttempt) :
    exec (.identityLoadEnd first second third) s = .next (s.endLoad (loadIdentity first second third)) := by
  have exec_eq : exec (.identityLoadEnd first second third) s = execIdentityLoadEnd first second third s := rfl
  rw [exec_eq, execIdentityLoadEnd, s.settled_of_none due, if_neg loading]

/-- Settles O54. -/
theorem theIdentityLoadEnds : Obligations.TheIdentityLoadEnds := by
  unfold Obligations.TheIdentityLoadEnds
  refine ⟨fun i => ⟨rfl, rfl, rfl, Nat.zero_max _, Nat.zero_max _⟩, ?_⟩
  intro first second third s due loading good fails
  refine ⟨_, exec_identityLoadEnd due loading first second third, ?_⟩
  have failed : ∀ a : LoadAttempt, fails a → LoadAttempt.passes a = false := fun a h => LoadAttempt.passes_false h
  have identities :
      (∀ b, first = .block b → good b → loadIdentity first second third = { valid := true, image := b }) ∧
      (∀ b, fails first → second = .block b → good b → loadIdentity first second third = { valid := true, image := b }) ∧
      (∀ b, fails first → fails second → third = .block b → good b →
        loadIdentity first second third = { valid := true, image := b }) ∧
      (fails first → fails second → fails third →
        loadIdentity first second third = { valid := false, image := List.replicate 64 0#8 }) :=
    ⟨fun b e g => by rw [e]; exact loadIdentity_first g, fun b f e g => by rw [e]; exact loadIdentity_second (failed _ f) g,
      fun b f f' e g => by rw [e]; exact loadIdentity_third (failed _ f) (failed _ f') g,
      fun f f' f'' => loadIdentity_fault (failed _ f) (failed _ f') (failed _ f'')⟩
  obtain ⟨one, two, three, fault⟩ := identities
  generalize loadIdentity first second third = i at *
  have identity : (s.endLoad i).identity = i := rfl
  rw [identity]
  refine ⟨by simp [State.endLoad], one, two, three, fault, rfl, s.ceilingAfterLoad_eq i, fun f => ?_, fun n => ?_⟩
  · rw [State.endLoad_feed]; exact s.limitAfterLoad_eq i f
  · rw [State.endLoad_socket]
    obtain ⟨state, same | ⟨st, off, moves, moved⟩⟩ := (s.socket n).populate_cases (SocketSet.has i.population n)
    · exact ⟨state, fun _ => same, fun changed => absurd (by rw [same]) changed⟩
    · refine ⟨state, fun still => absurd (by rw [← still, moved]; rfl) moves, fun _ => ?_⟩
      rw [moved]
      exact (s.socket n).moved_unpowered off

end Sys2Proof.Machine
end

section
/-!
PROOFS. The machine right after reset, and the values of power-on (R1, R53, R76, R96, R117, R131, R151, R159, R179).
-/

namespace Sys2Proof.Machine

theorem State.reset_permits (n : Sock) : State.reset.permits n = fun r => r.isIn 1#4 := by
  funext r
  rw [State.permits, State.reset_socket]

/-- No socket is powered, and the rate is the highest there is (R107). -/
theorem State.reset_highestRate : State.reset.highestRate = .r4 := by
  have none : State.reset.allPermit .r4 = true := (State.allPermit_iff _ _).mpr fun n h => by
    have empty : SocketSet.has State.reset.engine.powered n = false := SocketSet.has_zero n
    rw [empty] at h
    exact absurd h (by decide)
  rw [State.highestRate, if_pos none]

theorem State.reset_quiet : State.reset.Quiet := fun _ n => by rw [State.reset_socket]; rfl

theorem State.reset_heatOk : State.reset.HeatOk where
  quiet := State.reset_quiet
  fits := by
    have duties : State.reset.dutySum = 0 := List.sum_eq_zero fun d hd => by
      obtain ⟨n, -, rfl⟩ := List.mem_map.mp hd
      rw [State.reset_socket]
    rw [duties]
    exact Nat.zero_le _
  budget := Nat.zero_le _
  duty n := by rw [State.reset_socket]
  demand n := by rw [State.reset_socket]; exact Nat.zero_le _
  remembered n := by rw [State.reset_socket]; exact id
  limited n := by rw [State.reset_socket]; rfl
  unheated n := by rw [State.reset_socket]; exact fun _ => ⟨rfl, rfl⟩

theorem State.reset_engineOk : State.reset.EngineOk where
  quiet := State.reset_quiet
  powered n := by rw [State.reset_socket]; exact SocketSet.has_zero n
  rateOne n := by rw [State.reset_permits]; decide
  idleRate _ := State.reset_highestRate.symm
  idle _ := ⟨rfl, rfl, rfl, rfl⟩
  running busy := absurd rfl busy
  permitted busy := absurd rfl busy
  takePart n h := by
    have empty : SocketSet.has State.reset.engine.participants n = false := SocketSet.has_zero n
    rw [empty] at h
    exact absurd h (by decide)

/-- Settles O4. -/
theorem resetIsSound : Obligations.ResetIsSound := by
  unfold Obligations.ResetIsSound
  refine ⟨⟨.nil, nofun⟩, ⟨Nat.zero_le _, rfl, rfl⟩, State.reset_heatOk, State.reset_supplyOk, State.reset_engineOk, nofun,
    Nat.zero_le _⟩

/-- Settles O5: every field of the reset state, read off its definition. -/
theorem powerOnGivesPowerOnValues : Obligations.PowerOnGivesPowerOnValues := by
  unfold Obligations.PowerOnGivesPowerOnValues
  intro straps s
  rfl

end Sys2Proof.Machine
end

section
/-!
PROOFS. The scaling of demands to the heater budget: the shares, the leftover and its handing out (R66, R67).
-/

namespace Sys2Proof.Machine

/-! ### The shares (R66) -/

/-- How many demands of a list are above 0. -/
def demanding (demands : List Nat) : Nat := (demands.filter fun d => decide (0 < d)).length

@[simp] theorem demanding_nil : demanding [] = 0 := rfl

theorem demanding_cons (d : Nat) (l : List Nat) : demanding (d :: l) = demanding l + if 0 < d then 1 else 0 := by
  unfold demanding
  by_cases h : 0 < d <;> simp [h]

/-- A share is below its demand, a demand of 0 aside, where the budget is below the sum. -/
theorem firstDuty_lt {budget total : Nat} (short : budget < total) (d : Nat) : firstDuty budget total d < d ↔ 0 < d := by
  unfold firstDuty
  rw [Nat.div_lt_iff_lt_mul (by omega)]
  constructor
  · intro h; exact Nat.pos_of_ne_zero fun e => by subst e; simp at h
  · intro h; exact Nat.mul_lt_mul_of_pos_left short h

theorem firstDuty_zero (budget total : Nat) : firstDuty budget total 0 = 0 := by simp [firstDuty]

/-- What truncation leaves of a list of demands, in units of 1/total: nothing of a demand of 0, and of any other less than one. -/
theorem firstDuty_remainders {budget total : Nat} (pos : 0 < total) (l : List Nat) :
    total * (l.map (firstDuty budget total)).sum ≤ l.sum * budget ∧
    l.sum * budget + demanding l ≤ total * (l.map (firstDuty budget total)).sum + total * demanding l := by
  induction l with
  | nil => simp
  | cons d l ih =>
    obtain ⟨below, above⟩ := ih
    have split : total * firstDuty budget total d + d * budget % total = d * budget := Nat.div_add_mod _ _
    have rest : d * budget % total < total := Nat.mod_lt _ pos
    rw [List.map_cons, List.sum_cons, List.sum_cons, demanding_cons, Nat.mul_add, Nat.add_mul]
    by_cases some : 0 < d
    · rw [if_pos some, Nat.mul_add, Nat.mul_one]
      omega
    · obtain rfl : d = 0 := by omega
      rw [if_neg some, firstDuty_zero, Nat.zero_mul, Nat.add_zero]
      omega

/-- The shares of a budget below the sum leave less than one per-mille for each demand above 0 (R66, R67). -/
theorem firstDuty_leftover {budget : Nat} {demands : List Nat} (short : budget < demands.sum) :
    (demands.map (firstDuty budget demands.sum)).sum ≤ budget ∧
    budget - (demands.map (firstDuty budget demands.sum)).sum < demanding demands := by
  have pos : 0 < demands.sum := by omega
  obtain ⟨below, above⟩ := firstDuty_remainders (budget := budget) pos demands
  have fits := Nat.le_of_mul_le_mul_left below pos
  have some : demanding demands ≠ 0 := fun none => by
    have zero : demands.sum = 0 := List.sum_eq_zero fun d hd => by
      by_contra h
      exact List.filter_eq_nil_iff.mp (List.length_eq_zero_iff.mp none) d hd (by simpa using Nat.pos_of_ne_zero h)
    omega
  refine ⟨fits, ?_⟩
  rw [Nat.sub_lt_iff_lt_add fits]
  refine Nat.lt_of_mul_lt_mul_left (a := demands.sum) ?_
  rw [Nat.mul_add]
  omega

/-! ### The leftover (R67) -/

/-- How many pairs of a demand and its first-step duty stand below their demand. -/
def belowDemand (l : List (Nat × Nat)) : Nat := (l.filter fun x => decide (x.2 < x.1)).length

theorem belowDemand_cons (d a : Nat) (l : List (Nat × Nat)) :
    belowDemand ((d, a) :: l) = belowDemand l + if a < d then 1 else 0 := by
  unfold belowDemand
  by_cases h : a < d <;> simp [h]

/-- One pair at the giving out: it takes one per-mille if it stands below its demand and any is left. -/
theorem giveOut_cons (left d a : Nat) (l : List (Nat × Nat)) :
    giveOut left ((d, a) :: l) =
      if a < d ∧ 0 < left then (a + 1) :: giveOut (left - 1) l else a :: giveOut left l := by
  cases left with
  | zero => simp [giveOut]
  | succ left => simp [giveOut]

theorem giveOut_length (l : List (Nat × Nat)) : ∀ left, (giveOut left l).length = l.length := by
  induction l with
  | nil => intro left; rfl
  | cons x l ih =>
    intro left
    obtain ⟨d, a⟩ := x
    rw [giveOut_cons]
    split <;> simp [ih]

theorem giveOut_sum (l : List (Nat × Nat)) :
    ∀ left, (giveOut left l).sum = (l.map Prod.snd).sum + min left (belowDemand l) := by
  induction l with
  | nil => intro left; simp [giveOut, belowDemand]
  | cons x l ih =>
    intro left
    obtain ⟨d, a⟩ := x
    rw [giveOut_cons, belowDemand_cons, List.map_cons, List.sum_cons]
    by_cases below : a < d
    · rw [if_pos below]
      split_ifs with some
      · rw [List.sum_cons, ih]; omega
      · rw [List.sum_cons, ih]; omega
    · rw [if_neg fun h => below h.1, if_neg below, List.sum_cons, ih]
      omega

/-- Each pair below its demand takes one per-mille as long as fewer than the leftover stand before it (R67). -/
theorem giveOut_getElem? (l : List (Nat × Nat)) : ∀ (left i d a : Nat), l[i]? = some (d, a) →
    (giveOut left l)[i]? = some (a + if a < d ∧ belowDemand (l.take i) < left then 1 else 0) := by
  induction l with
  | nil => intro left i d a h; simp at h
  | cons x l ih =>
    intro left i d a h
    obtain ⟨d', a'⟩ := x
    rw [giveOut_cons]
    cases i with
    | zero =>
      obtain ⟨rfl, rfl⟩ : d' = d ∧ a' = a := by simpa using h
      have first : belowDemand (((d', a') :: l).take 0) = 0 := rfl
      rw [first]
      split_ifs <;> rfl
    | succ i =>
      have later : l[i]? = some (d, a) := by simpa using h
      rw [List.take_succ_cons, belowDemand_cons]
      by_cases takes : a' < d' ∧ 0 < left
      · have before : belowDemand (l.take i) + 1 < left ↔ belowDemand (l.take i) < left - 1 := by omega
        rw [if_pos takes, if_pos takes.1, List.getElem?_cons_succ, ih _ i d a later]
        simp only [before]
      · have before : belowDemand (l.take i) + (if a' < d' then 1 else 0) < left ↔ belowDemand (l.take i) < left := by
          split <;> omega
        rw [if_neg takes, List.getElem?_cons_succ, ih _ i d a later]
        simp only [before]

/-! ### The duties (R66, R67) -/

theorem scaleDuties_fit {budget : Nat} {demands : List Nat} (fits : demands.sum ≤ budget) :
    scaleDuties budget demands = demands := if_pos fits

/-- The demands of a list, each with its share. -/
def withShares (budget total : Nat) (demands : List Nat) : List (Nat × Nat) :=
  demands.map fun d => (d, firstDuty budget total d)

theorem withShares_snd (budget total : Nat) (demands : List Nat) :
    (withShares budget total demands).map Prod.snd = demands.map (firstDuty budget total) := by
  simp [withShares]

theorem scaleDuties_short {budget : Nat} {demands : List Nat} (short : budget < demands.sum) :
    scaleDuties budget demands =
      giveOut (budget - (demands.map (firstDuty budget demands.sum)).sum) (withShares budget demands.sum demands) := by
  rw [scaleDuties, if_neg (by omega), ← withShares_snd]
  rfl

/-- The demands above 0 are those whose share is below them. -/
theorem belowDemand_withShares {budget total : Nat} (short : budget < total) (demands : List Nat) :
    belowDemand (withShares budget total demands) = demanding demands := by
  induction demands with
  | nil => rfl
  | cons d l ih =>
    rw [withShares, List.map_cons, belowDemand_cons, demanding_cons, ← withShares, ih]
    simp only [firstDuty_lt short]

theorem scaleDuties_length (budget : Nat) (demands : List Nat) : (scaleDuties budget demands).length = demands.length := by
  rcases Nat.lt_or_ge budget demands.sum with short | fits
  · rw [scaleDuties_short short, giveOut_length, withShares, List.length_map]
  · rw [scaleDuties_fit fits]

/-- The duties use the lesser of the budget and the demands, to the last per-mille (R66, R67). -/
theorem scaleDuties_sum (budget : Nat) (demands : List Nat) :
    (scaleDuties budget demands).sum = min budget demands.sum := by
  rcases Nat.lt_or_ge budget demands.sum with short | fits
  · obtain ⟨below, left⟩ := firstDuty_leftover short
    rw [scaleDuties_short short, giveOut_sum, belowDemand_withShares short, withShares_snd]
    omega
  · rw [scaleDuties_fit fits]; omega

/-- A duty is its demand's share, and one per-mille more while the leftover lasts (R66, R67). -/
theorem scaleDuties_getElem? {budget : Nat} {demands : List Nat} (short : budget < demands.sum) {i d : Nat}
    (h : demands[i]? = some d) :
    (scaleDuties budget demands)[i]? = some (firstDuty budget demands.sum d +
      if 0 < d ∧ demanding (demands.take i) < budget - (demands.map (firstDuty budget demands.sum)).sum then 1 else 0) := by
  have pair : (withShares budget demands.sum demands)[i]? = some (d, firstDuty budget demands.sum d) := by
    simp [withShares, h]
  have before : (withShares budget demands.sum demands).take i = withShares budget demands.sum (demands.take i) := by
    simp [withShares, List.map_take]
  rw [scaleDuties_short short, giveOut_getElem? _ _ _ _ _ pair, before, belowDemand_withShares short]
  simp only [firstDuty_lt short]

/-- A share with its per-mille of the leftover is within its demand. -/
theorem firstDuty_given_le {budget total : Nat} (short : budget < total) (d : Nat) (given : Prop) [Decidable given] :
    firstDuty budget total d + (if 0 < d ∧ given then 1 else 0) ≤ d := by
  by_cases pos : 0 < d
  · have below := (firstDuty_lt short d).mpr pos
    split <;> omega
  · obtain rfl : d = 0 := by omega
    simp [firstDuty_zero]

/-- No duty is above its demand (R66, R67). -/
theorem scaleDuties_le (budget : Nat) (demands : List Nat) (i : Nat) :
    (scaleDuties budget demands).getD i 0 ≤ demands.getD i 0 := by
  rcases Nat.lt_or_ge budget demands.sum with short | fits
  · rw [List.getD_eq_getElem?_getD, List.getD_eq_getElem?_getD]
    cases h : demands[i]? with
    | none =>
      have none : (scaleDuties budget demands)[i]? = none := by
        rw [List.getElem?_eq_none_iff] at h ⊢
        rwa [scaleDuties_length]
      rw [none]
    | some d =>
      rw [scaleDuties_getElem? short h]
      exact firstDuty_given_le short d _
  · rw [scaleDuties_fit fits]

/-- Settles O33, from the shares' remainders and an induction over the giving out of the leftover. -/
theorem scalingIsExact : Obligations.ScalingIsExact := by
  unfold Obligations.ScalingIsExact
  refine ⟨fun s => rfl, fun budget demands => ⟨scaleDuties_fit, fun short => ?_⟩⟩
  have sum := scaleDuties_sum budget demands
  rw [Nat.min_eq_left (Nat.le_of_lt short)] at sum
  obtain ⟨-, left⟩ := firstDuty_leftover short
  exact ⟨left, sum, scaleDuties_length budget demands, fun i d h =>
    ⟨(firstDuty_lt short d).mpr, firstDuty_given_le short d _, scaleDuties_getElem? short h⟩⟩

end Sys2Proof.Machine
end

section
/-!
PROOFS. A thermal tick: readings, verdicts, the regulator and the duties (R56 to R58, R61 to R64, R66, R68).
-/

namespace Sys2Proof.Machine

/-! ### The duties of the sixteen positions (R66 to R68) -/

theorem getD_map_allSocks (f : Sock → Nat) (n : Sock) : (allSocks.map f).getD n.val 0 = f n := by
  simp [allSocks, List.getD_eq_getElem?_getD]

/-- A list of sixteen numbers is read off position by position. -/
theorem map_getD_allSocks {l : List Nat} (h : l.length = 16) : (allSocks.map fun n => l.getD n.val 0) = l := by
  refine List.ext_getElem (by simp [allSocks, h]) fun i hi hi' => ?_
  simp [allSocks, List.getD_eq_getElem?_getD, hi']

theorem State.demands_getD (s : State) (n : Sock) : s.demands.getD n.val 0 = (s.socket n).heat.demand := getD_map_allSocks _ n

theorem State.demands_congr {s t : State} (h : ∀ n, (t.socket n).heat.demand = (s.socket n).heat.demand) :
    t.demands = s.demands := List.map_congr_left fun n _ => h n

/-- The duty that a scaling of the demands in force to a budget gives a position (R66, R67). -/
def State.dutyUnder (s : State) (budget : Nat) (n : Sock) : Nat := (scaleDuties budget s.demands).getD n.val 0

theorem State.dutyUnder_le (s : State) (budget : Nat) (n : Sock) : s.dutyUnder budget n ≤ (s.socket n).heat.demand := by
  rw [← s.demands_getD]
  exact scaleDuties_le _ _ _

theorem State.map_dutyUnder (s : State) (budget : Nat) :
    allSocks.map (s.dutyUnder budget) = scaleDuties budget s.demands :=
  map_getD_allSocks (by rw [scaleDuties_length, State.demands, List.length_map, allSocks, List.length_finRange])

/-- Where every position has the duty of a scaling, the duties are its shares, and sum to the lesser of budget and demands (R66,
R67). -/
theorem State.duties_of_scaling {s t : State} {budget : Nat} (h : ∀ n, (t.socket n).heat.duty = s.dutyUnder budget n) :
    (allSocks.map fun n => (t.socket n).heat.duty) = scaleDuties budget s.demands ∧
    t.dutySum = min budget s.demands.sum := by
  have duties : (allSocks.map fun n => (t.socket n).heat.duty) = scaleDuties budget s.demands := by
    rw [← s.map_dutyUnder]
    exact List.map_congr_left fun n _ => h n
  exact ⟨duties, by rw [State.dutySum, duties, scaleDuties_sum]⟩

/-! ### The reading and the verdict (R57, R58, R61) -/

theorem plausible_iff (held : Option Int) (raw : Int) :
    plausible held raw = true ↔
      -500 ≤ raw ∧ raw ≤ 2500 ∧ ∀ t, held = some t → raw - t ≤ 200 ∧ t - raw ≤ 200 := by
  unfold plausible
  cases held with
  | none => simp
  | some t =>
    simp only [Bool.and_eq_true, decide_eq_true_eq, Option.some.injEq, forall_eq']
    omega

theorem ThermalProfile.inWindow_iff (p : ThermalProfile) (t : Int) :
    p.inWindow t = true ↔ p.setpoint - p.low ≤ t ∧ t ≤ p.setpoint + p.high := by
  simp [ThermalProfile.inWindow]

theorem Heat.read_plausible {h : Heat} {raw : Int} (plain : plausible h.held raw = true) :
    (h.read raw).held = some raw ∧ (h.read raw).implausible = 0 := by
  rw [Heat.read, if_pos plain]
  exact ⟨rfl, rfl⟩

theorem Heat.read_implausible {h : Heat} {raw : Int} (bad : plausible h.held raw ≠ true) :
    (h.read raw).held = h.held ∧ (h.read raw).implausible = min 3 (h.implausible + 1) := by
  rw [Heat.read, if_neg bad]
  exact ⟨rfl, rfl⟩

/-- A reading leaves the accumulator and the mark alone. -/
theorem Heat.read_regulator (h : Heat) (raw : Int) :
    (h.read raw).accumulator = h.accumulator ∧ (h.read raw).limited = h.limited := by
  unfold Heat.read
  split <;> exact ⟨rfl, rfl⟩

/-- Stage 3 leaves the reading and the verdict alone. -/
theorem Heat.demandStage_reading (h : Heat) (heated : Bool) :
    (h.demandStage heated).held = h.held ∧ (h.demandStage heated).implausible = h.implausible ∧
    (h.demandStage heated).inWindow = h.inWindow := by
  unfold Heat.demandStage
  split
  · split <;> exact ⟨rfl, rfl, rfl⟩
  · exact ⟨rfl, rfl, rfl⟩

/-! ### The regulator (R62 to R64) -/

theorem Heat.demandStage_noReading {h : Heat} (none : h.held = none) : h.demandStage true = { h with demand := 0 } := by
  rw [Heat.demandStage, if_pos rfl, none]

theorem Heat.demandStage_regulates {h : Heat} {held : Int} (some : h.held = some held) : h.demandStage true = h.regulate held := by
  rw [Heat.demandStage, if_pos rfl, some]

/-- The demand is the regulator's output clamped to 0 to 1000 (R62). -/
theorem Heat.regulate_demand (h : Heat) (held : Int) :
    ((h.regulate held).demand : Int) = max 0 (min 1000
      (proportional h.profile.kp (h.profile.setpoint - held) + (h.regulate held).accumulator.tdiv 256)) :=
  Int.toNat_of_nonneg (le_max_left _ _)

/-- No demand is above 1000 (R62). -/
theorem Heat.demandStage_demand_le (h : Heat) (heated : Bool) : (h.demandStage heated).demand ≤ 1000 := by
  cases heated with
  | false => exact Nat.zero_le _
  | true =>
    cases held : h.held with
    | none => rw [Heat.demandStage_noReading held]; exact Nat.zero_le _
    | some t =>
      rw [Heat.demandStage_regulates held]
      have demand := h.regulate_demand t
      omega

/-! ### One position after a tick -/

/-- A position of the board, its reading taken and judged, before stage 3 (R57, R61; R77). -/
def Socket.readHeat (k : Socket) (raw : Int) : Heat := if k.scu.state = .absent then k.heat else (k.heat.read raw).judge

theorem Socket.thermalFirst_heat (k : Socket) (raw : Int) :
    (k.thermalFirst raw).heat = (k.readHeat raw).demandStage k.scu.state.powered := rfl

/-- What the scaling and the monitors leave of what stages 1 to 3 gave. -/
theorem Socket.ticked_first (k : Socket) (raw : Int) (d : Nat) :
    (k.ticked raw d).heat.held = (k.thermalFirst raw).heat.held ∧
    (k.ticked raw d).heat.implausible = (k.thermalFirst raw).heat.implausible ∧
    (k.ticked raw d).heat.inWindow = (k.thermalFirst raw).heat.inWindow ∧
    (k.ticked raw d).heat.accumulator = (k.thermalFirst raw).heat.accumulator ∧
    (k.ticked raw d).heat.demand = (k.thermalFirst raw).heat.demand := by
  rw [Socket.ticked_heat]
  exact ⟨rfl, rfl, rfl, rfl, rfl⟩

theorem Socket.ticked_duty (k : Socket) (raw : Int) (d : Nat) :
    (k.ticked raw d).heat.duty = d ∧
    (k.ticked raw d).heat.limited = decide (d < (k.ticked raw d).heat.demand) ∧
    (k.ticked raw d).heat.lastLimited = (k.ticked raw d).heat.limited := by
  rw [Socket.ticked_heat]
  exact ⟨rfl, rfl, rfl⟩

theorem Socket.ticked_others (k : Socket) (raw : Int) (d : Nat) :
    (k.ticked raw d).credit = k.credit ∧ (k.ticked raw d).rail = k.rail := by
  unfold Socket.ticked Socket.notices
  split <;> exact ⟨rfl, rfl⟩

/-- The reading and the verdict after a tick (R56 to R58, R61). -/
structure Socket.ReadAt (k : Socket) (raw : Int) (h : Heat) : Prop where
  absent : k.scu.state = .absent → h.held = k.heat.held ∧ h.inWindow = k.heat.inWindow
  taken : k.scu.state ≠ .absent → plausible k.heat.held raw = true → h.held = some raw ∧ h.implausible = 0
  refused : k.scu.state ≠ .absent → plausible k.heat.held raw ≠ true →
    h.held = k.heat.held ∧ h.implausible = min 3 (k.heat.implausible + 1)
  verdict : k.scu.state ≠ .absent → h.inWindow = h.held.any k.heat.profile.inWindow

theorem Socket.readHeat_readAt (k : Socket) (raw : Int) : k.ReadAt raw (k.readHeat raw) := by
  unfold Socket.readHeat
  by_cases absent : k.scu.state = .absent
  · rw [if_pos absent]
    exact ⟨fun _ => ⟨rfl, rfl⟩, fun h => absurd absent h, fun h => absurd absent h, fun h => absurd absent h⟩
  · rw [if_neg absent]
    refine ⟨fun h => absurd h absent, fun _ => Heat.read_plausible, fun _ => Heat.read_implausible, fun _ => ?_⟩
    rw [← (Heat.read_frame k.heat raw).1]
    rfl

theorem Socket.ticked_readAt (k : Socket) (raw : Int) (d : Nat) : k.ReadAt raw (k.ticked raw d).heat := by
  obtain ⟨absent, taken, refused, verdict⟩ := k.readHeat_readAt raw
  obtain ⟨held, implausible, inWindow, -⟩ := k.ticked_first raw d
  obtain ⟨held', implausible', inWindow'⟩ := (k.readHeat raw).demandStage_reading k.scu.state.powered
  rw [Socket.thermalFirst_heat] at held implausible inWindow
  constructor <;> rw [held, held'] <;> simp only [implausible, implausible', inWindow, inWindow'] <;> assumption

/-- When the tentative accumulator is discarded (R63). -/
theorem discards_iff (wanted e : Int) (limited : Bool) :
    discards wanted e limited = true ↔ (1000 < wanted ∧ 0 < e) ∨ (wanted < 0 ∧ e < 0) ∨ (0 < e ∧ limited = true) := by
  simp [discards, or_assoc]

/-- What the regulator finds at a position: its profile, its accumulator and its mark as before the tick. -/
theorem Socket.readHeat_regulator (k : Socket) (raw : Int) :
    (k.readHeat raw).profile = k.heat.profile ∧ (k.readHeat raw).accumulator = k.heat.accumulator ∧
    (k.readHeat raw).limited = k.heat.limited := by
  unfold Socket.readHeat
  split
  · exact ⟨rfl, rfl, rfl⟩
  · obtain ⟨accumulator, limited⟩ := k.heat.read_regulator raw
    exact ⟨(Heat.read_frame k.heat raw).1, accumulator, limited⟩

/-- The regulator of a heated position that holds a temperature (R62, R63). -/
theorem Socket.ticked_regulated {k : Socket} (raw : Int) (d : Nat) {held : Int} (heated : k.scu.state.powered = true)
    (some : (k.ticked raw d).heat.held = some held) :
    let e := k.heat.profile.setpoint - held
    let p := proportional k.heat.profile.kp e
    let tried := tentative k.heat.accumulator k.heat.profile.ki e
    (k.ticked raw d).heat.accumulator = (if discards (rawDemand p tried) e k.heat.limited then k.heat.accumulator else tried) ∧
    ((k.ticked raw d).heat.demand : Int) = max 0 (min 1000 (p + (k.ticked raw d).heat.accumulator.tdiv 256)) := by
  obtain ⟨held', -, -, accumulator, demand⟩ := k.ticked_first raw d
  obtain ⟨profile, before, limited⟩ := k.readHeat_regulator raw
  obtain ⟨same, -, -⟩ := (k.readHeat raw).demandStage_reading k.scu.state.powered
  rw [held', Socket.thermalFirst_heat, same] at some
  rw [accumulator, demand, Socket.thermalFirst_heat, heated, Heat.demandStage_regulates some, ← profile, ← before, ← limited]
  exact ⟨rfl, Heat.regulate_demand _ held⟩

/-- A heated position that holds no temperature demands nothing (R62). -/
theorem Socket.ticked_noReading {k : Socket} (raw : Int) (d : Nat) (heated : k.scu.state.powered = true)
    (none : (k.ticked raw d).heat.held = none) :
    (k.ticked raw d).heat.demand = 0 ∧ (k.ticked raw d).heat.accumulator = k.heat.accumulator := by
  obtain ⟨held', -, -, accumulator, demand⟩ := k.ticked_first raw d
  obtain ⟨-, before, -⟩ := k.readHeat_regulator raw
  obtain ⟨same, -, -⟩ := (k.readHeat raw).demandStage_reading k.scu.state.powered
  rw [held', Socket.thermalFirst_heat, same] at none
  rw [accumulator, demand, Socket.thermalFirst_heat, heated, Heat.demandStage_noReading none, ← before]
  exact ⟨rfl, rfl⟩

/-- A position not heated demands nothing, and its accumulator is 0 (R64). -/
theorem Socket.ticked_unheated {k : Socket} (raw : Int) (d : Nat) (cold : k.scu.state.powered = false) :
    (k.ticked raw d).heat.demand = 0 ∧ (k.ticked raw d).heat.accumulator = 0 := by
  obtain ⟨-, -, -, accumulator, demand⟩ := k.ticked_first raw d
  rw [accumulator, demand, Socket.thermalFirst_heat, cold]
  exact ⟨rfl, rfl⟩

theorem Socket.ticked_demand_le (k : Socket) (raw : Int) (d : Nat) : (k.ticked raw d).heat.demand ≤ 1000 := by
  obtain ⟨-, -, -, -, demand⟩ := k.ticked_first raw d
  rw [demand]
  exact Heat.demandStage_demand_le _ _

/-! ### The tick (R56) -/

theorem State.scale_cases (s : State) : s.scale = s.scaled ∨ s.scale = s.scaled.raise .heaterLimited s.scaled.limitedSet := by
  rw [State.scale_eq]
  split
  · exact .inr rfl
  · exact .inl rfl

/-- What the TRU's work leaves alone of the board. -/
structure State.BoardKept (s t : State) : Prop where
  log : t.log = s.log
  feedA : t.feedA = s.feedA
  feedB : t.feedB = s.feedB
  budget : t.budget = s.budget
  engine : t.engine = s.engine
  link : t.link = s.link
  phase : t.phase = s.phase
  identity : t.identity = s.identity

theorem State.BoardKept.trans {s t u : State} (h : s.BoardKept t) (h' : t.BoardKept u) : s.BoardKept u :=
  ⟨h'.log.trans h.log, h'.feedA.trans h.feedA, h'.feedB.trans h.feedB, h'.budget.trans h.budget, h'.engine.trans h.engine,
    h'.link.trans h.link, h'.phase.trans h.phase, h'.identity.trans h.identity⟩

theorem State.BoardKept.raise (s : State) (e : EventFlag) (x : SocketSet) : s.BoardKept (s.raise e x) :=
  ⟨rfl, rfl, rfl, rfl, rfl, rfl, rfl, rfl⟩

theorem State.BoardKept.feed {s t : State} (h : s.BoardKept t) (f : FeedId) : t.feed f = s.feed f :=
  State.feed_congr h.feedA h.feedB f

theorem State.BoardKept.mapSockets (s : State) (f : Sock → Socket → Socket) : s.BoardKept (s.mapSockets f) := by
  constructor <;> simp

/-- A scaling changes nothing but the sockets and the flags. -/
theorem State.BoardKept.scale (s : State) : s.BoardKept s.scale := by
  have scaled : s.BoardKept s.scaled := .mapSockets s _
  rcases s.scale_cases with e | e <;> rw [e]
  · exact scaled
  · exact scaled.trans (.raise _ _ _)

/-- The reports of a position change nothing but the flags, the reports and what is due. -/
theorem State.BoardKept.thermalReport (before : Vector Socket 16) (s : State) (n : Sock) :
    s.BoardKept (State.thermalReport before s n) := by
  unfold State.thermalReport
  dsimp only
  rw [State.limitReports_eq]
  constructor <;> dsimp only <;> split <;> rfl

/-- A thermal tick changes nothing but the sockets, the flags, the reports and what is due. -/
theorem State.BoardKept.thermalTick (s : State) (readings : Vector Int 16) : s.BoardKept (s.thermalTick readings) := by
  have monitored : s.BoardKept (s.monitored readings) :=
    ((State.BoardKept.mapSockets s fun n k => k.thermalFirst (readings.get n)).trans (.scale (s.demanded readings))).trans
      (.mapSockets _ _)
  rw [State.thermalTick_eq]
  exact foldl_holds (P := s.BoardKept) allSocks (fun u n h => h.trans (.thermalReport s.sockets u n)) monitored

/-- The demands that a tick scales are those it leaves. -/
theorem State.thermalTick_demand (s : State) (readings : Vector Int 16) (n : Sock) :
    ((s.thermalTick readings).socket n).heat.demand = ((s.demanded readings).socket n).heat.demand := by
  obtain ⟨-, -, -, -, demand⟩ := (s.socket n).ticked_first (readings.get n) (s.tickDuty readings n)
  rw [State.thermalTick_socket, State.demanded_socket, demand]

/-- The duties after a tick are those of a scaling of the demands after it (R66, R67). -/
theorem State.thermalTick_duty (s : State) (readings : Vector Int 16) (n : Sock) :
    ((s.thermalTick readings).socket n).heat.duty = (s.thermalTick readings).dutyUnder s.budget n := by
  obtain ⟨duty, -, -⟩ := (s.socket n).ticked_duty (readings.get n) (s.tickDuty readings n)
  rw [State.dutyUnder, State.demands_congr (s.thermalTick_demand readings), State.thermalTick_socket, duty, State.tickDuty]

/-- Settles O34: position by position a reading, a verdict and a demand, and over all of them one scaling. -/
theorem aThermalTick : Obligations.AThermalTick := by
  unfold Obligations.AThermalTick
  intro readings s due running
  refine ⟨_, exec_thermalTick due running readings, ?_⟩
  have kept := State.BoardKept.thermalTick s readings
  have duty := s.thermalTick_duty readings
  have socket := s.thermalTick_socket readings
  generalize s.thermalTick readings = t at *
  obtain ⟨duties, sum⟩ := State.duties_of_scaling duty
  refine ⟨kept.log, kept.feed, kept.budget, kept.engine, kept.link, sum, duties, fun n => ?_⟩
  have within := t.dutyUnder_le s.budget n
  rw [← duty] at within
  rw [socket] at within ⊢
  generalize s.tickDuty readings n = d at *
  generalize s.socket n = k at *
  generalize readings.get n = raw at *
  obtain ⟨own, limited, last⟩ := k.ticked_duty raw d
  obtain ⟨absent, taken, refused, verdict⟩ := k.ticked_readAt raw d
  obtain ⟨credit, rail⟩ := k.ticked_others raw d
  obtain ⟨state, -⟩ := k.ticked_scu raw d
  refine ⟨state, credit, rail, k.ticked_profile raw d, within, ?_, last, k.ticked_demand_le raw d, absent, ?_, ?_, ?_, ?_,
    k.ticked_noReading raw d, ?_⟩
  · rw [limited, own]
  · intro present plain
    exact taken present ((plausible_iff _ _).mpr plain)
  · intro present odd
    exact refused present fun plain => odd ((plausible_iff _ _).mp plain)
  · intro present
    rw [verdict present, Option.any_eq_true]
    simp only [ThermalProfile.inWindow_iff]
  · intro cold
    obtain ⟨demand, accumulator⟩ := k.ticked_unheated raw d cold
    exact ⟨demand, Nat.le_zero.mp (demand ▸ within), accumulator⟩
  · intro held heated some e p tried wanted discard
    obtain ⟨accumulator, demand⟩ := k.ticked_regulated raw d heated some
    exact ⟨accumulator.trans (if_congr (discards_iff wanted e k.heat.limited) rfl rfl), demand⟩

end Sys2Proof.Machine
end

section
/-!
PROOFS. Set Heater Budget: the clamp, the rescale at once, the marks and HEATER_LIMITED (R65 to R69; log entry 40).
-/

namespace Sys2Proof.Machine

/-! ### A scaling by itself (R66 to R68) -/

/-- The TRU part of a position given its duty: the duty and its marks (R68). -/
theorem Socket.withDuty_heat (k : Socket) (d : Nat) :
    (k.withDuty d).heat =
      { k.heat with duty := d, limited := decide (d < k.heat.demand), lastLimited := decide (d < k.heat.demand) } := rfl

/-- The SCU's record of a position given its duty: the heater-limited notice (R68). -/
theorem Socket.withDuty_scu (k : Socket) (d : Nat) :
    (k.withDuty d).scu =
      { k.scu with heaterLimitedSinceRead := k.scu.heaterLimitedSinceRead || decide (d < k.heat.demand) } := rfl

theorem Socket.withDuty_others (k : Socket) (d : Nat) :
    (k.withDuty d).rail = k.rail ∧ (k.withDuty d).credit = k.credit ∧ (k.withDuty d).account = k.account := ⟨rfl, rfl, rfl⟩

theorem State.scale_socket (s : State) (n : Sock) : s.scale.socket n = (s.socket n).withDuty (s.dutyUnder s.budget n) := by
  rw [State.scale_socket_eq, State.scaled_socket]
  rfl

/-- HEATER_LIMITED at a scaling: set with the limited sockets where the scaling before found none limited and this one does, and
kept otherwise; no other flag changes (R68, R157; log entry 40). -/
theorem State.scale_flag (s : State) :
    let begins := (∀ n, (s.socket n).heat.lastLimited = false) ∧ ∃ n, (s.scale.socket n).heat.limited = true
    (∀ e, e ≠ .heaterLimited → s.scale.flag e = s.flag e) ∧
    (begins → s.scale.flag .heaterLimited =
      { s.flag .heaterLimited with isSet := true, sockets := (s.flag .heaterLimited).sockets ||| s.scale.limitedSet }) ∧
    (¬begins → s.scale.flag .heaterLimited = s.flag .heaterLimited) := by
  intro begins
  have last : s.lastLimitedSet = 0#16 ↔ ∀ n, (s.socket n).heat.lastLimited = false := setWhere_eq_zero _
  have now : s.scaled.limitedSet ≠ 0#16 ↔ ∃ n, (s.scale.socket n).heat.limited = true := by
    rw [State.limitedSet, ne_eq, setWhere_eq_zero]
    simp only [← State.scale_socket_eq, not_forall, Bool.not_eq_false]
  have begins_iff : s.lastLimitedSet = 0#16 ∧ s.scaled.limitedSet ≠ 0#16 ↔ begins := and_congr last now
  have set : s.scale.limitedSet = s.scaled.limitedSet := by simp only [State.limitedSet, State.scale_socket_eq]
  have kept : ∀ e, s.scaled.flag e = s.flag e := State.mapSockets_flag s _
  rw [set, State.scale_eq]
  by_cases h : begins
  · rw [if_pos (begins_iff.mpr h)]
    refine ⟨fun e other => ?_, fun _ => ?_, fun no => absurd h no⟩
    · rw [State.flag_raise, if_neg other, kept]
    · rw [State.flag_raise, if_pos rfl, kept]
  · rw [if_neg fun x => h (begins_iff.mp x)]
    exact ⟨fun e _ => kept e, fun yes => absurd yes h, fun _ => kept _⟩

/-! ### The request (R65) -/

theorem State.heard_demands (s : State) : s.heard.demands = s.demands := rfl

theorem State.heard_dutyUnder (s : State) (budget : Nat) (n : Sock) : s.heard.dutyUnder budget n = s.dutyUnder budget n := rfl

theorem nat16_le16_of_le {value : Nat} (h : value ≤ 65535) : nat16 (le16 value) 0 = value := by
  have read := nat16_le16 value []
  rw [List.append_nil] at read
  omega

theorem setHeaterBudget_exec {s : State} {dst : Byte} (h : s.Hears dst) (value : Nat) {t : State} {r : Response}
    (carry : setHeaterBudgetKind.carryOut (le16 value) s.heard = (t, r)) :
    exec (.setHeaterBudget dst (le16 value)) s = .next (t.respond 0x29#8 r) :=
  h.exec_plain (c := .setHeaterBudget dst (le16 value)) rfl rfl rfl (by simp [le16]) carry

/-- The state with the budget clamped to the population's, before the rescale (R65). -/
def State.withBudget (s : State) (value : Nat) : State := { s with budget := min value s.identity.budgetMax }

theorem State.setBudget_eq (s : State) (value : Nat) : s.setBudget value = (s.withBudget value).scale := rfl

theorem State.withBudget_feed (s : State) (value : Nat) (f : FeedId) : (s.withBudget value).feed f = s.feed f := by
  cases f <;> rfl

theorem State.setBudget_socket (s : State) (value : Nat) (n : Sock) :
    (s.setBudget value).socket n = (s.socket n).withDuty (s.dutyUnder (min value s.identity.budgetMax) n) :=
  (s.withBudget value).scale_socket n

/-- No demand changes (R65). -/
theorem State.setBudget_demands (s : State) (value : Nat) : (s.setBudget value).demands = s.demands :=
  State.demands_congr fun n => by rw [State.setBudget_socket, Socket.withDuty_heat]

/-- Settles O42: the request is one scaling of the demands in force under the clamped budget. -/
theorem theHeaterBudgetRescales : Obligations.TheHeaterBudgetRescales := by
  unfold Obligations.TheHeaterBudgetRescales
  intro dst value s h word
  have read := nat16_le16_of_le word
  refine ⟨fun above => ?_, fun within => ?_⟩
  · refine setHeaterBudget_exec h value (r := .now .badArg []) ?_
    simp only [setHeaterBudgetKind]
    rw [read, if_neg (by omega)]
  · have carry : setHeaterBudgetKind.carryOut (le16 value) s.heard =
        (s.heard.setBudget value, .now .ok (s.heard.setBudget value).budgetBytes) := by
      simp only [setHeaterBudgetKind]
      rw [read, if_pos within]
    refine ⟨_, setHeaterBudget_exec h value carry, ?_⟩
    have kept := State.BoardKept.scale (s.heard.withBudget value)
    have flag := (s.heard.withBudget value).scale_flag
    rw [← State.setBudget_eq] at kept flag
    have socket := s.heard.setBudget_socket value
    have demands := s.heard.setBudget_demands value
    obtain ⟨duties, sum⟩ := State.duties_of_scaling (s := s.heard) (t := s.heard.setBudget value) fun n => by
      rw [socket, Socket.withDuty_heat]
    generalize s.heard.setBudget value = t at *
    have budget : t.budget = min value s.identity.budgetMax := kept.budget
    rw [State.heard_identity, ← budget, State.heard_demands] at sum duties
    have bytes : t.budgetBytes = le16 t.budget ++ le16 s.demands.sum ++ le16 t.dutySum ++ le16 t.limitedSet.toNat := by
      rw [State.budgetBytes, demands, State.heard_demands, State.dutySum]
    obtain ⟨others, begins, goesOn⟩ := flag
    have feed : ∀ f, t.feed f = s.feed f := fun f => by rw [kept.feed, State.withBudget_feed, State.heard_feed]
    rw [bytes, State.respond]
    refine ⟨budget, sum, duties, rfl, fun f => (t.withReply_feed _ f).trans (feed f), kept.engine, kept.log, others,
      ⟨begins, goesOn⟩, fun n => ?_⟩
    have marked : ∀ u : State, SocketSet.has u.limitedSet n = (u.socket n).heat.limited := fun u => SocketSet.has_setWhere _ n
    have fits := s.dutyUnder_le (min value s.identity.budgetMax) n
    rw [marked, State.answer, State.withReply_socket, socket, State.heard_socket, State.heard_dutyUnder, State.heard_identity]
    generalize s.dutyUnder (min value s.identity.budgetMax) n = d at *
    generalize s.socket n = k at *
    obtain ⟨rail, credit, account⟩ := k.withDuty_others d
    rw [k.withDuty_heat, k.withDuty_scu]
    exact ⟨rail, rfl, credit, account, fits, rfl, rfl, rfl⟩

end Sys2Proof.Machine
end

section
/-!
PROOFS. The heaters stay sound (R64 to R68; log entry 40): what of a socket the soundness speaks of, and the changes it does not
notice, up to a failure and a report taken.
-/

namespace Sys2Proof.Machine

/-! ### What a heater is driven with -/

/-- What the soundness of the heaters speaks of in one socket's TRU part. -/
structure Drive where
  demand : Nat
  duty : Nat
  accumulator : Int
  limited : Bool
  lastLimited : Bool

/-- The drive of a socket's heater. -/
def Socket.drive (k : Socket) : Drive :=
  { demand := k.heat.demand, duty := k.heat.duty, accumulator := k.heat.accumulator, limited := k.heat.limited,
    lastLimited := k.heat.lastLimited }

/-- A drive within its demand, its mark that of its duty and remembered, and with nothing demanded of a socket not heated. -/
structure Drive.Sound (d : Drive) (heated : Bool) : Prop where
  duty : d.duty ≤ d.demand
  demand : d.demand ≤ 1000
  remembered : d.limited = true → d.lastLimited = true
  limited : d.limited = decide (d.duty < d.demand)
  unheated : heated = false → d.demand = 0 ∧ d.accumulator = 0

/-- The drive of a heater released (R64). -/
structure Drive.Released (d : Drive) : Prop where
  demand : d.demand = 0
  duty : d.duty = 0
  accumulator : d.accumulator = 0
  limited : d.limited = false

theorem Drive.Released.sound {d : Drive} (h : d.Released) (heated : Bool) : d.Sound heated where
  duty := by rw [h.duty]; exact Nat.zero_le _
  demand := by rw [h.demand]; exact Nat.zero_le _
  remembered on := by rw [h.limited] at on; cases on
  limited := by rw [h.limited, h.duty, h.demand]; rfl
  unheated _ := ⟨h.demand, h.accumulator⟩

/-- The heater of a socket not heated is released. -/
theorem Drive.Sound.released {d : Drive} (h : d.Sound false) : d.Released := by
  obtain ⟨demand, accumulator⟩ := h.unheated rfl
  have none : d.duty = 0 := Nat.le_zero.mp (demand ▸ h.duty)
  exact ⟨demand, none, accumulator, by rw [h.limited, none, demand]; rfl⟩

theorem Drive.Sound.heated {d : Drive} {before after : Bool} (h : d.Sound before) (stays : before = true → after = true) :
    d.Sound after := by
  refine ⟨h.duty, h.demand, h.remembered, h.limited, fun cold => h.unheated ?_⟩
  subst cold
  cases before with
  | false => rfl
  | true => exact (stays rfl).symm

/-- The soundness of the heaters, socket by socket. -/
theorem State.heatOk_iff (s : State) :
    s.HeatOk ↔ s.Quiet ∧ s.dutySum ≤ s.budget ∧ s.budget ≤ s.identity.budgetMax ∧
      ∀ n, (s.socket n).drive.Sound (s.socket n).scu.state.powered := by
  constructor
  · intro h
    exact ⟨h.quiet, h.fits, h.budget, fun n => ⟨h.duty n, h.demand n, h.remembered n, h.limited n, h.unheated n⟩⟩
  · intro ⟨quiet, fits, budget, sound⟩
    exact ⟨quiet, fits, budget, fun n => (sound n).duty, fun n => (sound n).demand, fun n => (sound n).remembered,
      fun n => (sound n).limited, fun n => (sound n).unheated⟩

/-! ### Changes that the heaters do not notice -/

/-- Between `s` and `t` every heater is driven as before or released, none that is driven as before has left the heated states, the
budget stands, and in a load of the identity no socket has become QUEUED or powered. -/
structure State.HeatKept (s t : State) : Prop where
  phase : t.phase = s.phase
  identity : t.identity = s.identity
  budget : t.budget = s.budget
  busy : s.phase ≠ .running → ∀ n, (t.socket n).scu.state.busy = true → (s.socket n).scu.state.busy = true
  drive : ∀ n, (t.socket n).drive.Released ∨ (t.socket n).drive = (s.socket n).drive ∧
    ((s.socket n).scu.state.powered = true → (t.socket n).scu.state.powered = true)

/-- Such a change leaves sound heaters sound. -/
theorem State.HeatOk.of_kept {s t : State} (h : s.HeatOk) (k : s.HeatKept t) : t.HeatOk := by
  obtain ⟨quiet, fits, budget, sound⟩ := s.heatOk_iff.mp h
  have less : t.dutySum ≤ s.dutySum := List.sum_le_sum fun n _ => by
    rcases k.drive n with released | ⟨same, -⟩
    · have none : (t.socket n).heat.duty = 0 := released.duty
      rw [none]; exact Nat.zero_le _
    · exact le_of_eq (congrArg Drive.duty same)
  refine t.heatOk_iff.mpr ⟨fun loading n => ?_, ?_, ?_, fun n => ?_⟩
  · rw [k.phase] at loading
    by_contra busy
    rw [Bool.not_eq_false] at busy
    exact absurd (k.busy loading n busy) (by rw [quiet loading n]; decide)
  · rw [k.budget]; exact less.trans fits
  · rw [k.budget, k.identity]; exact budget
  · rcases k.drive n with released | ⟨same, stays⟩
    · exact released.sound _
    · rw [same]; exact (sound n).heated stays

/-- A change of no socket's state and no drive. -/
theorem State.HeatKept.of_eq {s t : State} (phase : t.phase = s.phase) (identity : t.identity = s.identity)
    (budget : t.budget = s.budget)
    (socket : ∀ n, (t.socket n).scu.state = (s.socket n).scu.state ∧ (t.socket n).drive = (s.socket n).drive) :
    s.HeatKept t where
  phase := phase
  identity := identity
  budget := budget
  busy _ n h := by
    obtain ⟨state, -⟩ := socket n
    rwa [state] at h
  drive n := by
    obtain ⟨state, drive⟩ := socket n
    exact .inr ⟨drive, by rw [state]; exact id⟩

/-- Only what stands beside the sockets changed. -/
theorem State.HeatKept.of_sockets {s t : State} (sockets : t.sockets = s.sockets) (phase : t.phase = s.phase)
    (identity : t.identity = s.identity) (budget : t.budget = s.budget) : s.HeatKept t :=
  .of_eq phase identity budget fun n => by rw [State.socket_congr sockets]; exact ⟨rfl, rfl⟩

theorem State.HeatKept.refl (s : State) : s.HeatKept s := .of_sockets rfl rfl rfl rfl

theorem State.HeatKept.trans {s t u : State} (h : s.HeatKept t) (h' : t.HeatKept u) : s.HeatKept u where
  phase := h'.phase.trans h.phase
  identity := h'.identity.trans h.identity
  budget := h'.budget.trans h.budget
  busy loading n busy := h.busy loading n (h'.busy (h.phase ▸ loading) n busy)
  drive n := by
    rcases h'.drive n with released | ⟨same', stays'⟩
    · exact .inl released
    · rw [same']
      exact (h.drive n).imp_right fun ⟨same, stays⟩ => ⟨same, fun heated => stays' (stays heated)⟩

/-- A fold of such changes is one. -/
theorem State.HeatKept.foldl {α : Type} {f : State → α → State} (l : List α) (h : ∀ (s : State) a, s.HeatKept (f s a))
    (s : State) : s.HeatKept (l.foldl f s) :=
  foldl_holds (P := s.HeatKept) l (fun t a ht => ht.trans (h t a)) (.refl s)

/-! ### Single updates -/

theorem State.HeatKept.modSocket (s : State) (n : Sock) {f : Socket → Socket}
    (state : ∀ k, (f k).scu.state = k.scu.state := by intro k; rfl)
    (drive : ∀ k, (f k).drive = k.drive := by intro k; rfl) : s.HeatKept (s.modSocket n f) :=
  .of_eq rfl rfl rfl fun m => by
    rw [State.modSocket_socket]
    split
    · rename_i e; subst e; exact ⟨state _, drive _⟩
    · exact ⟨rfl, rfl⟩

theorem State.HeatKept.modScu (s : State) (n : Sock) {f : Record → Record}
    (state : ∀ r, (f r).state = r.state := by intro r; rfl) : s.HeatKept (s.modScu n f) :=
  .modSocket s n fun _ => state _

theorem State.HeatKept.modRail (s : State) (n : Sock) (f : Rail → Rail) : s.HeatKept (s.modRail n f) := .modSocket s n

theorem State.HeatKept.modAccount (s : State) (n : Sock) (f : Account → Account) : s.HeatKept (s.modAccount n f) :=
  .modSocket s n

theorem State.HeatKept.mapSockets (s : State) {f : Sock → Socket → Socket}
    (state : ∀ n k, (f n k).scu.state = k.scu.state := by intro n k; rfl)
    (drive : ∀ n k, (f n k).drive = k.drive := by intro n k; rfl) : s.HeatKept (s.mapSockets f) :=
  .of_eq (by simp) (by simp) (by simp) fun m => by rw [State.mapSockets_socket]; exact ⟨state _ _, drive _ _⟩

theorem State.HeatKept.modFeed (s : State) (f : FeedId) (g : Feed → Feed) : s.HeatKept (s.modFeed f g) :=
  .of_sockets (by simp) (by simp) (by simp) (by simp)

theorem State.HeatKept.send (s : State) (n : Sock) (k : ReportKind) : s.HeatKept (s.send n k) := .of_sockets rfl rfl rfl rfl

theorem State.HeatKept.drop (s : State) (r : Report) : s.HeatKept (s.drop r) := .of_sockets rfl rfl rfl rfl

theorem State.HeatKept.raise (s : State) (e : EventFlag) (x : SocketSet) : s.HeatKept (s.raise e x) :=
  .of_sockets rfl rfl rfl rfl

theorem State.HeatKept.engine (s : State) (g : Engine) : s.HeatKept { s with engine := g } := .of_sockets rfl rfl rfl rfl

theorem State.HeatKept.recomputeRate (s : State) : s.HeatKept s.recomputeRate := .of_sockets rfl rfl rfl rfl

theorem State.HeatKept.due (s : State) (l : List Expiry) : s.HeatKept { s with due := l } := .of_sockets rfl rfl rfl rfl

/-! ### The SCU's operations -/

/-- A socket that goes to a state not heated has its heater released; one that goes to a heated state keeps its drive (R2, R64). -/
theorem Socket.moved_drive (k : Socket) (st : SocketState) :
    (k.moved st).drive.Released ∨ (k.moved st).drive = k.drive ∧ st.powered = true := by
  cases heated : st.powered with
  | false =>
    obtain ⟨demand, duty, accumulator, limited, -⟩ := Heat.moved_out k.heat (before := k.scu.state) heated
    exact .inl ⟨demand, duty, accumulator, limited⟩
  | true => exact .inr ⟨by simp [Socket.drive, Socket.moved, Heat.moved, heated], rfl⟩

/-- A move that brings no socket to QUEUED or to a powered state from another in a load of the identity. -/
theorem State.HeatKept.move (s : State) (n : Sock) {st : SocketState}
    (free : st.busy = false ∨ (s.socket n).scu.state.busy = true ∨ s.phase = .running) : s.HeatKept (s.move n st) where
  phase := by simp
  identity := by simp
  budget := by simp
  busy loading m := by
    rw [State.move_socket]
    split
    · rename_i e
      subst e
      intro (busy : st.busy = true)
      rcases free with free | before | running
      · rw [free] at busy; cases busy
      · exact before
      · exact absurd running loading
    · exact id
  drive m := by
    rw [State.move_socket]
    split
    · rename_i e
      subst e
      exact ((s.socket m).moved_drive st).imp_right fun ⟨same, heated⟩ => ⟨same, fun _ => heated⟩
    · exact .inr ⟨rfl, id⟩

theorem State.HeatKept.evaluate (s : State) (f : FeedId) : s.HeatKept (s.evaluate f) :=
  .of_eq (by simp) (by simp) (by simp) fun n => by rw [State.evaluate_socket]; exact ⟨rfl, rfl⟩

theorem State.HeatKept.moveAdmit (s : State) (n : Sock) {st : SocketState}
    (free : st.busy = false ∨ (s.socket n).scu.state.busy = true ∨ s.phase = .running) : s.HeatKept (s.moveAdmit n st) :=
  (State.HeatKept.move s n free).trans (.evaluate _ _)

theorem State.HeatKept.requeued (s : State) (n : Sock) : s.HeatKept (s.requeued n) := by
  unfold State.requeued
  dsimp only
  split
  · exact (State.HeatKept.move s n (.inl rfl)).trans (.evaluate _ _)
  · exact .evaluate s _

theorem State.HeatKept.settleToRun (s : State) (n : Sock) : s.HeatKept (s.settleToRun n) := by
  unfold State.settleToRun
  split
  · rename_i may
    simp only [State.mayRun, Bool.and_eq_true, beq_iff_eq] at may
    obtain ⟨⟨settle, -⟩, -⟩ := may
    exact .move s n (.inr (.inl (by rw [settle]; rfl)))
  · exact .refl s

theorem State.HeatKept.decideAll (s : State) : s.HeatKept s.decideAll := .foldl _ .settleToRun s

theorem State.HeatKept.idle (s : State) (c : StopCause) : s.HeatKept (s.idle c) := by
  have stopped : s.HeatKept { s with engine := s.engine.stopped c } := .engine s _
  have dropped := stopped.trans (.mapSockets _ (f := fun _ k => { k with lane := { k.lane with result := {} } }))
  exact (dropped.trans (.recomputeRate _)).trans (.decideAll _)

theorem State.HeatKept.fail (s : State) (n : Sock) (c : Cause) : s.HeatKept (s.fail n c) := by
  cases runs : c.runsIn (s.socket n).scu.state with
  | false => rw [s.fail_discarded n c runs]; exact .refl s
  | true =>
    rw [s.fail_taken n c runs]
    have accounted : s.HeatKept (s.accountFailure n c (c.disposition s.link.mode)) :=
      .of_eq (by simp) (by simp) (by simp) fun m => by
        rw [State.accountFailure_socket]
        split
        · rename_i e; subst e; exact ⟨rfl, rfl⟩
        · exact ⟨rfl, rfl⟩
    have busy : ((s.accountFailure n c (c.disposition s.link.mode)).socket n).scu.state.busy = true := by
      rw [State.accountFailure_socket, if_pos rfl]
      exact SocketState.busy_of_powered (Cause.powered_of_runsIn runs)
    refine (accounted.trans ?_).trans (.raise _ _ _)
    unfold State.dispose
    split
    · exact .move _ n (.inr (.inl busy))
    · exact .moveAdmit _ n (.inr (.inl busy))

theorem State.HeatKept.takeOff (s : State) (n : Sock) : s.HeatKept (s.takeOff n) :=
  (State.HeatKept.modRail s n _).trans (.modFeed _ _ _)

/-! ### Reports taken -/

theorem State.HeatKept.takeGrant (s : State) (n : Sock) : s.HeatKept (s.takeGrant n) := by
  unfold State.takeGrant
  split
  · rename_i granted
    obtain ⟨queued, -⟩ := State.granted_iff.mp granted
    exact .move s n (.inr (.inl (by rw [queued]; rfl)))
  · exact .refl s

theorem State.HeatKept.takeTrip (s : State) (n : Sock) : s.HeatKept (s.takeTrip n) := by
  unfold State.takeTrip
  split
  · rename_i powered
    have counted : s.HeatKept (s.modSocket n fun k => k.tripped (s.isRetry n)) := .modSocket s n
    dsimp only
    split
    · refine counted.trans (((State.HeatKept.move _ n (.inr (.inl ?_))).trans (.modFeed _ _ _)).trans (.requeued _ n))
      rw [State.modSocket_socket, if_pos rfl]
      exact SocketState.busy_of_powered powered
    · exact counted.trans (.fail _ n _)
  · exact .refl s

theorem State.HeatKept.shedMove (s : State) (n : Sock) : s.HeatKept (s.shedMove n) := by
  have counted : s.HeatKept (s.countShed n) := .modAccount s n _
  unfold State.shedMove
  dsimp only
  split_ifs with hold powered
  · exact counted.trans (.move _ n (.inl rfl))
  · refine (counted.trans (.move _ n (.inr (.inl ?_)))).trans (.modFeed _ _ _)
    rw [State.countShed, State.modAccount_socket, if_pos rfl]
    exact SocketState.busy_of_powered powered
  · exact .refl s

theorem State.HeatKept.taken (s : State) (n : Sock) (kind : ReportKind) : s.HeatKept (s.taken n kind) := by
  cases kind with
  | grant => exact .takeGrant s n
  | qualified =>
    simp only [State.taken, State.takeQualified]
    split
    · rename_i ramp
      exact .moveAdmit s n (.inr (.inl (by rw [ramp]; rfl)))
    · exact .refl s
  | settled =>
    simp only [State.taken, State.takeSettled]
    split
    · exact (State.HeatKept.modScu s n).trans (.settleToRun _ n)
    · exact .refl s
  | notSettled => exact .modScu s n (f := fun r => { r with settledMark := false })
  | target =>
    simp only [State.taken, State.takeTarget]
    split
    · exact ((State.HeatKept.modAccount s n _).trans (.moveAdmit _ n (.inl rfl))).trans (.raise _ _ _)
    · exact .refl s
  | trip => exact .takeTrip s n
  | shed =>
    simp only [State.taken, State.takeShed]
    split_ifs
    · exact (State.HeatKept.shedMove s n).trans (.evaluate _ _)
    · exact (State.HeatKept.shedMove s n).trans (.requeued _ n)
    · exact .refl s
  | failure c => exact .fail s n c

theorem State.HeatKept.takeNotices (n : Sock) : ∀ (k : Nat) (s : State), s.HeatKept (State.takeNotices n k s)
  | 0, s => .refl s
  | k + 1, s => by
    unfold State.takeNotices
    split
    · split
      · exact ((State.HeatKept.drop s _).trans (.taken _ n .notSettled)).trans (.takeNotices n k _)
      · exact .refl s
    · exact .refl s

theorem State.HeatKept.takeReport (s : State) (n : Sock) (kind : ReportKind) :
    s.HeatKept (s.takeReport n kind (·.taken n kind)) := by
  rcases s.takeReport_cases n kind (·.taken n kind) with ⟨-, e⟩ | ⟨-, e⟩ <;> rw [e]
  · exact ((State.HeatKept.drop s _).trans (.taken _ n kind)).trans (.takeNotices n _ _)
  · exact .refl s

end Sys2Proof.Machine
end

section
/-!
PROOFS. The heaters stay sound through the engine's work, every expiry, tick, load and request, and so through every step.
-/

namespace Sys2Proof.Machine

/-! ### The engine -/

theorem State.HeatKept.settlePass (s : State) (n : Sock) : s.HeatKept (s.settlePass n) := by
  have counted : ∀ lane failing, s.HeatKept (s.modSocket n fun k =>
      { k with lane := lane, scu := { k.scu with failingPassSinceRead := failing } }) := fun _ _ => .modSocket s n
  unfold State.settlePass
  dsimp only
  split
  · exact (counted _ _).trans (.send _ n _)
  · exact counted _ _

theorem State.HeatKept.startPass (s : State) : s.HeatKept s.startPass := by
  refine (State.HeatKept.mapSockets s (f := fun n k =>
    if SocketSet.has s.runSet n then { k with lane := k.lane.startPass } else k) ?_ ?_).trans (.engine _ _)
  all_goals intro n k; split <;> rfl

theorem State.HeatKept.nextPass (s : State) : s.HeatKept s.nextPass :=
  ((State.HeatKept.recomputeRate s).trans (.decideAll _)).trans (.startPass _)

theorem State.HeatKept.arrive (s : State) (e : EntryNo) : s.HeatKept (s.arrive e).1 := by
  unfold State.arrive
  dsimp only
  split_ifs
  · exact (State.HeatKept.idle s _).trans (.raise _ _ _)
  · exact (State.HeatKept.idle s _).trans (.raise _ _ _)
  · exact .engine s _

theorem State.HeatKept.start (s : State) (e : EntryNo) : s.HeatKept (s.start e) := by
  have arrived := State.HeatKept.arrive s e
  unfold State.start
  split <;> rename_i t ht <;> rw [ht] at arrived
  · exact arrived.trans (.startPass t)
  · exact arrived

theorem State.HeatKept.followLink (s : State) : s.HeatKept s.followLink := by
  unfold State.followLink
  split
  · exact (State.HeatKept.idle s _).trans (.raise _ _ _)
  · rename_i e _
    have arrived := State.HeatKept.arrive s e
    split <;> rename_i t ht <;> rw [ht] at arrived
    · exact arrived.trans (.nextPass t)
    · exact arrived

theorem State.HeatKept.passEnd (s : State) : s.HeatKept s.passEnd := by
  have settled : s.HeatKept s.settlePasses := .foldl _ .settlePass s
  unfold State.passEnd
  dsimp only
  split
  · exact .refl s
  · exact settled.trans (.idle _ _)
  · split
    · exact (settled.trans (.engine _ _)).trans (.followLink _)
    · exact (settled.trans (.engine _ _)).trans (.nextPass _)

theorem State.HeatKept.pageCorrupt (s : State) (p : Page) : s.HeatKept (s.pageCorrupt p) := by
  have marked : s.HeatKept ({ s with store := s.store.setCondition p .corrupt }.raise .storeFault 0#16) :=
    .of_sockets rfl rfl rfl rfl
  refine marked.trans ?_
  unfold State.pageCorrupt State.stopForPage
  split_ifs
  · exact .refl _
  · exact .idle _ _
  · exact .engine _ _
  · exact .refl _

theorem State.HeatKept.checkPage (s : State) (p : Page) : s.HeatKept (s.checkPage p).1 := by
  unfold State.checkPage
  split
  · exact .pageCorrupt s p
  · exact .refl s

theorem State.HeatKept.verify : ∀ (pages : List Page) (s : State), s.HeatKept (State.verify pages s).1
  | [], s => .refl s
  | p :: rest, s => by
    unfold State.verify
    split
    · exact State.HeatKept.verify rest s
    · exact .refl s
    · have checked := State.HeatKept.checkPage s p
      split <;> rename_i t ht <;> rw [ht] at checked
      · exact checked.trans (.verify rest t)
      · exact checked

/-! ### Expiries -/

theorem State.HeatKept.releaseAll (s : State) : s.HeatKept s.releaseAll := by
  refine (State.HeatKept.foldl _ (fun t n => ?_) s).trans (.raise _ _ _)
  unfold State.releaseUnattended
  split
  · exact (State.HeatKept.modAccount t n _).trans (.moveAdmit _ n (.inl rfl))
  · exact .refl t

theorem State.HeatKept.goUnattended (s : State) : s.HeatKept s.goUnattended := .of_sockets rfl rfl rfl rfl

theorem State.HeatKept.fire (s : State) (e : Expiry) : s.HeatKept (s.fire e) := by
  cases e with
  | rampTimeout n | moveTimeout n | unregulated n | contactLoss n =>
    simp only [State.fire, State.rampTimedOut, State.moveTimedOut, State.unregulated, State.contactLost]
    exact (State.HeatKept.modRail s n _).trans (.send _ _ _)
  | qualification n =>
    simp only [State.fire, State.qualify]
    split
    · exact (State.HeatKept.modRail s n _).trans (.send _ _ _)
    · exact .refl s
  | trip n => exact (State.HeatKept.takeOff s n).trans (.send _ _ _)
  | shed f =>
    simp only [State.fire, State.shedNewest]
    split
    · exact .modFeed s f _
    · exact ((State.HeatKept.modFeed s f _).trans (.takeOff _ _)).trans ((State.HeatKept.send _ _ _).trans (.raise _ _ _))
  | calibrationEnd n =>
    simp only [State.fire, State.endCalibration]
    split
    · exact .refl s
    · rename_i c _
      exact (State.HeatKept.modRail s n fun r => r.calibrated c.mean).trans
        (.of_sockets (by simp) (by simp) (by simp) (by simp))
  | thermallySettled n => exact .send s n _
  | notSettled n =>
    simp only [State.fire, State.noticeNotSettled]
    split
    · exact .send s n _
    · exact .taken s n .notSettled
  | excursion n | runaway n =>
    simp only [State.fire, State.reportExcursion, State.reportRunaway]
    exact (State.HeatKept.modSocket s n).trans (.send _ _ _)
  | settleTimeout n => exact .fail s n _
  | cleanRun n => exact .modScu s n (f := fun r => { r with tripCount := 0, cleanRun := 0 })
  | linkSilence => exact (State.HeatKept.goUnattended s).trans (.releaseAll _)
  | releases => exact .releaseAll s
  | passEnd => exact .passEnd s

theorem State.HeatKept.settled (s : State) : s.HeatKept s.settled := (State.HeatKept.due s []).trans (.foldl _ .fire _)

theorem State.HeatKept.occur (s : State) (e : Expiry) : s.HeatKept (s.occur e) := by
  unfold State.occur
  split
  · exact (State.HeatKept.due s _).trans (.foldl _ .fire _)
  · exact .refl s

theorem State.HeatKept.occurBefore (s : State) (e : Expiry) : s.HeatKept (s.occurBefore e) :=
  (State.HeatKept.due s _).trans (.foldl _ .fire _)

theorem State.HeatKept.beforeReport (s : State) : s.HeatKept s.beforeReport := by
  unfold State.beforeReport
  split_ifs
  · exact ((State.HeatKept.occurBefore s _).trans (.due _ _)).trans (.goUnattended _)
  · exact .occurBefore s _
  · exact .settled s

/-! ### Ticks and vector steps -/

theorem State.HeatKept.sampleTick (s : State) (readings : Vector SenseReading 16) : s.HeatKept (s.sampleTick readings) := by
  have sampled : s.HeatKept (s.mapSockets fun n k => k.sample (s.inOrder n) s.identity.tripMax (readings.get n)) :=
    .mapSockets s
  exact ((sampled.trans (.modFeed _ .a _)).trans (.modFeed _ .b _)).trans (.due _ _)

theorem State.HeatKept.accrueSocket (s : State) (n : Sock) : s.HeatKept (s.accrueSocket n) := by
  have counted : ∀ credit account, s.HeatKept (s.modSocket n fun k => { k with credit, account }) := fun _ _ => .modSocket s n
  unfold State.accrueSocket
  dsimp only
  generalize (if s.eligible n = true then (s.socket n).credit.accrue (s.tickFactor n) else (s.socket n).credit) = credit
  split
  · split
    · exact (counted _ _).trans (.send _ _ _)
    · exact counted _ _
  · exact .refl s

theorem State.HeatKept.scrub (s : State) : s.HeatKept s.scrub := by
  unfold State.scrub
  split
  · exact .refl s
  · split
    · exact .refl s
    · rename_i p _
      have pointed : s.HeatKept { s with store := { s.store with scrub := p + 1, lastScrubbed := some p } } :=
        .of_sockets rfl rfl rfl rfl
      exact pointed.trans (.checkPage _ _)

theorem State.HeatKept.silenceTick (s : State) : s.HeatKept s.silenceTick := by
  unfold State.silenceTick
  split
  · exact .refl s
  · dsimp only
    split <;> exact .of_sockets rfl rfl rfl rfl

theorem State.HeatKept.secondTick (s : State) : s.HeatKept s.secondTick := by
  have clocked : s.HeatKept { s with clock := (s.clock + 1) % 4294967296 } := .of_sockets rfl rfl rfl rfl
  have timed : ∀ t : State, t.HeatKept t.timers := fun t =>
    (State.HeatKept.mapSockets t (f := fun _ k => { k with scu := k.scu.second })).trans (.due _ _)
  exact (((clocked.trans (.foldl _ .accrueSocket _)).trans (timed _)).trans (.scrub _)).trans (.silenceTick _)

theorem State.HeatKept.vectorStep (s : State) (e : EntryNo) (responses : Vector Byte 16) :
    s.HeatKept (s.vectorStep e responses) := by
  obtain ⟨phase, -, -, -, budget, -, -, -, -, -, identity, -⟩ := s.vectorStep_frame e responses
  refine .of_eq phase identity budget fun n => ?_
  rw [State.vectorStep_socket]
  split <;> exact ⟨rfl, rfl⟩

/-! ### Scalings (R66 to R68) -/

/-- A position given a duty within its demand is soundly driven. -/
theorem Socket.withDuty_sound {k : Socket} {d : Nat} {heated : Bool} (within : d ≤ k.heat.demand) (demand : k.heat.demand ≤ 1000)
    (unheated : heated = false → k.heat.demand = 0 ∧ k.heat.accumulator = 0) : (k.withDuty d).drive.Sound heated :=
  ⟨within, demand, id, rfl, unheated⟩

/-- A position whose duty after a tick is within its demand is soundly driven. -/
theorem Socket.ticked_sound (k : Socket) {raw : Int} {d : Nat}
    (within : (k.ticked raw d).heat.duty ≤ (k.ticked raw d).heat.demand) :
    (k.ticked raw d).drive.Sound k.scu.state.powered := by
  obtain ⟨own, limited, last⟩ := k.ticked_duty raw d
  have marked : (k.ticked raw d).heat.limited = decide ((k.ticked raw d).heat.duty < (k.ticked raw d).heat.demand) := by
    rw [limited, own]
  exact ⟨within, k.ticked_demand_le raw d, last.trans, marked, k.ticked_unheated raw d⟩

/-- Heaters scaled to a budget within the population's are sound, each position's demand and accumulator being so. -/
theorem State.HeatOk.of_scaling {s t : State} (quiet : t.Quiet) (duty : ∀ n, (t.socket n).heat.duty = s.dutyUnder t.budget n)
    (budget : t.budget ≤ t.identity.budgetMax)
    (sound : ∀ n, (t.socket n).drive.Sound (t.socket n).scu.state.powered) : t.HeatOk := by
  obtain ⟨-, sum⟩ := State.duties_of_scaling duty
  exact t.heatOk_iff.mpr ⟨quiet, sum ▸ Nat.min_le_left _ _, budget, sound⟩

/-- A change of no socket's state keeps a part that loads its identity quiet. -/
theorem State.Quiet.of_states {s t : State} (h : s.Quiet) (phase : t.phase = s.phase)
    (state : ∀ n, (t.socket n).scu.state = (s.socket n).scu.state) : t.Quiet := fun loading n => by
  rw [state]
  exact h (phase ▸ loading) n

theorem State.HeatOk.thermalTick {s : State} (h : s.HeatOk) (readings : Vector Int 16) : (s.thermalTick readings).HeatOk := by
  have kept := State.BoardKept.thermalTick s readings
  have duty := s.thermalTick_duty readings
  have within := (s.thermalTick readings).dutyUnder_le s.budget
  have socket := s.thermalTick_socket readings
  have state : ∀ n, ((s.thermalTick readings).socket n).scu.state = (s.socket n).scu.state := fun n => by
    rw [socket]; exact ((s.socket n).ticked_scu _ _).1
  generalize s.thermalTick readings = t at *
  refine .of_scaling (h.quiet.of_states kept.phase state) (kept.budget ▸ duty) (by rw [kept.budget, kept.identity]; exact h.budget)
    fun n => ?_
  have within := within n
  rw [← duty] at within
  rw [state, socket]
  rw [socket] at within
  exact (s.socket n).ticked_sound within

theorem State.HeatOk.setBudget {s : State} (h : s.HeatOk) (value : Nat) : (s.setBudget value).HeatOk := by
  have kept := State.BoardKept.scale (s.withBudget value)
  rw [← State.setBudget_eq] at kept
  have budget : (s.setBudget value).budget = min value s.identity.budgetMax := kept.budget
  have socket := s.setBudget_socket value
  have state : ∀ n, ((s.setBudget value).socket n).scu.state = (s.socket n).scu.state := fun n => by
    rw [socket, Socket.withDuty_scu]
  generalize s.setBudget value = t at *
  refine .of_scaling (s := s) (h.quiet.of_states kept.phase state) (fun n => ?_) ?_ fun n => ?_
  · rw [socket, Socket.withDuty_heat, budget]
  · rw [budget, kept.identity]; exact Nat.min_le_right _ _
  · rw [state, socket]
    exact Socket.withDuty_sound (s.dutyUnder_le _ n) (h.demand n) (h.unheated n)

/-! ### Loads and resets -/

/-- With every heater released the heaters are sound. -/
theorem State.HeatOk.of_released {s : State} (quiet : s.Quiet) (budget : s.budget ≤ s.identity.budgetMax)
    (released : ∀ n, (s.socket n).drive.Released) : s.HeatOk := by
  have none : s.dutySum = 0 := List.sum_eq_zero fun d hd => by
    obtain ⟨n, -, rfl⟩ := List.mem_map.mp hd
    exact (released n).duty
  exact s.heatOk_iff.mpr ⟨quiet, by rw [none]; exact Nat.zero_le _, budget, fun n => (released n).sound _⟩

theorem State.HeatOk.boardReset {s : State} (h : s.HeatOk) (retain : Bool) : (s.boardReset retain).HeatOk := by
  have budget : (s.boardReset retain).budget = if retain then s.budget else 0 := by simp [State.boardReset]
  have identity : (s.boardReset retain).identity = s.identity := by simp [State.boardReset]
  refine .of_released (fun _ n => ?_) ?_ fun n => ?_
  · rw [State.boardReset_socket]; exact SocketState.afterReset_not_busy _
  · rw [budget, identity]
    split
    · exact h.budget
    · exact Nat.zero_le _
  · rw [State.boardReset_socket]; exact ⟨rfl, rfl, rfl, rfl⟩

/-- A socket's place under a loaded population leaves a heater released (R3, R64). -/
theorem Socket.populate_released {k : Socket} (h : k.drive.Released) (fitted : Bool) : (k.populate fitted).drive.Released := by
  have moved : ∀ st, (k.moved st).drive.Released := fun st =>
    (k.moved_drive st).elim id fun ⟨same, _⟩ => same ▸ h
  unfold Socket.populate
  split_ifs
  exacts [moved _, h, h, moved _]

theorem State.HeatOk.endLoad {s : State} (h : s.HeatOk) (loading : s.phase ≠ .running) (i : Identity) :
    (s.endLoad i).HeatOk := by
  have idle := h.quiet loading
  obtain ⟨-, -, -, sound⟩ := s.heatOk_iff.mp h
  refine .of_released (fun _ n => ?_) (Nat.min_le_right s.budget i.budgetMax) fun n => ?_
  · rw [State.endLoad_socket]; exact Socket.populate_busy (idle n) _
  · rw [State.endLoad_socket]
    have cold := sound n
    rw [SocketState.not_powered_of_not_busy (idle n)] at cold
    exact Socket.populate_released cold.released _

/-! ### Requests, and every step -/

theorem State.HeatKept.arm (s : State) (n : Sock) (running : s.phase = .running) : s.HeatKept (s.arm n) := by
  have armed : s.HeatKept (s.modSocket n Socket.armed) := .modSocket s n
  exact ((armed.trans (.move _ n (.inr (.inr running)))).trans (.modFeed _ _ _)).trans (.evaluate _ _)

theorem State.HeatKept.powerDown (s : State) (n : Sock) : s.HeatKept (s.powerDown n) := by
  have free : (if (s.socket n).scu.state = .hold then SocketState.safe else .off).busy = false := by split <;> rfl
  unfold State.powerDown
  dsimp only
  split
  · exact .move s n (.inl free)
  · exact .moveAdmit s n (.inl free)

/-- A set request in a running part, its action being such a change in a running part (R4). -/
theorem State.HeatKept.forSet {s : State} (running : s.phase = .running) (x : SocketSet) (judge : State → Sock → Option Status)
    {act : State → Sock → State} (h : ∀ t n, t.phase = .running → State.HeatKept t (act t n)) :
    s.HeatKept (s.forSet x judge act).1 :=
  s.forSet_keeps s.HeatKept x judge act (fun t n ht _ => ht.trans (h t n (ht.phase.trans running))) (.refl s)

theorem State.HeatKept.shedNow (s : State) (n : Sock) : s.HeatKept (s.shedNow n) := by
  have taken : s.HeatKept (if s.granted n then (s.takeGrant n).drop ⟨n, .grant⟩ else s) := by
    split
    · exact (State.HeatKept.takeGrant s n).trans (.drop _ _)
    · exact .refl s
  exact (((taken.trans (.takeOff _ n)).trans (.modFeed _ _ _)).trans (.raise _ _ _)).trans (.shedMove _ n)

theorem State.HeatKept.setFeedLimit (s : State) (f : FeedId) (limit : Nat) : s.HeatKept (s.setFeedLimit f limit).1 := by
  refine State.setFeedLimit_holds f limit (.refl s) (fun t n ht => ht.trans (.shedNow t n)) (fun t n ht => ht.trans ?_)
    (fun t ht => ht.trans (.modFeed t f _)) fun t ht => ht.trans (.evaluate t f)
  unfold State.withdraw
  split
  · exact .move t n (.inl rfl)
  · exact .refl t

theorem State.HeatKept.setCeiling (s : State) (mv : Nat) : s.HeatKept (s.setCeiling mv) := by
  obtain ⟨phase, -, -, -, budget, -, -, -, -, -, -, identity, -⟩ := s.setCeiling_frame mv
  refine .of_eq phase identity budget fun n => ?_
  have same : ({ s with ceiling := clamp 400 s.identity.nativeCeiling mv } : State).socket n = s.socket n :=
    State.socket_congr rfl n
  rw [State.setCeiling_socket, State.retarget_socket, same]
  split <;> exact ⟨rfl, rfl⟩

/-- An account cleared, of a socket neither QUEUED nor powered, to a state of that kind (R22, R149, R150). -/
theorem State.HeatKept.of_cleared {s t : State} (phase : t.phase = s.phase) (identity : t.identity = s.identity)
    (budget : t.budget = s.budget)
    (socket : ∀ n, t.socket n = s.socket n ∨ ∃ st : SocketState, t.socket n = (s.socket n).cleared st ∧ st.busy = false ∧
      (s.socket n).scu.state.busy = false) : s.HeatKept t where
  phase := phase
  identity := identity
  budget := budget
  busy _ n h := by
    rcases socket n with e | ⟨st, e, free, -⟩
    · rwa [e] at h
    · rw [e] at h
      exact absurd h (by rw [show ((s.socket n).cleared st).scu.state = st from rfl, free]; decide)
  drive n := by
    refine .inr ?_
    rcases socket n with e | ⟨st, e, -, free⟩
    · rw [e]; exact ⟨rfl, id⟩
    · rw [e, SocketState.not_powered_of_not_busy free]; exact ⟨rfl, nofun⟩

/-- Whatever the owner of a request does keeps the heaters sound. -/
theorem State.HeatOk.answered {s t : State} {code : Byte} (h : s.HeatOk) (running : s.phase = .running)
    (ha : s.Answered code t) : t.HeatOk := by
  cases ha with
  | same => exact h
  | groups | silenceParam | acked | enables | loaded | factors | trimmed | threshold | entry | stopped =>
    exact h.of_kept (.of_sockets rfl rfl rfl rfl)
  | arm x => exact h.of_kept (.forSet running x _ .arm)
  | powerDown x => exact h.of_kept (.forSet running x _ fun t n _ => .powerDown t n)
  | pause x | resume x => exact h.of_kept (.forSet running x _ fun t n open_ => .move t n (.inr (.inr open_)))
  | release x => exact h.of_kept (.forSet running x _ fun t n _ => .moveAdmit t n (.inl rfl))
  | statusRead n => exact h.of_kept (.modScu s n)
  | accountCleared n _ free =>
    refine h.of_kept (.of_cleared rfl rfl rfl fun m => ?_)
    rw [State.modSocket_socket]
    split
    · rename_i e; subst e; exact .inr ⟨.off, rfl, rfl, free⟩
    · exact .inl rfl
  | accountsCleared free =>
    refine h.of_kept (.of_cleared (by simp) (by simp) (by simp) fun m => .inr ?_)
    have busy := State.not_busy_of_not_anyBusy free m
    exact ⟨_, State.clearAccounts_socket s m, SocketState.afterClear_of_not_busy busy, busy⟩
  | railProfile n | calibration n | thermalProfile n | testProfile n => exact h.of_kept (.modSocket s n)
  | ceiling mv => exact h.of_kept (.setCeiling s mv)
  | feedLimit f mv => exact h.of_kept (.setFeedLimit s f _)
  | budget value => exact h.setBudget value
  | verified pages => exact h.of_kept (.verify pages s)
  | started e _ => exact h.of_kept (.start s e)

theorem State.HeatOk.lineKeeps : LineKeeps State.HeatOk where
  reply _ _ h := h.of_kept (.of_sockets rfl rfl rfl rfl)
  count _ _ h := h.of_kept (.of_sockets rfl rfl rfl rfl)
  attend _ h := h.of_kept (.of_sockets rfl rfl rfl rfl)
  receiver _ _ h := h.of_kept (.of_sockets rfl rfl rfl rfl)
  reset _ retain h := h.boardReset retain
  owner _ _ _ running ha h := h.answered running ha

theorem State.HeatOk.exec {c : Instr} {s t : State} (h : s.HeatOk) (ht : exec c s = .next t) : t.HeatOk := by
  have settled := h.of_kept (.settled s)
  exact exec_ind ht
    (power := fun _ => State.reset_heatOk.of_kept (.of_sockets rfl rfl rfl rfl))
    (expiry := fun e => h.of_kept (.occur s e))
    (report := fun n kind => (h.of_kept (.beforeReport s)).of_kept (.takeReport _ n kind))
    (settled := settled)
    (seen := fun _ => settled.of_kept (.of_sockets rfl rfl rfl rfl))
    (load := fun loading i => settled.endLoad loading i)
    (sample := fun r => settled.of_kept (.sampleTick _ r))
    (thermal := fun r => settled.thermalTick r)
    (second := settled.of_kept (.secondTick _))
    (vector := fun e r => settled.of_kept (.vectorStep _ e r))
    (upset := fun _ => settled.of_kept (.of_sockets rfl rfl rfl rfl))
    (line := State.HeatOk.lineKeeps)

/-- Settles O56: every command is a change that the heaters do not notice, a scaling, a load or a reset. -/
theorem everyStepKeepsTheHeatersSound : Obligations.EveryStepKeepsTheHeatersSound := by
  unfold Obligations.EveryStepKeepsTheHeatersSound
  exact fun s t h ht => step_keeps (fun _ _ h => h.of_kept (.of_sockets rfl rfl rfl rfl)) (fun _ _ _ h ht => h.exec ht) h ht

end Sys2Proof.Machine
end

section
/-!
PROOFS. The fail log's account of itself (R138, R140, R141, R146, R150, R151): what becomes of it at a record, a trim, a clearing and a
Board Reset, and the events that leave the log alone.
-/

namespace Sys2Proof.Machine

/-! ### What changes the log -/

theorem State.LogOk.of_log {s t : State} (h : s.LogOk) (log : t.log = s.log) : t.LogOk := by
  obtain ⟨room, totals, numbers⟩ := h
  exact ⟨by rwa [log], by rwa [log], by rwa [log]⟩

/-- A record consumes a number, and is present where there is room and dropped where there is none (R140). -/
theorem State.LogOk.logRecord {s : State} (h : s.LogOk) (r : FailRecord) : (s.logRecord r).LogOk := by
  obtain ⟨room, totals, numbers⟩ := h
  simp only [Config.logRoom] at room
  by_cases free : s.log.records.length < 128
  · refine ⟨?_, ?_, ?_⟩ <;>
      simp only [s.logRecord_log, free, if_true, List.length_append, List.length_singleton, Config.logRoom] <;> omega
  · refine ⟨?_, ?_, ?_⟩ <;> simp only [s.logRecord_log, free, if_false, Config.logRoom] <;> omega

/-- The records trimmed are counted as such (R146). -/
theorem State.LogOk.trim {s : State} (h : s.LogOk) (n : Nat) : State.LogOk { s with log := s.log.trim n } := by
  obtain ⟨room, totals, numbers⟩ := h
  refine ⟨?_, ?_, numbers⟩ <;> simp only [FailLog.trim, List.length_drop] <;> omega

/-- A clearing of all accounts starts the log's totals again (R150). -/
theorem State.LogOk.of_cleared {s : State} {l : FailLog} (log : s.log = l.cleared) : s.LogOk := by
  refine ⟨?_, ?_, ?_⟩ <;> rw [log]
  · exact Nat.zero_le _
  · rfl
  · rfl

/-- A Board Reset keeps the records and their totals (R151). -/
theorem State.LogOk.boardReset {s : State} (h : s.LogOk) (retain : Bool) : (s.boardReset retain).LogOk := by
  have log : (s.boardReset retain).log = s.log.afterReset retain := rfl
  obtain ⟨room, totals, numbers⟩ := h
  refine ⟨?_, ?_, ?_⟩ <;> rw [log] <;> cases retain <;> assumption

/-! ### Failures and reports taken -/

/-- A failure adds its record to the log and does nothing else to it (R19). -/
theorem State.LogOk.fail {s : State} (h : s.LogOk) (n : Sock) (c : Cause) : (s.fail n c).LogOk := by
  cases runs : c.runsIn (s.socket n).scu.state with
  | false => rw [s.fail_discarded n c runs]; exact h
  | true =>
    rw [s.fail_taken n c runs]
    exact (h.logRecord (s.failRecord n c)).of_log (by rw [State.raise_log, (State.dispose_frame _ n _).2.2.2.2.2.1, s.accountFailure_log])

theorem State.LogOk.taken {s : State} (h : s.LogOk) (n : Sock) (kind : ReportKind) : (s.taken n kind).LogOk := by
  cases kind with
  | failure c => exact h.fail n c
  | trip =>
    simp only [State.taken, State.takeTrip]
    split
    · split
      · exact h.of_log (by simp)
      · exact State.LogOk.fail (h.of_log (by simp)) n _
    · exact h
  | grant | qualified | settled | notSettled | target | shed => exact h.of_log (by simp [State.taken])

theorem State.LogOk.takeNotices (n : Sock) : ∀ (k : Nat) {s : State}, s.LogOk → (State.takeNotices n k s).LogOk
  | 0, _, h => h
  | k + 1, s, h => by
    unfold State.takeNotices
    split
    · split
      · exact State.LogOk.takeNotices n k (h.of_log (by simp))
      · exact h
    · exact h

theorem State.LogOk.takeReport {s : State} (h : s.LogOk) (n : Sock) (kind : ReportKind) :
    (s.takeReport n kind (·.taken n kind)).LogOk := by
  rcases s.takeReport_cases n kind (·.taken n kind) with ⟨-, e⟩ | ⟨-, e⟩ <;> rw [e]
  · have dropped : (s.drop ⟨n, kind⟩).LogOk := h.of_log rfl
    exact State.LogOk.takeNotices n _ (dropped.taken n kind)
  · exact h

/-! ### Expiries -/

/-- Of the expiries a settle timeout alone, which is a failure, touches the log (R9). -/
theorem State.LogOk.fire {s : State} (h : s.LogOk) (e : Expiry) : (s.fire e).LogOk := by
  cases e with
  | settleTimeout n => exact h.fail n _
  | _ => exact h.of_log (by simp [State.fire])

theorem State.LogOk.fires {s : State} (h : s.LogOk) (now later : List Expiry) :
    (now.foldl State.fire { s with due := later }).LogOk :=
  foldl_holds now (fun _ e ht => ht.fire e) (h.of_log rfl)

theorem State.LogOk.occur {s : State} (h : s.LogOk) (e : Expiry) : (s.occur e).LogOk := by
  unfold State.occur
  split
  · exact h.fires _ _
  · exact h

theorem State.LogOk.beforeReport {s : State} (h : s.LogOk) : s.beforeReport.LogOk := by
  unfold State.beforeReport
  split_ifs
  · exact (h.fires _ _).of_log rfl
  · exact h.fires _ _
  · exact h.fires _ _

/-! ### Requests, and every command -/

/-- Of the requests Clear Accounts, Trim Log and Set Log Threshold alone touch the log (R146, R147, R150). -/
theorem State.LogOk.answered {s t : State} {code : Byte} (h : s.LogOk) (ha : s.Answered code t) : t.LogOk := by
  have kept := ha.requested.log
  cases ha with
  | same => exact h
  | accountsCleared => exact .of_cleared rfl
  | trimmed n => exact h.trim n
  | threshold n => exact ⟨h.room, h.totals, h.numbers⟩
  | _ => exact h.of_log (kept (by decide) (by decide) (by decide))

theorem State.LogOk.lineKeeps : LineKeeps State.LogOk where
  reply _ _ h := h.of_log rfl
  count _ _ h := h.of_log rfl
  attend _ h := h.of_log rfl
  receiver _ _ h := h.of_log rfl
  reset _ retain h := h.boardReset retain
  owner _ _ _ _ ha h := h.answered ha

theorem State.LogOk.exec {c : Instr} {s t : State} (h : s.LogOk) (ht : exec c s = .next t) : t.LogOk := by
  have settled : s.settled.LogOk := h.fires _ _
  obtain ⟨-, log, -⟩ := s.settled.secondTick_frame s.settled_due
  exact exec_ind ht
    (power := fun _ => ⟨Nat.zero_le _, rfl, rfl⟩)
    (expiry := fun e => h.occur e)
    (report := fun n kind => h.beforeReport.takeReport n kind)
    (settled := settled)
    (seen := fun _ => settled.of_log rfl)
    (load := fun _ _ => settled.of_log (by simp [State.endLoad]))
    (sample := fun _ => settled.of_log (by simp [State.sampleTick]))
    (thermal := fun r => settled.of_log (State.BoardKept.thermalTick _ r).log)
    (second := settled.of_log log)
    (vector := fun e r => settled.of_log (by simp [State.vectorStep_frame]))
    (upset := fun _ => settled.of_log rfl)
    (line := State.LogOk.lineKeeps)

end Sys2Proof.Machine
end

section
/-!
PROOFS. The vector store's memory stays in its canonical form (R78, R82, R84, R96): a load within the store, an upset, a Board Reset and
a power-on are all that change it, and a load reaches the store through a whole frame of the right length alone.
-/

namespace Sys2Proof.Machine

theorem State.MemoryOk.of_mem {s t : State} (h : s.MemoryOk) (mem : t.store.mem = s.store.mem) : t.MemoryOk := by
  unfold State.MemoryOk
  rwa [mem]

theorem State.MemoryOk.of_store {s t : State} (h : s.MemoryOk) (store : t.store = s.store) : t.MemoryOk :=
  h.of_mem (congrArg Store.mem store)

/-! ### What an owner does -/

/-- A kind code is that of one kind (R184). -/
theorem requestKind_of_code {k k' : RequestKind} (hk : k ∈ requestKinds) (hk' : k' ∈ requestKinds) (code : k.code = k'.code) :
    k = k' := by
  have distinct : (requestKinds.map RequestKind.code).Nodup := by decide
  exact List.inj_on_of_nodup_map distinct hk hk' code

/-- A Load Vectors that passes its checks writes within the store (R83). -/
theorem State.MemoryOk.loadVectors {s : State} (h : s.MemoryOk) {p : List Byte}
    (length : loadVectorsKind.lengthOk p.length = true) : (loadVectorsKind.carryOut p s).1.MemoryOk := by
  have whole : (p.drop 2).length = 5 * ((p.drop 2).length / 5) := by
    simp only [loadVectorsKind, loadLength, Bool.and_eq_true, decide_eq_true_eq, beq_iff_eq] at length
    rw [List.length_drop]
    omega
  simp only [loadVectorsKind]
  split_ifs with busy within
  · exact h
  · exact Store.wf_load h _ _ _ whole within.2
  · exact h

theorem State.MemoryOk.carryOut {s : State} (h : s.MemoryOk) {k : RequestKind} (listed : k ∈ requestKinds) {p : List Byte}
    (length : k.lengthOk p.length = true) : (k.carryOut p s).1.MemoryOk := by
  by_cases load : k.code = 0x30#8
  · obtain rfl := requestKind_of_code (k' := loadVectorsKind) listed (by simp [requestKinds]) load
    exact h.loadVectors length
  · obtain ⟨mem, -⟩ := (carryOut_answered listed p s).requested.content load
    exact h.of_mem mem

theorem State.MemoryOk.boardReset {s : State} (h : s.MemoryOk) (retain : Bool) : (s.boardReset retain).MemoryOk := by
  cases retain
  · exact Mem.wf_reset
  · exact h

/-! ### The line: what stands between a byte and an owner leaves the store alone -/

theorem State.MemoryOk.takeFrame {s : State} (h : s.MemoryOk) (dst kind : Byte) {k : Option RequestKind} (p : List Byte)
    (listed : ∀ r, k = some r → r ∈ requestKinds) : (s.takeFrame dst kind k p).MemoryOk := by
  unfold State.takeFrame
  cases s.link.addressing dst with
  | others => exact h
  | individual =>
    cases k with
    | none => exact h
    | some r =>
      have heard : (s.count LinkCounters.addGood).attend.MemoryOk := h
      simp only [State.takeIndividual]
      split
      · rename_i length
        refine (heard.carryOut (listed r rfl) length).of_store ?_
        generalize (r.carryOut p (s.count LinkCounters.addGood).attend).2 = response
        cases response <;> rfl
      · exact h
  | group =>
    cases k with
    | none => exact h
    | some r =>
      have counted : (s.count LinkCounters.addGood).MemoryOk := h
      simp only [State.takeGroup]
      split
      · rename_i taken
        exact counted.carryOut (listed r rfl) taken.2
      · exact h

theorem State.MemoryOk.abandonReply {s : State} (h : s.MemoryOk) : s.abandonReply.MemoryOk := by
  unfold State.abandonReply
  split
  case h_5 => exact h.boardReset _
  all_goals exact h

theorem State.endFrame_store (s : State) : s.endFrame.store = s.store := by
  unfold State.endFrame
  split <;> rfl

theorem State.lineBreak_store (s : State) : s.lineBreak.store = s.store := by
  unfold State.lineBreak
  split
  · exact s.endFrame_store
  · rfl

theorem State.passByte_store (s : State) (taken : List Byte) (b : Byte) : (s.passByte taken b).store = s.store := by
  simp only [State.passByte]
  split_ifs
  · exact s.endFrame_store
  · rfl
  · rfl

theorem State.MemoryOk.huntByte {s : State} (h : s.MemoryOk) (b : Byte) : (s.huntByte b).MemoryOk := by
  simp only [State.huntByte]
  split
  · split
    · exact h.abandonReply
    · exact h.abandonReply
  · exact h

/-- The second CRC byte of a good frame hands it to its owner. -/
theorem State.MemoryOk.requestByte {s : State} (h : s.MemoryOk) (taken : List Byte) (b : Byte) :
    (s.requestByte taken b).MemoryOk := by
  have hunting : (s.withReceiver .hunt).MemoryOk := h
  simp only [State.requestByte]
  split_ifs
  · exact h.of_store s.endFrame_store
  · simp only [State.completeRequest]
    split
    · exact hunting.takeFrame _ _ _ fun r => requestKindOf_listed
    · exact h
  · exact h

theorem State.MemoryOk.receive {s : State} (h : s.MemoryOk) (b : Byte) : (s.receive b).MemoryOk := by
  unfold State.receive
  split
  · split
    · exact h.huntByte b
    · exact h.requestByte _ b
    · exact h.of_store (s.passByte_store _ b)
  · exact h

theorem State.MemoryOk.receiveAll {s : State} (h : s.MemoryOk) (bytes : List Byte) : (s.receiveAll bytes).MemoryOk :=
  foldl_holds bytes (fun _ b ht => ht.receive b) h

theorem State.MemoryOk.request {s : State} (h : s.MemoryOk) (dst kind : Byte) {k : Option RequestKind} (p : List Byte)
    (listed : ∀ r, k = some r → r ∈ requestKinds) : (s.request dst kind k p).MemoryOk := by
  unfold State.request
  split
  · simp only [State.receiveRequest]
    split_ifs
    · exact h.abandonReply.takeFrame _ _ _ listed
    · exact h.abandonReply
    · exact h.abandonReply
    · exact h
  · exact h.receiveAll _

/-! ### Events, and every command -/

theorem State.taken_store (s : State) (n : Sock) (kind : ReportKind) : (s.taken n kind).store = s.store := by
  cases kind <;> simp [State.taken]

theorem State.takeNotices_store (n : Sock) : ∀ (k : Nat) (s : State), (State.takeNotices n k s).store = s.store
  | 0, _ => rfl
  | k + 1, s => by
    unfold State.takeNotices
    split
    · split
      · rw [State.takeNotices_store n k]; simp
      · rfl
    · rfl

theorem State.takeReport_store (s : State) (n : Sock) (kind : ReportKind) :
    (s.takeReport n kind (·.taken n kind)).store = s.store := by
  rcases s.takeReport_cases n kind (·.taken n kind) with ⟨-, e⟩ | ⟨-, e⟩ <;> rw [e]
  rw [State.takeNotices_store, State.taken_store, State.drop_store]

theorem State.occur_store (s : State) (e : Expiry) : (s.occur e).store = s.store := by
  unfold State.occur
  split
  · exact State.fires_keep State.store (by simp) _ _
  · rfl

theorem State.settled_store (s : State) : s.settled.store = s.store := State.fires_keep State.store (by simp) _ _

theorem State.beforeReport_store (s : State) : s.beforeReport.store = s.store := by
  obtain ⟨-, -, -, store, -⟩ := s.beforeReport_frame
  exact store

theorem State.seen_store (s : State) (c : Instr) : (s.seen c).store = s.store := by
  obtain ⟨x, e⟩ := s.seen_eq c
  rw [e]

theorem State.thermalTick_store (s : State) (readings : Vector Int 16) : (s.thermalTick readings).store = s.store := by
  have report : ∀ (t : State) n, (State.thermalReport s.sockets t n).store = t.store := fun t n => by
    simp only [State.thermalReport, State.limitReports_eq]
    split <;> rfl
  rw [State.thermalTick_eq, foldl_keeps State.store _ report, State.monitored, State.mapSockets_store, State.scale_store,
    State.demanded, State.mapSockets_store]

/-- A scrub may find a page CORRUPT, and leaves its content (R88, R89). -/
theorem State.secondTick_mem (s : State) : s.secondTick.store.mem = s.store.mem := by
  have timed : s.timed.store = s.store := s.timed_keeps State.store fun _ _ _ _ _ => rfl
  have silence : s.timed.scrub.silenceTick.store = s.timed.scrub.store := by rw [State.silenceTick_eq]
  rw [State.secondTick_eq, silence, (State.Handled.scrub s.timed).mem, timed]

theorem State.MemoryOk.exec {c : Instr} {s t : State} (h : s.MemoryOk) (ht : exec c s = .next t) : t.MemoryOk := by
  have settled : s.settled.MemoryOk := h.of_store s.settled_store
  cases hr : requestOfRow c with
  | some x =>
    obtain ⟨k, dst, p⟩ := x
    rw [exec_request hr] at ht
    cases ht
    have seen : (s.settled.seen c).MemoryOk := settled.of_store (s.settled.seen_store c)
    exact seen.request _ _ _ fun r e => Option.some.inj e ▸ requestOfRow_mem hr
  | none =>
  cases he : expiryOfRow c with
  | some e => rcases exec_expiry he s with h' | h' <;> (rw [h'] at ht; cases ht; exact h.of_store (s.occur_store _))
  | none =>
  cases hq : reportOfRow c with
  | some r =>
    rw [exec_report (n := r.socket) (kind := r.kind) hq] at ht
    cases ht
    exact h.of_store ((State.takeReport_store _ _ _).trans s.beforeReport_store)
  | none =>
  cases c <;> simp only [requestOfRow, expiryOfRow, reportOfRow, reduceCtorEq] at hr he hq <;>
    simp only [Machine.exec, execPowerOn, execIdentityLoadEnd, execSampleTick, execThermalTick, execSecondTick, execStoreUpset,
      execFrameGapTimeout, execFramingError, execOtherReplyPassed, execCrcErrorFrame, execFrameForOthers, execBadKindFrame,
      execReplyTransmitStart, execReplySent, execVectorStep, Host.Outcome.next.injEq] at ht <;> subst ht
  case powerOn => exact Mem.wf_reset
  case identityLoadEnd => split; exacts [settled, settled.of_store (by simp [State.endLoad])]
  case sampleTick => split; exacts [settled, settled.of_store (by simp [State.sampleTick])]
  case thermalTick => split; exacts [settled.of_store (State.thermalTick_store _ _), settled]
  case secondTick => split; exacts [settled, settled.of_mem (State.secondTick_mem _)]
  case storeUpset u => exact Store.wf_upset settled u
  case frameGapTimeout => exact (settled.receiveAll _).of_store (State.lineBreak_store _)
  case framingError => split; exacts [(settled.receiveAll _).of_store (State.lineBreak_store _), settled.receiveAll _]
  case otherReplyPassed => exact settled.receiveAll _
  case crcErrorFrame => exact settled.receiveAll _
  case frameForOthers => exact settled.request _ _ _ fun r => requestKindOf_listed
  case badKindFrame => exact settled.request _ _ _ fun r => requestKindOf_listed
  case replyTransmitStart => split <;> exact settled
  case replySent =>
    split
    · split
      · exact settled
      · exact State.MemoryOk.boardReset settled _
    · exact settled
  case vectorStep => split; exacts [settled.of_store (by simp [State.vectorStep_frame]), settled]

/-- Settles O55: the log and the memory, each kept by every command. -/
theorem everyStepKeepsStoreAndLog : Obligations.EveryStepKeepsStoreAndLog := by
  unfold Obligations.EveryStepKeepsStoreAndLog
  intro s t ht
  exact ⟨fun h => step_keeps (fun _ _ h => h.of_store rfl) (fun _ _ _ h ht => h.exec ht) h ht,
    fun h => step_keeps (fun _ _ h => h.of_log rfl) (fun _ _ _ h ht => h.exec ht) h ht⟩

end Sys2Proof.Machine
end

section
/-!
PROOFS. A vector period and an upset of the store (R78, R81, R82, R98, R103, R110).
-/

namespace Sys2Proof.Machine

/-! ### Words kept per page -/

theorem get_set_page {α : Type} (v : Vector α 64) (p q : Page) (x : α) :
    (v.set p.val x p.isLt).get q = if q = p then x else v.get q := by
  simp only [Vector.get_eq_getElem, Vector.getElem_set, Fin.ext_iff, eq_comm]

/-! ### A stored vector as it reads (R78, R81) -/

theorem Store.byteAt_vector (t : Store) (i : Nat) {k : Nat} (hk : k < 5) :
    byteAt (t.vector i) k = if t.condition (pageOf i) = .unloaded then 0#8 else Mem.read t.mem (5 * i + k) := by
  unfold Store.vector
  split
  · rw [byteAt, List.getD_replicate _ hk]
  · simp [byteAt, Mem.readAll, hk]

/-- The drive pattern stands low byte first (R78). -/
theorem driveOf_eq (v : List Byte) : driveOf v = byteAt v 1 ++ byteAt v 0 := by
  refine BitVec.eq_of_toNat_eq ?_
  have low := (byteAt v 0).isLt
  have high := (byteAt v 1).isLt
  rw [BitVec.toNat_append, ← Nat.shiftLeft_add_eq_or_of_lt low, Nat.shiftLeft_eq]
  simp only [driveOf, set16, nat16, nat8, BitVec.toNat_ofNat, Nat.zero_add]
  omega

/-! ### The comparison of a vector (R110) -/

section compare
variable (l : Lane) (v : List Byte) (response : Byte) (made : Byte → Capture)

theorem Lane.compareVector_off (off : compareOf v = false ∨ l.mask v = 0#8) : l.compareVector v response made = l := by
  refine if_neg fun ⟨compared, lines⟩ => ?_
  rcases off with off | off
  · rw [off] at compared; cases compared
  · exact lines off

theorem Lane.compareVector_on (compared : compareOf v = true) (lines : l.mask v ≠ 0#8) :
    l.compareVector v response made =
      { l with result :=
          { compared := true,
            candidate :=
              if l.result.candidate.isSome then l.result.candidate
              else if (response ^^^ expectedOf v) &&& l.mask v = 0#8 then none else some (made (l.mask v)) } } := by
  have judged : (if miscompare v (l.mask v) response = true then some (made (l.mask v)) else none) =
      if (response ^^^ expectedOf v) &&& l.mask v = 0#8 then none else some (made (l.mask v)) := by
    by_cases agrees : (response ^^^ expectedOf v) &&& l.mask v = 0#8 <;> simp [miscompare, agrees]
  rw [← judged]
  exact if_pos ⟨compared, lines⟩

/-- A comparison changes the pass result alone. -/
theorem Lane.compareVector_counts :
    (l.compareVector v response made).comparedPasses = l.comparedPasses ∧
      (l.compareVector v response made).captures = l.captures := by
  simp only [Lane.compareVector]
  split <;> exact ⟨rfl, rfl⟩

end compare

/-! ### A vector period (R98, R103, R110) -/

theorem exec_vectorStep {s : State} (due : s.due = []) {e : EntryNo} (current : s.engine.current = some e)
    (responses : Vector Byte 16) : exec (.vectorStep responses) s = .next (s.vectorStep e responses) := by
  simp only [exec, execVectorStep, s.settled_of_none due, current]

theorem exec_vectorStep_none {s : State} (due : s.due = []) (none : s.engine.current = none) (responses : Vector Byte 16) :
    exec (.vectorStep responses) s = .next s := by
  simp only [exec, execVectorStep, s.settled_of_none due, none]

theorem exec_storeUpset {s : State} (due : s.due = []) (u : Upset) :
    exec (.storeUpset u) s = .next { s with store := s.store.upset u } := by
  simp only [exec, execStoreUpset, s.settled_of_none due]

theorem State.vectorStep_lane (s : State) (e : EntryNo) (responses : Vector Byte 16) (n : Sock) :
    ((s.vectorStep e responses).socket n).lane =
      if SocketSet.has s.engine.participants n then
        (s.socket n).lane.compareVector (s.store.vector s.engine.vectorIndex) (responses.get n) fun mask =>
          { loopIndex := s.engine.loopIndex, entry := e, vector := s.engine.vectorIndex, observed := responses.get n,
            expected := expectedOf (s.store.vector s.engine.vectorIndex), mask }
      else (s.socket n).lane := by
  rw [State.vectorStep_socket]
  split <;> rfl

theorem State.vectorStep_scu (s : State) (e : EntryNo) (responses : Vector Byte 16) (n : Sock) :
    ((s.vectorStep e responses).socket n).scu = (s.socket n).scu := by
  rw [State.vectorStep_socket]
  split <;> rfl

theorem State.vectorStep_engine (s : State) (e : EntryNo) (responses : Vector Byte 16) :
    (s.vectorStep e responses).engine =
      { s.engine with stimulus := driveOf (s.store.vector s.engine.vectorIndex), applied := s.engine.applied + 1 } := by
  simp [State.vectorStep]

theorem State.vectorStep_due (s : State) (e : EntryNo) (responses : Vector Byte 16) :
    (s.vectorStep e responses).due = if s.engine.applied + 1 = s.engine.held.length then s.due ++ [.passEnd] else s.due := by
  simp [State.vectorStep]

/-- Settles O37. -/
theorem vectorsAndUpsets : Obligations.VectorsAndUpsets := by
  unfold Obligations.VectorsAndUpsets
  refine ⟨fun e responses s due current => ?_, fun responses s due none => ?_, fun a v s due ok => ?_, fun p w s due => ?_⟩
  · intro index byte expected compared
    have byte_eq : ∀ k, k < 5 → byteAt (s.store.vector s.engine.vectorIndex) k = byte k := fun k hk =>
      s.store.byteAt_vector _ hk
    obtain ⟨-, -, -, -, -, store, -, -, -, -, -, -, -, reports, -⟩ := s.vectorStep_frame e responses
    refine ⟨_, exec_vectorStep due current responses, ?_, ?_, store, reports, fun n => ?_⟩
    · rw [State.vectorStep_engine, driveOf_eq, byte_eq 0 (by decide), byte_eq 1 (by decide)]
    · rw [State.vectorStep_due, due]
      split <;> simp [*]
    · intro l l' mask
      have expected_eq : expectedOf (s.store.vector s.engine.vectorIndex) = expected := byte_eq 2 (by decide)
      have mask_eq : l.mask (s.store.vector s.engine.vectorIndex) = mask :=
        congrArg (· &&& l.heldLanes) (byte_eq 3 (by decide))
      have compared_eq : compareOf (s.store.vector s.engine.vectorIndex) = compared :=
        congrArg (·.getLsbD 0) (byte_eq 4 (by decide))
      have lane : l' = if SocketSet.has s.engine.participants n then _ else l := s.vectorStep_lane e responses n
      refine ⟨s.vectorStep_scu e responses n, ?_, ?_, fun out => ?_, fun takes off => ?_, fun takes on lines => ?_⟩
      · rw [lane]; split; exacts [(l.compareVector_counts _ _ _).1, rfl]
      · rw [lane]; split; exacts [(l.compareVector_counts _ _ _).2, rfl]
      · rw [lane, out]; rfl
      · rw [lane, if_pos takes, Lane.compareVector_off]
        rwa [compared_eq, mask_eq]
      · rw [← compared_eq] at on
        rw [← mask_eq] at lines
        rw [lane, if_pos takes, Lane.compareVector_on _ _ _ _ on lines, mask_eq, expected_eq]
        refine ⟨rfl, fun seen => if_pos seen, fun none => ?_⟩
        rw [none]
        rfl
  · exact exec_vectorStep_none due none responses
  · exact ⟨_, exec_storeUpset due _, rfl, rfl, rfl, rfl, rfl, fun x => Mem.read_write ok a.val x v⟩
  · exact ⟨_, exec_storeUpset due _, rfl, rfl, rfl, fun q => get_set_page _ p q w⟩

end Sys2Proof.Machine
end

section
/-!
PROOFS. Load Vectors: what a load leaves of every byte, page and check word of the store (R79, R81, R83, R84).
-/

namespace Sys2Proof.Machine

/-! ### Step 1 of R84: UNLOADED pages zeroed -/

theorem Store.zeroPage_frame (t : Store) (p : Page) :
    (t.zeroPage p).conditions = t.conditions ∧ (t.zeroPage p).checks = t.checks ∧ (t.zeroPage p).scrub = t.scrub ∧
      (t.zeroPage p).lastScrubbed = t.lastScrubbed := by
  unfold Store.zeroPage
  split <;> exact ⟨rfl, rfl, rfl, rfl⟩

theorem Store.read_zeroPage {t : Store} (h : Mem.wf t.mem) (p : Page) (x : Nat) :
    Mem.read (t.zeroPage p).mem x = if x / 320 = p.val ∧ t.condition p = .unloaded then 0#8 else Mem.read t.mem x := by
  by_cases unloaded : t.condition p = .unloaded
  · have page : 320 * p.val ≤ x ∧ x < 320 * p.val + 320 ↔ x / 320 = p.val := by omega
    have fits : 320 * p.val + (List.replicate 320 0#8).length ≤ 20480 := by
      rw [List.length_replicate]; omega
    rw [Store.zeroPage, if_pos unloaded]
    dsimp only
    rw [Mem.read_writeAll h _ _ fits, List.length_replicate]
    refine ite_congr (by rw [page]; simp [unloaded]) (fun within => ?_) fun _ => rfl
    rw [List.getD_replicate]
    omega
  · rw [Store.zeroPage, if_neg unloaded, if_neg fun both => unloaded both.2]

/-- The pages of a list zeroed where they are UNLOADED. -/
def Store.zeroPages (t : Store) (ps : List Page) : Store := ps.foldl Store.zeroPage t

theorem Store.zeroPages_frame (ps : List Page) : ∀ t : Store,
    (t.zeroPages ps).conditions = t.conditions ∧ (t.zeroPages ps).checks = t.checks ∧ (t.zeroPages ps).scrub = t.scrub ∧
      (t.zeroPages ps).lastScrubbed = t.lastScrubbed := by
  induction ps with
  | nil => exact fun t => ⟨rfl, rfl, rfl, rfl⟩
  | cons p ps ih =>
    intro t
    obtain ⟨conditions, checks, scrub, last⟩ := t.zeroPage_frame p
    obtain ⟨conditions', checks', scrub', last'⟩ := ih (t.zeroPage p)
    exact ⟨conditions'.trans conditions, checks'.trans checks, scrub'.trans scrub, last'.trans last⟩

theorem Store.wf_zeroPages (ps : List Page) : ∀ {t : Store}, Mem.wf t.mem → Mem.wf (t.zeroPages ps).mem := by
  induction ps with
  | nil => exact id
  | cons p ps ih => exact fun h => ih (Store.wf_zeroPage h p)

theorem Store.read_zeroPages (ps : List Page) (x : Nat) : ∀ {t : Store}, Mem.wf t.mem →
    Mem.read (t.zeroPages ps).mem x =
      if ∃ p ∈ ps, x / 320 = p.val ∧ t.condition p = .unloaded then 0#8 else Mem.read t.mem x := by
  induction ps with
  | nil => intro t h; simp [Store.zeroPages]
  | cons p ps ih =>
    intro t h
    have condition : (t.zeroPage p).condition = t.condition :=
      funext fun q => congrArg (·.get q) (t.zeroPage_frame p).1
    change Mem.read ((t.zeroPage p).zeroPages ps).mem x = _
    rw [ih (Store.wf_zeroPage h p), condition, Store.read_zeroPage h]
    simp only [List.mem_cons, exists_eq_or_imp]
    by_cases later : ∃ q ∈ ps, x / 320 = q.val ∧ t.condition q = .unloaded
    · rw [if_pos later, if_pos (.inr later)]
    · rw [if_neg later]
      exact if_congr (or_iff_left later).symm rfl rfl

/-! ### Step 3 of R84: the touched pages sealed -/

/-- The pages of a list sealed. -/
def Store.sealPages (t : Store) (ps : List Page) : Store := ps.foldl Store.sealPage t

theorem Store.sealPages_frame (ps : List Page) : ∀ t : Store,
    (t.sealPages ps).mem = t.mem ∧ (t.sealPages ps).scrub = t.scrub ∧ (t.sealPages ps).lastScrubbed = t.lastScrubbed := by
  induction ps with
  | nil => exact fun t => ⟨rfl, rfl, rfl⟩
  | cons p ps ih => exact fun t => ih (t.sealPage p)

theorem Store.pageCrc_congr {t u : Store} (mem : t.mem = u.mem) (p : Page) : t.pageCrc p = u.pageCrc p := by
  rw [Store.pageCrc, mem, Store.pageCrc]

/-- A sealed page is GOOD with the check word of its content; any other is as it was. -/
theorem Store.sealPages_page (ps : List Page) (q : Page) : ∀ t : Store,
    (t.sealPages ps).condition q = (if q ∈ ps then .good else t.condition q) ∧
      (t.sealPages ps).checks.get q = if q ∈ ps then t.pageCrc q else t.checks.get q := by
  induction ps with
  | nil => exact fun t => ⟨rfl, rfl⟩
  | cons p ps ih =>
    intro t
    have condition : (t.sealPage p).condition q = if q = p then .good else t.condition q := get_set_page _ p q _
    have check : (t.sealPage p).checks.get q = if q = p then t.pageCrc p else t.checks.get q := get_set_page _ p q _
    obtain ⟨conditions, checks⟩ := ih (t.sealPage p)
    change ((t.sealPage p).sealPages ps).condition q = _ ∧ ((t.sealPage p).sealPages ps).checks.get q = _
    rw [conditions, checks, condition, check, Store.pageCrc_congr (t.mem_sealPage p)]
    by_cases here : q = p
    · subst here; simp
    · simp [here]

/-! ### The stored form (R84, R183) -/

theorem storedForm_getD (n : Nat) : ∀ (bytes : List Byte) (i : Nat), bytes.length = 5 * n →
    (storedForm bytes).getD i 0#8 = if i % 5 = 4 then bytes.getD i 0#8 &&& 1#8 else bytes.getD i 0#8 := by
  induction n with
  | zero =>
    intro bytes i h
    obtain rfl : bytes = [] := by simpa using h
    simp [storedForm]
  | succ n ih =>
    intro bytes i h
    match bytes, h with
    | d0 :: d1 :: e :: c :: f :: rest, h =>
      match i with
      | 0 | 1 | 2 | 3 | 4 => rfl
      | i + 5 =>
        have later := ih rest i (by simp only [List.length_cons] at h; omega)
        simpa [storedForm] using later

/-! ### A load (R84) -/

theorem mem_touched {a b : Nat} {p : Page} : p ∈ touched a b ↔ a / 64 ≤ p.val ∧ p.val ≤ b / 64 := by simp [touched]

/-- A load, step by step. -/
theorem Store.load_eq (t : Store) (start : Nat) {count : Nat} {bytes : List Byte} (length : bytes.length = 5 * count) :
    t.load start bytes =
      ({ t.zeroPages (touched start (start + count - 1)) with
        mem := Mem.writeAll (t.zeroPages (touched start (start + count - 1))).mem (5 * start) (storedForm bytes) } : Store).sealPages
          (touched start (start + count - 1)) := by
  have vectors : bytes.length / 5 = count := by omega
  rw [Store.load, vectors]
  rfl

section load
variable {t : Store} {start count : Nat} {bytes : List Byte} (length : bytes.length = 5 * count)
include length

theorem Store.load_frame : (t.load start bytes).scrub = t.scrub ∧ (t.load start bytes).lastScrubbed = t.lastScrubbed := by
  obtain ⟨-, -, scrub, last⟩ := Store.zeroPages_frame (touched start (start + count - 1)) t
  rw [t.load_eq start length]
  obtain ⟨-, scrub', last'⟩ := Store.sealPages_frame (touched start (start + count - 1)) _
  rw [scrub', last']
  exact ⟨scrub, last⟩

theorem Store.read_load (h : Mem.wf t.mem) (fits : start + count ≤ 4096) (x : Nat) :
    Mem.read (t.load start bytes).mem x =
      if 5 * start ≤ x ∧ x < 5 * (start + count) then
        (if x % 5 = 4 then bytes.getD (x - 5 * start) 0#8 &&& 1#8 else bytes.getD (x - 5 * start) 0#8)
      else if start / 64 ≤ x / 320 ∧ x / 320 ≤ (start + count - 1) / 64 ∧ t.condition (Fin.ofNat 64 (x / 320)) = .unloaded then 0#8
      else Mem.read t.mem x := by
  have stored : (storedForm bytes).length = 5 * count := storedForm_length bytes count length
  have zeroed : (∃ p ∈ touched start (start + count - 1), x / 320 = p.val ∧ t.condition p = .unloaded) ↔
      start / 64 ≤ x / 320 ∧ x / 320 ≤ (start + count - 1) / 64 ∧ t.condition (Fin.ofNat 64 (x / 320)) = .unloaded := by
    constructor
    · rintro ⟨p, touched, page, unloaded⟩
      have same : Fin.ofNat 64 (x / 320) = p := by rw [page]; exact Fin.ofNat_val_eq_self p
      obtain ⟨first, last⟩ := mem_touched.mp touched
      exact ⟨page ▸ first, page ▸ last, same ▸ unloaded⟩
    · rintro ⟨first, last, unloaded⟩
      have page : x / 320 = (Fin.ofNat 64 (x / 320)).val := (Nat.mod_eq_of_lt (by omega)).symm
      exact ⟨_, mem_touched.mpr ⟨page ▸ first, page ▸ last⟩, page, unloaded⟩
  rw [t.load_eq start length, (Store.sealPages_frame _ _).1]
  dsimp only
  rw [Mem.read_writeAll (Store.wf_zeroPages _ h) _ _ (by rw [stored]; omega), stored, Store.read_zeroPages _ _ h]
  refine ite_congr (propext (by omega)) (fun within => ?_) fun _ => if_congr zeroed rfl rfl
  rw [storedForm_getD count bytes _ length]
  exact if_congr (by omega) rfl rfl

/-- A page after a load: GOOD with the check word of its content where a vector touches it, as it was elsewhere. -/
theorem Store.load_page (q : Page) :
    (t.load start bytes).condition q = (if q ∈ touched start (start + count - 1) then .good else t.condition q) ∧
      (t.load start bytes).checks.get q =
        if q ∈ touched start (start + count - 1) then (t.load start bytes).pageCrc q else t.checks.get q := by
  obtain ⟨conditions, checks, -⟩ := Store.zeroPages_frame (touched start (start + count - 1)) t
  have condition : (t.zeroPages (touched start (start + count - 1))).condition q = t.condition q := congrArg (·.get q) conditions
  rw [t.load_eq start length, Store.pageCrc_congr (Store.sealPages_frame _ _).1, ← checks, ← condition]
  exact Store.sealPages_page _ q _

end load

/-! ### The request (R83) -/

theorem loadVectorsKind_carryOut {start count : Nat} {bytes : List Byte} (inField : start ≤ 65535) (length : bytes.length = 5 * count)
    (any : 1 ≤ count) (s : State) :
    loadVectorsKind.carryOut (le16 start ++ bytes) s =
      if s.engine.state ≠ .idle then (s, .now .busy [])
      else if start + count ≤ 4096 then
        ({ s with store := s.store.load start bytes }, .now .ok ((s.store.load start bytes).loadBytes start count))
      else (s, .now .badArg []) := by
  have first : nat16 (le16 start ++ bytes) 0 = start := by rw [nat16_le16]; omega
  have rest : (le16 start ++ bytes).drop 2 = bytes := rfl
  have vectors : bytes.length / 5 = count := by omega
  simp only [loadVectorsKind, first, rest, vectors]
  refine if_congr Iff.rfl rfl (if_congr ?_ rfl rfl)
  omega

theorem loadLength_load {start count : Nat} {bytes : List Byte} (length : bytes.length = 5 * count) (any : 1 ≤ count)
    (most : count ≤ 48) : loadVectorsKind.lengthOk (le16 start ++ bytes).length = true := by
  have total : (le16 start ++ bytes).length = 5 * count + 2 := by simp [le16, length]
  rw [total]
  simp only [loadVectorsKind, loadLength, Bool.and_eq_true, decide_eq_true_eq, beq_iff_eq]
  omega

/-- The reply to a load carries the check words of the pages it touched (R84, section 11.6). -/
theorem Store.loadBytes_eq {t : Store} {start count : Nat} (fits : start + count ≤ 4096) (any : 1 ≤ count)
    (good : ∀ q ∈ touched start (start + count - 1), t.condition q = .good) :
    t.loadBytes start count =
      [BitVec.ofNat 8 (start / 64), BitVec.ofNat 8 ((start + count - 1) / 64)] ++
        ((touched start (start + count - 1)).map fun q => le16 (t.checks.get q).toNat).flatten := by
  have first : (pageOf start).val = start / 64 := Nat.mod_eq_of_lt (by omega)
  have last : (pageOf (start + count - 1)).val = (start + count - 1) / 64 := Nat.mod_eq_of_lt (by omega)
  have words : ∀ q ∈ touched start (start + count - 1), le16 (t.checkWord q).toNat = le16 (t.checks.get q).toNat := fun q hq => by
    rw [Store.checkWord, good q hq, if_neg (by decide)]
  rw [Store.loadBytes, first, last, List.map_congr_left words]

/-- Settles O43: the request's answer is that of its owner, and a load is read off byte by byte and page by page. -/
theorem vectorsAreLoaded : Obligations.VectorsAreLoaded := by
  unfold Obligations.VectorsAreLoaded
  intro dst start count bytes s h ok inField any most length last touches
  have short : (le16 start ++ bytes).length ≤ 250 := by
    have total : (le16 start ++ bytes).length = 5 * count + 2 := by simp [le16, length]
    omega
  have carry := loadVectorsKind_carryOut inField length any s.heard
  rw [State.heard_engine, State.heard_store] at carry
  have row : ∀ {t : State} {r : Response}, loadVectorsKind.carryOut (le16 start ++ bytes) s.heard = (t, r) →
      exec (.loadVectors dst (le16 start ++ bytes)) s = .next (t.respond 0x30#8 r) :=
    h.exec_plain (c := .loadVectors dst _) rfl rfl (loadLength_load length any most) short
  refine ⟨fun busy => ?_, fun idle above => ?_, fun idle fits => ?_⟩
  · rw [if_pos busy] at carry
    exact row carry
  · rw [if_neg (not_not.mpr idle), if_neg (by omega)] at carry
    exact row carry
  · rw [if_neg (not_not.mpr idle), if_pos fits] at carry
    obtain ⟨scrub, lastScrubbed⟩ := Store.load_frame (t := s.store) (start := start) length
    have page := Store.load_page (t := s.store) (start := start) length
    have within : ∀ q : Page, q ∈ touched start (start + count - 1) ↔ touches q.val := fun q => mem_touched
    refine ⟨_, row carry, rfl, rfl, rfl, rfl, scrub, lastScrubbed, Store.read_load length ok fits, fun q here => ?_,
      fun q elsewhere => ?_, ?_⟩
    · obtain ⟨condition, check⟩ := page q
      rw [if_pos ((within q).mpr here)] at condition check
      exact ⟨condition, check⟩
    · obtain ⟨condition, check⟩ := page q
      rw [if_neg fun there => elsewhere ((within q).mp there)] at condition check
      exact ⟨condition, check⟩
    · have pages : touched start (start + count - 1) = (List.finRange 64).filter fun q => decide (touches q.val) :=
        List.filter_congr fun q _ => (Bool.decide_and _ _).symm
      have good : ∀ q ∈ touched start (start + count - 1), (s.store.load start bytes).condition q = .good := fun q here =>
        (page q).1.trans (if_pos here)
      rw [← pages]
      exact congrArg (fun payload => ReplySlot.pending (s.heard.assemble 0x30#8 .ok payload) none)
        (Store.loadBytes_eq fits any good)

end Sys2Proof.Machine
end

section
/-!
PROOFS. The engine stays sound (R97, R98, R105 to R107): a part that loads its identity stays quiet through every command, the changes
that the engine does not notice, and the SCU's operations up to a report taken.
-/

namespace Sys2Proof.Machine

/-! ### A part that loads its identity stays quiet (R23, R53, R179) -/

/-- A change that brings no socket to QUEUED or to a powered state in a load keeps the part quiet. -/
theorem State.Quiet.of_kept {s t : State} (h : s.Quiet) (k : s.HeatKept t) : t.Quiet := fun loading n => by
  rw [k.phase] at loading
  by_contra busy
  rw [Bool.not_eq_false] at busy
  exact absurd (k.busy loading n busy) (by rw [h loading n]; decide)

/-- Where no socket, feed or phase changed the part is as quiet as before. -/
theorem State.Quiet.of_sockets {s t : State} (h : s.Quiet) (sockets : t.sockets = s.sockets) (phase : t.phase = s.phase) :
    t.Quiet := h.of_states phase fun n => by rw [State.socket_congr sockets]

/-- The link hands no request to its owner in a load, so what an owner does cannot disturb one. -/
theorem State.Quiet.lineKeeps : LineKeeps State.Quiet where
  reply _ _ h := h.of_sockets rfl rfl
  count _ _ h := h.of_sockets rfl rfl
  attend _ h := h.of_sockets rfl rfl
  receiver _ _ h := h.of_sockets rfl rfl
  reset s retain _ _ n := by rw [State.boardReset_socket]; exact SocketState.afterReset_not_busy _
  owner _ _ _ running ha _ loading := absurd (ha.requested.phase.trans running) loading

theorem State.Quiet.exec {c : Instr} {s t : State} (h : s.Quiet) (ht : exec c s = .next t) : t.Quiet := by
  have settled := h.of_kept (.settled s)
  exact exec_ind ht
    (power := fun _ => State.reset_quiet.of_sockets rfl rfl)
    (expiry := fun e => h.of_kept (.occur s e))
    (report := fun n kind => (h.of_kept (.beforeReport s)).of_kept (.takeReport _ n kind))
    (settled := settled)
    (seen := fun _ => settled.of_sockets rfl rfl)
    (load := fun _ _ loading => absurd rfl loading)
    (sample := fun r => settled.of_kept (.sampleTick _ r))
    (thermal := fun r => settled.of_states (State.BoardKept.thermalTick _ r).phase fun n => by
      rw [State.thermalTick_socket]; exact (Socket.ticked_scu _ _ _).1)
    (second := settled.of_kept (.secondTick _))
    (vector := fun e r => settled.of_kept (.vectorStep _ e r))
    (upset := fun _ => settled.of_sockets rfl rfl)
    (line := State.Quiet.lineKeeps)

/-! ### The engine in step with the sockets -/

/-- The soundness of the engine, the quiet of a load aside. -/
structure State.InStep (s : State) : Prop where
  powered : ∀ n, SocketSet.has s.engine.powered n = (s.socket n).scu.state.powered
  rateOne : ∀ n, s.permits n .r1 = true
  idleRate : s.engine.state = .idle → s.engine.rate = s.highestRate
  idle : s.engine.state = .idle → s.engine.current = none ∧ s.engine.repeatsLeft = 0 ∧ s.engine.participants = 0#16 ∧
    s.engine.stimulus = 0#16
  running : s.engine.state ≠ .idle → s.engine.current.isSome = true
  permitted : s.engine.state ≠ .idle → ∀ n, (s.socket n).scu.state = .run → s.permits n s.engine.rate = true
  takePart : ∀ n, SocketSet.has s.engine.participants n = true → (s.socket n).scu.state = .run

theorem State.engineOk_iff (s : State) : s.EngineOk ↔ s.Quiet ∧ s.InStep :=
  ⟨fun h => ⟨h.quiet, h.powered, h.rateOne, h.idleRate, h.idle, h.running, h.permitted, h.takePart⟩,
    fun ⟨quiet, h⟩ => ⟨quiet, h.powered, h.rateOne, h.idleRate, h.idle, h.running, h.permitted, h.takePart⟩⟩

/-- Every powered socket permits the highest rate, since rate 1 is in every rate set (R26, R107). -/
theorem State.InStep.permits_highest {s : State} (h : s.InStep) {n : Sock} (powered : (s.socket n).scu.state.powered = true) :
    s.permits n s.highestRate = true := by
  rcases s.highestRate_isHighest.1 with lowest | all
  · rw [lowest]; exact h.rateOne n
  · exact all n ((h.powered n).trans powered)

/-- Every socket in RUN permits the rate in force, whether the engine is IDLE or not. -/
theorem State.InStep.permits_rate {s : State} (h : s.InStep) {n : Sock} (run : (s.socket n).scu.state = .run) :
    s.permits n s.engine.rate = true := by
  by_cases idle : s.engine.state = .idle
  · rw [h.idleRate idle]; exact h.permits_highest (by rw [run]; rfl)
  · exact h.permitted idle n run

/-! ### Changes that the engine does not notice -/

/-- A socket shows the engine the same as before: its state and its rate set stand, or it is powered neither time and keeps rate 1. -/
def Socket.ShowsSame (k k' : Socket) : Prop :=
  (k'.scu.state = k.scu.state ∧ k'.rail.profile.rates = k.rail.profile.rates) ∨
  (k.scu.state.powered = false ∧ k'.scu.state.powered = false ∧
    (k.rail.profile.rates.getLsbD 0 = true → k'.rail.profile.rates.getLsbD 0 = true))

theorem Socket.ShowsSame.refl (k : Socket) : k.ShowsSame k := .inl ⟨rfl, rfl⟩

/-- Between `s` and `t` the engine stands, and every socket shows it the same. -/
structure State.EngineKept (s t : State) : Prop where
  engine : t.engine = s.engine
  sockets : ∀ n, (s.socket n).ShowsSame (t.socket n)

section kept
variable {s t : State}

/-- A socket that is powered shows the engine its state and its rate set as before. -/
theorem State.EngineKept.of_powered (k : s.EngineKept t) {n : Sock}
    (powered : (s.socket n).scu.state.powered = true ∨ (t.socket n).scu.state.powered = true) :
    (t.socket n).scu.state = (s.socket n).scu.state ∧ t.permits n = s.permits n := by
  rcases k.sockets n with ⟨state, rates⟩ | ⟨before, after, -⟩
  · exact ⟨state, by funext r; rw [State.permits, State.permits, rates]⟩
  · rw [before, after] at powered
    exact absurd powered (by decide)

theorem State.EngineKept.powered (k : s.EngineKept t) (n : Sock) :
    (t.socket n).scu.state.powered = (s.socket n).scu.state.powered := by
  rcases k.sockets n with ⟨state, -⟩ | ⟨before, after, -⟩
  · rw [state]
  · rw [before, after]

theorem State.InStep.highestRate_kept (h : s.InStep) (k : s.EngineKept t) : t.highestRate = s.highestRate := by
  have all : ∀ r, t.allPermit r = s.allPermit r := fun r => by
    rw [Bool.eq_iff_iff, State.allPermit_iff, State.allPermit_iff, k.engine]
    refine forall_congr' fun n => imp_congr_right fun powered => ?_
    rw [h.powered] at powered
    rw [(k.of_powered (.inl powered)).2]
  simp only [State.highestRate, all]

/-- Such a change leaves the engine in step. -/
theorem State.InStep.of_kept (h : s.InStep) (k : s.EngineKept t) : t.InStep where
  powered n := by rw [k.engine, k.powered]; exact h.powered n
  rateOne n := by
    rcases k.sockets n with ⟨-, rates⟩ | ⟨-, -, one⟩
    · rw [State.permits, rates]; exact h.rateOne n
    · exact one (h.rateOne n)
  idleRate idle := by rw [h.highestRate_kept k, k.engine]; exact h.idleRate (k.engine ▸ idle)
  idle idle := by rw [k.engine] at idle ⊢; exact h.idle idle
  running busy := by rw [k.engine] at busy ⊢; exact h.running busy
  permitted busy n run := by
    obtain ⟨state, permits⟩ := k.of_powered (n := n) (.inr (by rw [run]; rfl))
    rw [k.engine] at busy ⊢
    rw [permits]
    exact h.permitted busy n (state ▸ run)
  takePart n part := by
    rw [k.engine] at part
    have run := h.takePart n part
    rw [(k.of_powered (n := n) (.inl (by rw [run]; rfl))).1, run]

/-- A change of no socket's state and no rate set, the engine standing. -/
theorem State.EngineKept.of_eq (engine : t.engine = s.engine)
    (socket : ∀ n, (t.socket n).scu.state = (s.socket n).scu.state ∧
      (t.socket n).rail.profile.rates = (s.socket n).rail.profile.rates) : s.EngineKept t :=
  ⟨engine, fun n => .inl (socket n)⟩

/-- Only what stands beside the sockets and the engine changed. -/
theorem State.EngineKept.of_sockets (sockets : t.sockets = s.sockets) (engine : t.engine = s.engine) : s.EngineKept t :=
  .of_eq engine fun n => by rw [State.socket_congr sockets]; exact ⟨rfl, rfl⟩

/-- What a request or a report leaves of the settings, where it moves no socket and leaves the engine alone. -/
theorem State.EngineKept.of_handled (h : s.Handled t) (engine : t.engine = s.engine)
    (state : ∀ n, (t.socket n).scu.state = (s.socket n).scu.state) : s.EngineKept t :=
  .of_eq engine fun n => ⟨state n, congrArg RailProfile.rates (h.sockets n).railProfile⟩

end kept

theorem State.EngineKept.refl (s : State) : s.EngineKept s := .of_sockets rfl rfl

theorem State.EngineKept.modSocket (s : State) (n : Sock) {f : Socket → Socket}
    (shows : (s.socket n).ShowsSame (f (s.socket n)) := by exact .inl ⟨rfl, rfl⟩) : s.EngineKept (s.modSocket n f) where
  engine := rfl
  sockets m := by
    rw [State.modSocket_socket]
    split
    · rename_i e; subst e; exact shows
    · exact .refl _

theorem State.EngineKept.modScu (s : State) (n : Sock) {f : Record → Record}
    (state : ∀ r, (f r).state = r.state := by intro r; rfl) : s.EngineKept (s.modScu n f) :=
  .modSocket s n (.inl ⟨state _, rfl⟩)

theorem State.EngineKept.modRail (s : State) (n : Sock) {f : Rail → Rail}
    (profile : ∀ r, (f r).profile = r.profile := by intro r; rfl) : s.EngineKept (s.modRail n f) :=
  .modSocket s n (.inl ⟨rfl, congrArg RailProfile.rates (profile _)⟩)

theorem State.EngineKept.modAccount (s : State) (n : Sock) (f : Account → Account) : s.EngineKept (s.modAccount n f) :=
  .modSocket s n

theorem State.EngineKept.mapSockets (s : State) {f : Sock → Socket → Socket}
    (shows : ∀ n k, Socket.ShowsSame k (f n k) := by intro n k; exact .inl ⟨rfl, rfl⟩) : s.EngineKept (s.mapSockets f) where
  engine := by simp
  sockets m := by rw [State.mapSockets_socket]; exact shows m _

theorem State.EngineKept.modFeed (s : State) (f : FeedId) (g : Feed → Feed) : s.EngineKept (s.modFeed f g) :=
  .of_sockets (by simp) (by simp)

theorem State.EngineKept.raise (s : State) (e : EventFlag) (x : SocketSet) : s.EngineKept (s.raise e x) := .of_sockets rfl rfl

theorem State.EngineKept.send (s : State) (n : Sock) (k : ReportKind) : s.EngineKept (s.send n k) := .of_sockets rfl rfl

theorem State.EngineKept.drop (s : State) (r : Report) : s.EngineKept (s.drop r) := .of_sockets rfl rfl

theorem State.EngineKept.evaluate (s : State) (f : FeedId) : s.EngineKept (s.evaluate f) :=
  .of_handled (.evaluate s f) (by simp) fun n => by rw [State.evaluate_scu]

theorem State.EngineKept.takeOff (s : State) (n : Sock) : s.EngineKept (s.takeOff n) :=
  .of_handled (.takeOff s n) (by simp) fun m => by
    simp only [State.takeOff, State.modFeed_socket, State.modRail_socket]
    split
    · rename_i e; subst e; rfl
    · rfl

theorem State.EngineKept.accountFailure (s : State) (n : Sock) (c : Cause) (d : SocketState) :
    s.EngineKept (s.accountFailure n c d) :=
  .of_eq (by simp) fun m => by
    rw [State.accountFailure_socket]
    split
    · rename_i e; subst e; exact ⟨rfl, rfl⟩
    · exact ⟨rfl, rfl⟩

/-! ### Moves (R2, R105, R107) -/

/-- After a move of `n` to `st` the powered set follows, and `n` takes no part (R105). -/
theorem State.move_has (s : State) (n : Sock) (st : SocketState) (m : Sock) :
    SocketSet.has (s.move n st).engine.powered m = (if m = n then st.powered else SocketSet.has s.engine.powered m) ∧
    SocketSet.has (s.move n st).engine.participants m = (SocketSet.has s.engine.participants m && !decide (m = n)) := by
  obtain ⟨powered, participants, -⟩ := s.move_sets n st
  rw [powered, participants]
  refine ⟨?_, SocketSet.has_without _ _ _⟩
  unfold Engine.follow
  by_cases e : m = n <;> cases st.powered <;> simp [e]

/-- A move keeps the engine in step; one to RUN while the engine runs needs the rate in force to be permitted (R8). -/
theorem State.InStep.move {s : State} (h : s.InStep) (n : Sock) {st : SocketState}
    (may : st = .run → s.engine.state = .idle ∨ s.permits n s.engine.rate = true) : (s.move n st).InStep := by
  obtain ⟨-, -, state, -, -, current, -, -, repeatsLeft, -, stimulus⟩ := s.move_sets n st
  have has := s.move_has n st
  have permits := s.permits_move n st
  have socket : ∀ m, ((s.move n st).socket m).scu.state = if m = n then st else (s.socket m).scu.state := fun m => by
    rw [State.move_socket]
    split <;> rfl
  constructor
  case powered =>
    intro m
    rw [(has m).1, socket, h.powered]
    split <;> rfl
  case rateOne => intro m; rw [permits]; exact h.rateOne m
  case idleRate => exact fun idle => State.move_highest (state ▸ idle) (h.idleRate (state ▸ idle)) n st
  case idle =>
    intro idle
    obtain ⟨noEntry, noRepeats, nobody, low⟩ := h.idle (state ▸ idle)
    refine ⟨current.trans noEntry, repeatsLeft.trans noRepeats, SocketSet.ext fun m => ?_, stimulus.trans low⟩
    rw [(has m).2, nobody, SocketSet.has_zero, Bool.false_and]
  case running => intro busy; rw [current]; exact h.running (state ▸ busy)
  case permitted =>
    intro busy m run
    rw [state] at busy
    rw [permits, State.move_rate s n st busy]
    rw [socket] at run
    split at run
    · rename_i e; subst e; exact (may run).resolve_left busy
    · exact h.permitted busy m run
  case takePart =>
    intro m part
    rw [(has m).2, Bool.and_eq_true, Bool.not_eq_true', decide_eq_false_iff_not] at part
    rw [socket, if_neg part.2]
    exact h.takePart m part.1

/-- A move elsewhere than to RUN. -/
theorem State.InStep.moveAside {s : State} (h : s.InStep) (n : Sock) {st : SocketState} (aside : st ≠ .run := by decide) :
    (s.move n st).InStep := h.move n fun run => absurd run aside

theorem State.InStep.moveAdmit {s : State} (h : s.InStep) (n : Sock) {st : SocketState} (aside : st ≠ .run := by decide) :
    (s.moveAdmit n st).InStep := (h.moveAside n aside).of_kept (.evaluate _ _)

theorem State.InStep.requeued {s : State} (h : s.InStep) (n : Sock) : (s.requeued n).InStep := by
  unfold State.requeued
  dsimp only
  split
  · exact (h.moveAside n).of_kept (.evaluate _ _)
  · exact h.of_kept (.evaluate _ _)

/-- The SCU's decision of R8 lets a socket into RUN at an IDLE engine or a permitted rate alone. -/
theorem State.InStep.settleToRun {s : State} (h : s.InStep) (n : Sock) : (s.settleToRun n).InStep := by
  unfold State.settleToRun
  split
  · rename_i may
    obtain ⟨-, -, free⟩ := (s.mayRun_iff n).mp may
    exact h.move n fun _ => free
  · exact h

theorem State.InStep.decideAll {s : State} (h : s.InStep) : s.decideAll.InStep :=
  foldl_holds _ (fun _ n ht => ht.settleToRun n) h

/-! ### Failures and reports taken -/

theorem State.InStep.fail {s : State} (h : s.InStep) (n : Sock) (c : Cause) : (s.fail n c).InStep := by
  cases runs : c.runsIn (s.socket n).scu.state with
  | false => rw [s.fail_discarded n c runs]; exact h
  | true =>
    rw [s.fail_taken n c runs]
    have accounted := h.of_kept (.accountFailure s n c (c.disposition s.link.mode))
    refine State.InStep.of_kept ?_ (.raise _ _ _)
    unfold State.dispose
    rcases c.disposition_cases s.link.mode with e | e <;> rw [e] at accounted ⊢
    · exact accounted.moveAside n
    · exact accounted.moveAdmit n

theorem State.InStep.takeGrant {s : State} (h : s.InStep) (n : Sock) : (s.takeGrant n).InStep := by
  unfold State.takeGrant
  split
  · exact h.moveAside n
  · exact h

theorem State.InStep.takeTrip {s : State} (h : s.InStep) (n : Sock) : (s.takeTrip n).InStep := by
  have counted := h.of_kept (.modSocket s n (f := fun k => k.tripped (s.isRetry n)))
  unfold State.takeTrip
  dsimp only
  split_ifs
  · exact ((counted.moveAside n).of_kept (.modFeed _ _ _)).requeued n
  · exact counted.fail n _
  · exact h

theorem State.InStep.shedMove {s : State} (h : s.InStep) (n : Sock) : (s.shedMove n).InStep := by
  have counted : (s.countShed n).InStep := h.of_kept (.modAccount s n _)
  unfold State.shedMove
  dsimp only
  split_ifs
  · exact counted.moveAside n
  · exact (counted.moveAside n).of_kept (.modFeed _ _ _)
  · exact h

theorem State.InStep.taken {s : State} (h : s.InStep) (n : Sock) (kind : ReportKind) : (s.taken n kind).InStep := by
  cases kind with
  | grant => exact h.takeGrant n
  | qualified =>
    simp only [State.taken, State.takeQualified]
    split
    · exact h.moveAdmit n
    · exact h
  | settled =>
    simp only [State.taken, State.takeSettled]
    split
    · exact (h.of_kept (.modScu s n)).settleToRun n
    · exact h
  | notSettled => exact h.of_kept (.modScu s n (f := fun r => { r with settledMark := false }))
  | target =>
    simp only [State.taken, State.takeTarget]
    split
    · exact ((h.of_kept (.modAccount s n _)).moveAdmit n).of_kept (.raise _ _ _)
    · exact h
  | trip => exact h.takeTrip n
  | shed =>
    simp only [State.taken, State.takeShed]
    split_ifs
    · exact (h.shedMove n).of_kept (.evaluate _ _)
    · exact (h.shedMove n).requeued n
    · exact h
  | failure c => exact h.fail n c

theorem State.InStep.takeNotices (n : Sock) : ∀ (k : Nat) {s : State}, s.InStep → (State.takeNotices n k s).InStep
  | 0, _, h => h
  | k + 1, s, h => by
    unfold State.takeNotices
    split
    · split
      · exact State.InStep.takeNotices n k ((h.of_kept (.drop s _)).taken n .notSettled)
      · exact h
    · exact h

theorem State.InStep.takeReport {s : State} (h : s.InStep) (n : Sock) (kind : ReportKind) :
    (s.takeReport n kind (·.taken n kind)).InStep := by
  rcases s.takeReport_cases n kind (·.taken n kind) with ⟨-, e⟩ | ⟨-, e⟩ <;> rw [e]
  · exact State.InStep.takeNotices n _ ((h.of_kept (.drop s _)).taken n kind)
  · exact h

end Sys2Proof.Machine
end

section
/-!
PROOFS. The engine stays in step through its own work: a halt, a pass and its end, an arrival, a page lost, and what the expiries and
ticks do (R88, R97 to R107, R110).
-/

namespace Sys2Proof.Machine

/-! ### Changes of the engine itself -/

/-- Between `s` and `t` every socket's state and rate set stand. -/
structure State.SocketsStand (s t : State) : Prop where
  state : ∀ n, (t.socket n).scu.state = (s.socket n).scu.state
  permits : ∀ n, t.permits n = s.permits n

theorem State.SocketsStand.of_sockets {s t : State} (sockets : t.sockets = s.sockets) : s.SocketsStand t :=
  ⟨fun n => by rw [State.socket_congr sockets], fun n => State.permits_eq (by rw [State.socket_congr sockets])⟩

/-- A running engine is in step when it has an entry, its powered set stands, every socket in RUN permits its rate and its participants
are in RUN. -/
theorem State.InStep.of_running {s t : State} (h : s.InStep) (k : s.SocketsStand t) (busy : t.engine.state ≠ .idle)
    (current : t.engine.current.isSome = true) (powered : t.engine.powered = s.engine.powered)
    (permitted : ∀ n, (s.socket n).scu.state = .run → s.permits n t.engine.rate = true)
    (takePart : ∀ n, SocketSet.has t.engine.participants n = true → (s.socket n).scu.state = .run) : t.InStep where
  powered n := by rw [powered, k.state]; exact h.powered n
  rateOne n := by rw [k.permits]; exact h.rateOne n
  idleRate idle := absurd idle busy
  idle idle := absurd idle busy
  running _ := current
  permitted _ n run := by rw [k.permits]; exact permitted n (k.state n ▸ run)
  takePart n part := (k.state n).trans (takePart n part)

/-- The rate recomputed is permitted by every powered socket, and while IDLE it stood already (R107). -/
theorem State.InStep.recomputeRate {s : State} (h : s.InStep) : s.recomputeRate.InStep := by
  by_cases idle : s.engine.state = .idle
  · refine h.of_kept (.of_sockets rfl ?_)
    rw [State.recomputeRate_engine, ← h.idleRate idle]
  · exact h.of_running (.of_sockets rfl) idle (h.running idle) rfl (fun n run => h.permits_highest (by rw [run]; rfl)) h.takePart

/-- The engine halted is in step, and so it is when the SCU has decided for the sockets that wait (R102). -/
theorem State.InStep.becomesIdle {s : State} (h : s.InStep) (cause : StopCause) : (s.idle cause).InStep := by
  have engine := s.halted_engine cause
  have permits : ∀ n, (s.halted cause).permits n = s.permits n := fun n => State.permits_eq (by rw [State.halted_socket])
  have halted : (s.halted cause).InStep :=
    { powered := fun n => by rw [engine, State.halted_socket]; exact h.powered n
      rateOne := fun n => by rw [permits]; exact h.rateOne n
      idleRate := fun _ => s.halted_rate cause
      idle := fun _ => by rw [engine]; exact ⟨rfl, rfl, rfl, rfl⟩
      running := fun busy => absurd (by rw [engine]; rfl) busy
      permitted := fun busy => absurd (by rw [engine]; rfl) busy
      takePart := fun n part => by
        have nobody : (s.halted cause).engine.participants = 0#16 := by rw [engine]; rfl
        rw [nobody, SocketSet.has_zero] at part
        cases part }
  exact halted.decideAll

/-! ### Passes (R100, R103, R104) -/

/-- A pass starts with the sockets in RUN. -/
theorem State.InStep.startPass {s : State} (h : s.InStep) (busy : s.engine.state ≠ .idle) : s.startPass.InStep := by
  have engine := s.startPass_engine
  refine h.of_running ⟨fun n => by rw [(s.startPass_kept n).1], fun n => State.permits_eq (by rw [(s.startPass_kept n).2.1])⟩
    (by rw [engine]; exact busy) (by rw [engine]; exact h.running busy) (by rw [engine])
    (fun n run => by rw [engine]; exact h.permitted busy n run) fun n part => ?_
  rw [State.startPass_participants, (s.startPass_kept n).1] at part
  exact beq_iff_eq.mp part

theorem State.InStep.nextPass {s : State} (h : s.InStep) (busy : s.engine.state ≠ .idle) : s.nextPass.InStep := by
  have state : s.recomputeRate.decideAll.engine.state = s.recomputeRate.engine.state :=
    State.decideAll_keeps (fun t => t.engine.state) (fun t n => (t.move_sets n .run).2.2.1) s.recomputeRate
  exact h.recomputeRate.decideAll.startPass (by rw [state, State.recomputeRate_engine]; exact busy)

/-- An arrival takes the entry or makes the engine IDLE; either way the engine is in step (R100). -/
theorem State.InStep.arrive {s : State} (h : s.InStep) (e : EntryNo) :
    (s.arrive e).1.InStep ∧ ((s.arrive e).2 = true → (s.arrive e).1.engine.state ≠ .idle) := by
  unfold State.arrive
  dsimp only
  split_ifs
  · exact ⟨(h.becomesIdle _).of_kept (.raise _ _ _), nofun⟩
  · exact ⟨(h.becomesIdle _).of_kept (.raise _ _ _), nofun⟩
  · exact ⟨h.of_running (.of_sockets rfl) nofun rfl rfl (fun _ => h.permits_rate) h.takePart, fun _ => nofun⟩

theorem State.InStep.start {s : State} (h : s.InStep) (e : EntryNo) : (s.start e).InStep := by
  have arrived := h.arrive e
  unfold State.start
  split <;> rename_i t ht <;> rw [ht] at arrived <;> obtain ⟨inStep, busy⟩ := arrived
  · exact inStep.startPass (busy rfl)
  · exact inStep

theorem State.InStep.followLink {s : State} (h : s.InStep) : s.followLink.InStep := by
  cases link : s.engine.held.link with
  | none => rw [State.followLink_none link]; exact (h.becomesIdle _).of_kept (.raise _ _ _)
  | some e =>
    obtain ⟨inStep, busy⟩ := h.arrive e
    rw [State.followLink_some link]
    split
    · rename_i taken; exact inStep.nextPass (busy taken)
    · exact inStep

/-- The counting of the participants leaves the engine and the sockets' states alone (R111). -/
theorem State.EngineKept.settlePasses (s : State) : s.EngineKept s.settlePasses :=
  .of_eq s.settlePasses_engine fun n => by
    obtain ⟨state, -, rail, -⟩ := s.settlePasses_kept n
    rw [rail]
    exact ⟨state, rfl⟩

theorem State.InStep.passEnd {s : State} (h : s.InStep) : s.passEnd.InStep := by
  have settled := h.of_kept (.settlePasses s)
  cases state : s.engine.state with
  | idle => simpa only [State.passEnd, state] using h
  | stopping reason => rw [State.passEnd_stopping state]; exact settled.becomesIdle _
  | run =>
    have busy : s.settlePasses.engine.state ≠ .idle := by rw [s.settlePasses_engine, state]; decide
    have left : s.passLeft.InStep := settled.of_running (.of_sockets rfl) busy (settled.running busy) rfl
      (settled.permitted busy) settled.takePart
    rw [State.passEnd_run state]
    split
    · exact left.followLink
    · exact left.nextPass busy

/-! ### Pages (R79, R88, R89) -/

theorem State.InStep.stopForPage {s : State} (h : s.InStep) (p : Page) : (s.stopForPage p).InStep := by
  unfold State.stopForPage
  split_ifs with idle
  · exact h
  · exact h.becomesIdle _
  · exact h.of_running (.of_sockets rfl) nofun (h.running idle) rfl (h.permitted idle) h.takePart
  · exact h

theorem State.InStep.checkPage {s : State} (h : s.InStep) (p : Page) : (s.checkPage p).1.InStep := by
  have marked : (s.pageMarked p).InStep := h.of_kept (.of_sockets rfl rfl)
  unfold State.checkPage
  split
  · exact marked.stopForPage p
  · exact h

theorem State.InStep.verify : ∀ (pages : List Page) {s : State}, s.InStep → (State.verify pages s).1.InStep
  | [], _, h => h
  | p :: rest, s, h => by
    unfold State.verify
    split
    · exact State.InStep.verify rest h
    · exact h
    · have checked := h.checkPage p
      split <;> rename_i t ht <;> rw [ht] at checked
      · exact checked.verify rest
      · exact checked

theorem State.InStep.scrub {s : State} (h : s.InStep) : s.scrub.InStep := by
  unfold State.scrub
  split
  · exact h
  · split
    · exact h
    · rename_i p _
      have pointed : State.InStep { s with store := { s.store with scrub := p + 1, lastScrubbed := some p } } :=
        h.of_kept (.of_sockets rfl rfl)
      exact pointed.checkPage p

/-! ### Expiries (log entry 2) -/

theorem State.InStep.releaseAll {s : State} (h : s.InStep) : s.releaseAll.InStep := by
  have released : (allSocks.foldl State.releaseUnattended s).InStep := foldl_holds _ (fun t n ht => by
    unfold State.releaseUnattended
    split
    · exact (ht.of_kept (.modAccount t n _)).moveAdmit n
    · exact ht) h
  exact released.of_kept (.raise _ _ _)

theorem State.EngineKept.shedNewest (s : State) (f : FeedId) : s.EngineKept (s.shedNewest f) :=
  .of_eq (by simp) fun n => by
    unfold State.shedNewest
    dsimp only
    split
    · simp
    · simp only [State.raise_socket, State.send_socket, State.takeOff, State.modFeed_socket, State.modRail_socket]
      split
      · rename_i e; subst e; exact ⟨rfl, rfl⟩
      · exact ⟨rfl, rfl⟩

theorem State.EngineKept.endCalibration (s : State) (n : Sock) : s.EngineKept (s.endCalibration n) := by
  refine .of_eq (by simp) fun m => ?_
  unfold State.endCalibration
  split
  · exact ⟨rfl, rfl⟩
  · rw [State.socket_congr (State.answerCalibration_frame _ _ _).2.1, State.modRail_socket]
    split
    · rename_i e; subst e
      exact ⟨rfl, by unfold Rail.calibrated; split <;> rfl⟩
    · exact ⟨rfl, rfl⟩

theorem State.InStep.fire {s : State} (h : s.InStep) (e : Expiry) : (s.fire e).InStep := by
  have rail : ∀ n f k, (∀ r, (f r).profile = r.profile) → ((s.modRail n f).send n k).InStep := fun n f k profile =>
    (h.of_kept (.modRail s n profile)).of_kept (.send _ _ _)
  have heat : ∀ n f k, ((s.modHeat n f).send n k).InStep := fun n f k => (h.of_kept (.modSocket s n)).of_kept (.send _ _ _)
  cases e with
  | rampTimeout n => exact rail n (fun r => { r with motion := .still }) _ fun _ => rfl
  | moveTimeout n => exact rail n (fun r => { r with motion := .still }) _ fun _ => rfl
  | unregulated n => exact rail n (fun r => { r with unregCount := 0 }) _ fun _ => rfl
  | contactLoss n => exact rail n (fun r => { r with contactCount := 0 }) _ fun _ => rfl
  | qualification n =>
    simp only [State.fire, State.qualify]
    split
    · exact rail n (fun r => { r with qualified := true, motion := .still }) _ fun _ => rfl
    · exact h
  | trip n => exact (h.of_kept (.takeOff s n)).of_kept (.send _ _ _)
  | shed f => exact h.of_kept (.shedNewest s f)
  | calibrationEnd n => exact h.of_kept (.endCalibration s n)
  | thermallySettled n => exact h.of_kept (.send s n _)
  | notSettled n =>
    simp only [State.fire, State.noticeNotSettled]
    split
    · exact h.of_kept (.send s n _)
    · exact h.taken n .notSettled
  | excursion n => exact heat n (fun x => { x with outWindowCount := 0 }) _
  | runaway n => exact heat n (fun x => { x with runawayCount := 0 }) _
  | settleTimeout n => exact h.fail n _
  | cleanRun n => exact h.of_kept (.modScu s n (f := fun r => { r with tripCount := 0, cleanRun := 0 }))
  | linkSilence => exact State.InStep.releaseAll (h.of_kept (.of_sockets rfl rfl))
  | releases => exact h.releaseAll
  | passEnd => exact h.passEnd

theorem State.InStep.fires {s : State} (h : s.InStep) (now later : List Expiry) :
    (now.foldl State.fire { s with due := later }).InStep :=
  foldl_holds now (fun _ e ht => ht.fire e) (h.of_kept (.of_sockets rfl rfl))

theorem State.InStep.occur {s : State} (h : s.InStep) (e : Expiry) : (s.occur e).InStep := by
  unfold State.occur
  split
  · exact h.fires _ _
  · exact h

theorem State.InStep.beforeReport {s : State} (h : s.InStep) : s.beforeReport.InStep := by
  unfold State.beforeReport
  split_ifs
  · exact (h.fires _ _).of_kept (.of_sockets rfl rfl)
  · exact h.fires _ _
  · exact h.fires _ _

/-! ### Ticks and vector steps -/

theorem State.EngineKept.sampleTick (s : State) (readings : Vector SenseReading 16) : s.EngineKept (s.sampleTick readings) := by
  refine .of_eq (by simp [State.sampleTick]) fun n => ?_
  rw [State.sampleTick_socket]
  refine ⟨rfl, ?_⟩
  unfold Socket.sample
  dsimp only
  split <;> rfl

theorem State.EngineKept.thermalTick (s : State) (readings : Vector Int 16) : s.EngineKept (s.thermalTick readings) := by
  refine .of_eq (State.BoardKept.thermalTick s readings).engine fun n => ⟨?_, ?_⟩
  · rw [State.thermalTick_socket]; exact (Socket.ticked_scu _ _ _).1
  · rw [((State.Steady.thermalTick s readings).sockets n).railProfile]

theorem State.EngineKept.timed (s : State) : s.EngineKept s.timed := by
  refine .of_eq (s.timed_keeps State.engine fun _ _ _ _ _ => rfl) fun n => ?_
  obtain ⟨-, rail, -⟩ := (s.socket n).accrued_kept (s.eligible n) (s.tickFactor n)
  rw [State.timed_socket]
  exact ⟨rfl, congrArg (fun r => r.profile.rates) rail⟩

theorem State.InStep.secondTick {s : State} (h : s.InStep) : s.secondTick.InStep := by
  have scrubbed := (h.of_kept (.timed s)).scrub
  rw [State.secondTick_eq, State.silenceTick_eq]
  generalize s.timed.scrub = u at *
  exact scrubbed.of_kept (.of_sockets rfl rfl)

/-- A vector step in a pass drives the lines of a running engine alone (R98, R103). -/
theorem State.InStep.vectorStep {s : State} (h : s.InStep) {e : EntryNo} (pass : s.engine.current = some e)
    (responses : Vector Byte 16) : (s.vectorStep e responses).InStep := by
  have engine := s.vectorStep_engine e responses
  have busy : s.engine.state ≠ .idle := fun idle => by
    obtain ⟨noEntry, -⟩ := h.idle idle
    rw [noEntry] at pass
    cases pass
  have rail : ∀ n, ((s.vectorStep e responses).socket n).rail = (s.socket n).rail := fun n => by
    rw [State.vectorStep_socket]; split <;> rfl
  exact h.of_running ⟨fun n => by rw [State.vectorStep_scu], fun n => State.permits_eq (by rw [rail])⟩ (by rw [engine]; exact busy)
    (by rw [engine]; exact h.running busy) (by rw [engine]) (by rw [engine]; exact h.permitted busy)
    (by rw [engine]; exact h.takePart)

end Sys2Proof.Machine
end

section
/-!
PROOFS. The engine stays sound through every request, load and reset, over the bytes of the line, and so through every step.
-/

namespace Sys2Proof.Machine

/-! ### Requests -/

theorem State.InStep.arm {s : State} (h : s.InStep) (n : Sock) : (s.arm n).InStep :=
  (((h.of_kept (.modSocket s n)).moveAside n).of_kept (.modFeed _ _ _)).of_kept (.evaluate _ _)

theorem State.InStep.powerDown {s : State} (h : s.InStep) (n : Sock) : (s.powerDown n).InStep := by
  have aside : (if (s.socket n).scu.state = .hold then SocketState.safe else .off) ≠ .run := by split <;> decide
  unfold State.powerDown
  dsimp only
  split
  · exact h.moveAside n aside
  · exact h.moveAdmit n aside

theorem State.InStep.shedNow {s : State} (h : s.InStep) (n : Sock) : (s.shedNow n).InStep := by
  have taken : (if s.granted n then (s.takeGrant n).drop ⟨n, .grant⟩ else s).InStep := by
    split
    · exact (h.takeGrant n).of_kept (.drop _ _)
    · exact h
  exact (((taken.of_kept (.takeOff _ n)).of_kept (.modFeed _ _ _)).of_kept (.raise _ _ _)).shedMove n

theorem State.InStep.setFeedLimit {s : State} (h : s.InStep) (f : FeedId) (limit : Nat) : (s.setFeedLimit f limit).1.InStep :=
  State.setFeedLimit_holds f limit h (fun _ n ht => ht.shedNow n)
    (fun t n ht => by
      unfold State.withdraw
      split
      · exact ht.moveAside n
      · exact ht)
    (fun t ht => ht.of_kept (.modFeed t f _)) fun t ht => ht.of_kept (.evaluate t f)

theorem State.EngineKept.setCeiling (s : State) (mv : Nat) : s.EngineKept (s.setCeiling mv) := by
  obtain ⟨-, -, -, -, -, -, engine, -⟩ := s.setCeiling_frame mv
  refine .of_eq engine fun n => ?_
  have same : ({ s with ceiling := clamp 400 s.identity.nativeCeiling mv } : State).socket n = s.socket n := State.socket_congr rfl n
  rw [State.setCeiling_socket, State.retarget_socket, same]
  split
  · exact ⟨rfl, by dsimp only; split <;> rfl⟩
  · exact ⟨rfl, rfl⟩

theorem State.EngineKept.setBudget (s : State) (value : Nat) : s.EngineKept (s.setBudget value) := by
  refine .of_eq ?_ fun n => by rw [State.setBudget_socket]; exact ⟨rfl, rfl⟩
  rw [State.setBudget_eq, (State.BoardKept.scale (s.withBudget value)).engine]
  rfl

/-- An account cleared, of a socket neither QUEUED nor powered, to a state of that kind (R22, R149, R150). -/
theorem Socket.ShowsSame.cleared {k : Socket} {st : SocketState} (free : k.scu.state.busy = false) (after : st.busy = false) :
    k.ShowsSame (k.cleared st) :=
  .inr ⟨SocketState.not_powered_of_not_busy free, SocketState.not_powered_of_not_busy after, id⟩

/-- Whatever the owner of a request does, the writing of a rail profile aside, keeps the engine in step. -/
theorem State.InStep.answered {s t : State} {code : Byte} (h : s.InStep) (other : code ≠ 0x20#8) (ha : s.Answered code t) :
    t.InStep := by
  have set : ∀ x judge act, (∀ u n, State.InStep u → (act u n).InStep) → (s.forSet x judge act).1.InStep :=
    fun x judge act keeps => s.forSet_keeps State.InStep x judge act (fun u n hu _ => keeps u n hu) h
  cases ha with
  | same => exact h
  | groups | silenceParam | acked | enables | loaded | factors | trimmed | threshold => exact h.of_kept (.of_sockets rfl rfl)
  | arm x => exact set x _ _ fun _ n hu => hu.arm n
  | powerDown x => exact set x _ _ fun _ n hu => hu.powerDown n
  | pause x | resume x => exact set x _ _ fun _ n hu => hu.moveAside n
  | release x => exact set x _ _ fun _ n hu => hu.moveAdmit n
  | statusRead n => exact h.of_kept (.modScu s n)
  | accountCleared n _ free => exact h.of_kept (.modSocket s n (.cleared free rfl))
  | accountsCleared free =>
    refine h.of_kept ⟨by simp, fun n => ?_⟩
    have free := State.not_busy_of_not_anyBusy free n
    rw [State.clearAccounts_socket]
    exact .cleared free (SocketState.afterClear_of_not_busy free)
  | railProfile => exact absurd rfl other
  | calibration n => exact h.of_kept (.modRail s n)
  | thermalProfile n | testProfile n => exact h.of_kept (.modSocket s n)
  | ceiling mv => exact h.of_kept (.setCeiling s mv)
  | feedLimit f mv => exact h.setFeedLimit f _
  | budget value => exact h.of_kept (.setBudget s value)
  | verified pages => exact h.verify pages
  | entry => exact ⟨h.powered, h.rateOne, h.idleRate, h.idle, h.running, h.permitted, h.takePart⟩
  | started e _ => exact h.start e
  | stopped =>
    unfold Engine.stop
    split
    · rename_i run
      have busy : s.engine.state ≠ .idle := by rw [run]; decide
      exact h.of_running (.of_sockets rfl) nofun (h.running busy) rfl (h.permitted busy) h.takePart
    · exact h

/-- A rail profile as stored holds rate 1 (R26). -/
theorem readRailProfile_rateOne {tripMax : Nat} {p : List Byte} {profile : RailProfile}
    (read : readRailProfile tripMax p = some profile) : profile.rates.getLsbD 0 = true := by
  simp only [readRailProfile] at read
  split at read
  · cases read; simp
  · cases read

/-- A rail profile is written for a socket that is not powered, and holds rate 1 (R26). -/
theorem State.InStep.writeRailProfile {s : State} (h : s.InStep) (p : List Byte) :
    (writeRailProfileKind.carryOut p s).1.InStep := by
  simp only [writeRailProfileKind, State.withSocket]
  split
  · exact h
  · rename_i n _
    split
    · exact h
    · rename_i free
      have cold := SocketState.not_powered_of_not_busy (Bool.not_eq_true _ ▸ free)
      split
      · exact h
      · rename_i profile read
        have written : s.EngineKept (s.modRail n fun r => { r with profile, written := true }) :=
          .modSocket s n (.inr ⟨cold, cold, fun _ => readRailProfile_rateOne read⟩)
        exact h.of_kept written

theorem State.InStep.carryOut {s : State} (h : s.InStep) {k : RequestKind} (listed : k ∈ requestKinds) (p : List Byte) :
    (k.carryOut p s).1.InStep := by
  by_cases rail : k.code = 0x20#8
  · obtain rfl := requestKind_of_code (k' := writeRailProfileKind) listed (by simp [requestKinds]) rail
    exact h.writeRailProfile p
  · exact h.answered rail (carryOut_answered listed p s)

/-! ### Loads and resets -/

/-- With no socket powered the rate is the highest there is (R107). -/
theorem State.highestRate_of_unpowered {s : State} (nobody : ∀ n, SocketSet.has s.engine.powered n = false) : s.highestRate = .r4 := by
  have all : s.allPermit .r4 = true := (s.allPermit_iff _).mpr fun n powered => by rw [nobody] at powered; cases powered
  rw [State.highestRate, if_pos all]

theorem State.InStep.boardReset {s : State} (h : s.InStep) (retain : Bool) : (s.boardReset retain).InStep := by
  have nobody : ∀ n, SocketSet.has (s.boardReset retain).engine.powered n = false := SocketSet.has_zero
  constructor
  case powered =>
    intro n
    rw [nobody, State.boardReset_socket]
    exact (SocketState.not_powered_of_not_busy (SocketState.afterReset_not_busy _)).symm
  case rateOne =>
    intro n
    rw [State.permits, State.boardReset_socket]
    cases retain with
    | true => exact h.rateOne n
    | false => simp [Socket.afterReset, Rail.afterReset, Rate.isIn]
  case idleRate => exact fun _ => (State.highestRate_of_unpowered nobody).symm
  case idle => exact fun _ => ⟨rfl, rfl, rfl, rfl⟩
  case running => exact fun busy => absurd rfl busy
  case permitted => exact fun busy => absurd rfl busy
  case takePart => exact fun n part => absurd ((SocketSet.has_zero n).symm.trans part) Bool.false_ne_true

/-- In a load no socket is powered, and a loaded population brings none to a powered state (R3). -/
theorem State.EngineKept.endLoad {s : State} (quiet : ∀ n, (s.socket n).scu.state.busy = false) (i : Identity) :
    s.EngineKept (s.endLoad i) where
  engine := by simp [State.endLoad]
  sockets n := by
    rw [State.endLoad_socket]
    refine .inr ⟨SocketState.not_powered_of_not_busy (quiet n),
      SocketState.not_powered_of_not_busy (Socket.populate_busy (quiet n) _), ?_⟩
    have profile : ∀ st, ((s.socket n).moved st).rail.profile = (s.socket n).rail.profile := Rail.moved_profile _
    unfold Socket.populate
    split_ifs
    · rw [profile]; exact id
    · exact id
    · exact id
    · rw [profile]; exact id

/-! ### The line -/

theorem State.InStep.link {s : State} (h : s.InStep) (l : Link) : State.InStep { s with link := l } :=
  h.of_kept (.of_sockets rfl rfl)

theorem State.InStep.abandonReply {s : State} (h : s.InStep) : s.abandonReply.InStep := by
  unfold State.abandonReply
  split
  case h_5 => exact h.boardReset _
  case h_3 | h_4 => exact h.link _
  case h_1 | h_2 => exact h

theorem State.InStep.endFrame {s : State} (h : s.InStep) : s.endFrame.InStep := by
  unfold State.endFrame
  split
  · exact h
  · exact h.link _
  · exact h.link _

/-- A frame taken reaches its owner or is counted. -/
theorem State.InStep.takeFrame {s : State} (h : s.InStep) (dst kind : Byte) {k : Option RequestKind} (p : List Byte)
    (listed : ∀ r, k = some r → r ∈ requestKinds) : (s.takeFrame dst kind k p).InStep := by
  unfold State.takeFrame
  cases s.link.addressing dst with
  | others => exact h.link _
  | individual =>
    have heard : (s.count LinkCounters.addGood).attend.InStep := h.link _
    cases k with
    | none => exact heard.link _
    | some r =>
      simp only [State.takeIndividual]
      split
      · have owned := heard.carryOut (listed r rfl) p
        generalize (r.carryOut p (s.count LinkCounters.addGood).attend).2 = response
        cases response <;> exact owned.link _
      · exact heard.link _
  | group =>
    have counted : (s.count LinkCounters.addGood).InStep := h.link _
    cases k with
    | none => exact counted.link _
    | some r =>
      simp only [State.takeGroup]
      split
      · exact counted.carryOut (listed r rfl) p
      · exact counted.link _

theorem State.InStep.huntByte {s : State} (h : s.InStep) (b : Byte) : (s.huntByte b).InStep := by
  simp only [State.huntByte]
  split_ifs
  · exact h.abandonReply.link _
  · exact h.abandonReply.link _
  · exact h.abandonReply
  · exact h

theorem State.InStep.requestByte {s : State} (h : s.InStep) (taken : List Byte) (b : Byte) : (s.requestByte taken b).InStep := by
  simp only [State.requestByte]
  split_ifs
  · exact h.endFrame
  · have hunting : (s.withReceiver .hunt).InStep := h.link _
    simp only [State.completeRequest]
    split
    · exact hunting.takeFrame _ _ _ fun r => requestKindOf_listed
    · exact hunting.link _
  · exact h.link _

theorem State.InStep.passByte {s : State} (h : s.InStep) (taken : List Byte) (b : Byte) : (s.passByte taken b).InStep := by
  simp only [State.passByte]
  split_ifs
  · exact h.endFrame
  · exact h.link _
  · exact h.link _

theorem State.InStep.receive {s : State} (h : s.InStep) (b : Byte) : (s.receive b).InStep := by
  unfold State.receive
  split
  · split
    · exact h.huntByte b
    · exact h.requestByte _ b
    · exact h.passByte _ b
  · exact h

theorem State.InStep.receiveAll {s : State} (h : s.InStep) (bytes : List Byte) : (s.receiveAll bytes).InStep :=
  foldl_holds bytes (fun _ b ht => ht.receive b) h

theorem State.InStep.lineBreak {s : State} (h : s.InStep) : s.lineBreak.InStep := by
  unfold State.lineBreak
  split
  · exact h.endFrame
  · exact h

theorem State.InStep.request {s : State} (h : s.InStep) (dst kind : Byte) {k : Option RequestKind} (p : List Byte)
    (listed : ∀ r, k = some r → r ∈ requestKinds) : (s.request dst kind k p).InStep := by
  unfold State.request
  split
  · simp only [State.receiveRequest]
    split_ifs
    · exact h.abandonReply.takeFrame _ _ _ listed
    · exact h.abandonReply.link _
    · exact h.abandonReply
    · exact h
  · exact h.receiveAll _

/-! ### Every command and every step -/

theorem State.InStep.exec {c : Instr} {s t : State} (h : s.InStep) (quiet : s.Quiet) (ht : exec c s = .next t) : t.InStep := by
  have settled : s.settled.InStep := h.fires _ _
  cases hr : requestOfRow c with
  | some x =>
    obtain ⟨k, dst, p⟩ := x
    rw [exec_request hr] at ht
    cases ht
    obtain ⟨present, seen⟩ := s.settled.seen_eq c
    have heard : (s.settled.seen c).InStep := by rw [seen]; exact settled.of_kept (.of_sockets rfl rfl)
    exact heard.request _ _ _ fun r e => Option.some.inj e ▸ requestOfRow_mem hr
  | none =>
  cases he : expiryOfRow c with
  | some e => rcases exec_expiry he s with h' | h' <;> (rw [h'] at ht; cases ht; exact h.occur _)
  | none =>
  cases hq : reportOfRow c with
  | some r =>
    rw [exec_report (n := r.socket) (kind := r.kind) hq] at ht
    cases ht
    exact h.beforeReport.takeReport _ _
  | none =>
  cases c <;> simp only [requestOfRow, expiryOfRow, reportOfRow, reduceCtorEq] at hr he hq <;>
    simp only [Machine.exec, execPowerOn, execIdentityLoadEnd, execSampleTick, execThermalTick, execSecondTick, execStoreUpset,
      execFrameGapTimeout, execFramingError, execOtherReplyPassed, execCrcErrorFrame, execFrameForOthers, execBadKindFrame,
      execReplyTransmitStart, execReplySent, execVectorStep, Host.Outcome.next.injEq] at ht <;> subst ht
  case powerOn => exact ((State.engineOk_iff _).mp State.reset_engineOk).2.of_kept (.of_sockets rfl rfl)
  case identityLoadEnd =>
    split
    · exact settled
    · rename_i loading
      exact settled.of_kept (.endLoad ((quiet.of_kept (.settled s)) loading) _)
  case sampleTick => split; exacts [settled, settled.of_kept (.sampleTick _ _)]
  case thermalTick => split; exacts [settled.of_kept (.thermalTick _ _), settled]
  case secondTick => split; exacts [settled, settled.secondTick]
  case storeUpset => exact settled.of_kept (.of_sockets rfl rfl)
  case frameGapTimeout => exact (settled.receiveAll _).lineBreak
  case framingError => split; exacts [(settled.receiveAll _).lineBreak, settled.receiveAll _]
  case otherReplyPassed => exact settled.receiveAll _
  case crcErrorFrame => exact settled.receiveAll _
  case frameForOthers => exact settled.request _ _ _ fun r => requestKindOf_listed
  case badKindFrame => exact settled.request _ _ _ fun r => requestKindOf_listed
  case replyTransmitStart => split; exacts [settled.link _, settled]
  case replySent =>
    have sent : ((s.settled.withReply .idle).count LinkCounters.addReply).InStep := settled.link _
    split
    · split
      · exact sent
      · exact sent.boardReset _
    · exact settled
  case vectorStep =>
    split
    · rename_i e pass; exact settled.vectorStep pass _
    · exact settled

theorem State.EngineOk.exec {c : Instr} {s t : State} (h : s.EngineOk) (ht : exec c s = .next t) : t.EngineOk := by
  obtain ⟨quiet, inStep⟩ := s.engineOk_iff.mp h
  exact t.engineOk_iff.mpr ⟨quiet.exec ht, inStep.exec quiet ht⟩

/-- Settles O58: every command keeps a load quiet and the engine in step with the sockets. -/
theorem everyStepKeepsTheEngineSound : Obligations.EveryStepKeepsTheEngineSound := by
  unfold Obligations.EveryStepKeepsTheEngineSound
  exact ⟨fun _ _ => ⟨rfl, rfl, rfl, rfl⟩, rfl, fun s t h ht => step_keeps
    (fun _ _ h => ⟨h.quiet, h.powered, h.rateOne, h.idleRate, h.idle, h.running, h.permitted, h.takePart⟩)
    (fun _ _ _ h ht => h.exec ht) h ht⟩

end Sys2Proof.Machine
end

section
/-!
PROOFS. Credit (R118, R124 to R126): no command but a second tick gives a socket credit, and a second tick gives it to the eligible
alone, once the expiries due are carried out (log entry 2).
-/

namespace Sys2Proof.Machine

/-! ### Changes that give no credit -/

/-- No socket has more credit afterwards than before. -/
def State.EarnsNothing (s t : State) : Prop := ∀ n, (t.socket n).credit.credit ≤ (s.socket n).credit.credit

theorem State.EarnsNothing.refl (s : State) : s.EarnsNothing s := fun _ => le_rfl

theorem State.EarnsNothing.trans {s t u : State} (h : s.EarnsNothing t) (h' : t.EarnsNothing u) : s.EarnsNothing u :=
  fun n => (h' n).trans (h n)

theorem State.EarnsNothing.of_credits {s t : State} (h : ∀ n, (t.socket n).credit = (s.socket n).credit) : s.EarnsNothing t :=
  fun n => (congrArg Credit.credit (h n)).le

theorem State.EarnsNothing.of_sockets {s t : State} (h : t.sockets = s.sockets) : s.EarnsNothing t :=
  .of_credits fun n => by rw [State.socket_congr h]

theorem State.Handled.earnsNothing {s t : State} (h : s.Handled t) : s.EarnsNothing t := .of_credits fun n => (h.sockets n).credit

theorem State.EarnsNothing.foldl {α : Type} {f : State → α → State} (l : List α) (h : ∀ (s : State) a, s.EarnsNothing (f s a))
    (s : State) : s.EarnsNothing (l.foldl f s) :=
  foldl_holds (P := s.EarnsNothing) l (fun t a ht => ht.trans (h t a)) (.refl s)

theorem State.EarnsNothing.modSocket (s : State) (n : Sock) {f : Socket → Socket}
    (h : ∀ k, (f k).credit.credit ≤ k.credit.credit := by exact fun _ => le_rfl) : s.EarnsNothing (s.modSocket n f) := fun m => by
  rw [State.modSocket_socket]
  split
  · rename_i e; subst e; exact h _
  · exact le_rfl

theorem State.EarnsNothing.move (s : State) (n : Sock) (st : SocketState) : s.EarnsNothing (s.move n st) :=
  .of_credits fun m => by
    rw [State.move_socket]
    split
    · rename_i e; subst e; rfl
    · rfl

/-! ### Failures and reports taken -/

theorem State.EarnsNothing.fail (s : State) (n : Sock) (c : Cause) : s.EarnsNothing (s.fail n c) := by
  cases runs : c.runsIn (s.socket n).scu.state with
  | false => rw [s.fail_discarded n c runs]; exact .refl s
  | true =>
    rw [s.fail_taken n c runs]
    have accounted : s.EarnsNothing (s.accountFailure n c (c.disposition s.link.mode)) := .of_credits fun m => by
      rw [State.accountFailure_socket]
      split
      · rename_i e; subst e; rfl
      · rfl
    refine (accounted.trans ?_).trans (.of_sockets rfl)
    unfold State.dispose
    split
    · exact .move _ n _
    · rename_i noHold
      exact (State.Handled.moveAdmit _ n noHold).earnsNothing

theorem State.EarnsNothing.taken (s : State) (n : Sock) (kind : ReportKind) : s.EarnsNothing (s.taken n kind) := by
  cases kind with
  | grant => exact (State.Handled.takeGrant s n).earnsNothing
  | qualified =>
    simp only [State.taken, State.takeQualified]
    split
    · exact (State.Handled.moveAdmit s n (by simp)).earnsNothing
    · exact .refl s
  | settled =>
    simp only [State.taken, State.takeSettled]
    split
    · exact (State.EarnsNothing.modSocket s n).trans (State.Handled.settleToRun _ n).earnsNothing
    · exact .refl s
  | notSettled => exact .modSocket s n
  | target =>
    simp only [State.taken, State.takeTarget]
    split
    · exact ((State.EarnsNothing.modSocket s n).trans (State.Handled.moveAdmit _ n (by simp)).earnsNothing).trans (.of_sockets rfl)
    · exact .refl s
  | trip =>
    simp only [State.taken, State.takeTrip]
    split
    · have counted : s.EarnsNothing (s.modSocket n fun k => k.tripped (s.isRetry n)) := .modSocket s n
      split
      · exact counted.trans (((State.Handled.move _ n (by simp)).trans (.modFeed _ _)).trans (.requeued _ n)).earnsNothing
      · exact counted.trans (.fail _ n _)
    · exact .refl s
  | shed =>
    simp only [State.taken, State.takeShed]
    split_ifs
    · exact ((State.Handled.shedMove s n).trans (.evaluate _ _)).earnsNothing
    · exact ((State.Handled.shedMove s n).trans (.requeued _ n)).earnsNothing
    · exact .refl s
  | failure c => exact .fail s n c

theorem State.EarnsNothing.takeNotices (n : Sock) : ∀ (k : Nat) (s : State), s.EarnsNothing (State.takeNotices n k s)
  | 0, s => .refl s
  | k + 1, s => by
    unfold State.takeNotices
    split
    · rename_i r _
      split
      · exact ((State.Handled.drop s r).earnsNothing.trans (.taken _ n .notSettled)).trans (.takeNotices n k _)
      · exact .refl s
    · exact .refl s

theorem State.EarnsNothing.takeReport (s : State) (n : Sock) (kind : ReportKind) :
    s.EarnsNothing (s.takeReport n kind (·.taken n kind)) := by
  rcases s.takeReport_cases n kind (·.taken n kind) with ⟨-, e⟩ | ⟨-, e⟩ <;> rw [e]
  · exact ((State.Handled.drop s _).earnsNothing.trans (.taken _ n kind)).trans (.takeNotices n _ _)
  · exact .refl s

/-! ### Expiries (log entry 2) -/

theorem State.EarnsNothing.passEnd (s : State) : s.EarnsNothing s.passEnd := by
  have counted : s.EarnsNothing s.settlePasses := .of_credits fun n => by
    obtain ⟨-, -, -, -, credit, -⟩ := s.settlePasses_kept n
    exact credit
  unfold State.passEnd
  dsimp only
  split
  · exact .refl s
  · exact counted.trans (State.Handled.idle _ _).earnsNothing
  · have left : ∀ k, s.settlePasses.Handled { s.settlePasses with
        engine := { s.settlePasses.engine with repeatsLeft := k } } := fun k =>
      .engine _ (g := { s.settlePasses.engine with repeatsLeft := k }) rfl
    split
    · exact counted.trans ((left _).trans (.followLink _)).earnsNothing
    · exact counted.trans ((left _).trans (.nextPass _)).earnsNothing

theorem State.EarnsNothing.releaseAll (s : State) : s.EarnsNothing s.releaseAll := by
  refine (State.EarnsNothing.foldl _ (fun t n => ?_) s).trans (State.Handled.raise _ _ _).earnsNothing
  unfold State.releaseUnattended
  split
  · exact (State.EarnsNothing.modSocket t n).trans (State.Handled.moveAdmit _ n (by simp)).earnsNothing
  · exact .refl t

theorem State.EarnsNothing.endCalibration (s : State) (n : Sock) : s.EarnsNothing (s.endCalibration n) := by
  unfold State.endCalibration
  split
  · exact .refl s
  · rename_i c _
    have measured : s.EarnsNothing (s.modRail n fun r => r.calibrated c.mean) := .modSocket s n
    refine measured.trans (.of_sockets ?_)
    unfold State.answerCalibration
    split <;> rfl

theorem State.EarnsNothing.fire (s : State) (e : Expiry) : s.EarnsNothing (s.fire e) := by
  have sent : ∀ (t : State) n kind, t.EarnsNothing (t.send n kind) := fun t n kind => (State.Handled.send t n kind).earnsNothing
  cases e with
  | rampTimeout n | moveTimeout n | unregulated n | contactLoss n | excursion n | runaway n =>
    exact (State.EarnsNothing.modSocket s n).trans (sent _ n _)
  | qualification n =>
    simp only [State.fire, State.qualify]
    split
    · exact (State.EarnsNothing.modSocket s n).trans (sent _ n _)
    · exact .refl s
  | trip n => exact (State.Handled.takeOff s n).earnsNothing.trans (sent _ n _)
  | shed f =>
    simp only [State.fire, State.shedNewest]
    split
    · exact (State.Handled.modFeed s f).earnsNothing
    · exact (((State.Handled.modFeed s f).trans (.takeOff _ _)).trans ((State.Handled.send _ _ _).trans (.raise _ _ _))).earnsNothing
  | calibrationEnd n => exact .endCalibration s n
  | thermallySettled n => exact sent s n _
  | notSettled n =>
    simp only [State.fire, State.noticeNotSettled]
    split
    · exact sent s n _
    · exact .taken s n .notSettled
  | settleTimeout n => exact .fail s n _
  | cleanRun n => exact .modSocket s n
  | linkSilence => exact (State.EarnsNothing.of_sockets (t := s.goUnattended) rfl).trans (.releaseAll s.goUnattended)
  | releases => exact .releaseAll s
  | passEnd => exact .passEnd s

theorem State.EarnsNothing.fires (s : State) (now later : List Expiry) :
    s.EarnsNothing (now.foldl State.fire { s with due := later }) :=
  (State.EarnsNothing.of_sockets (t := { s with due := later }) rfl).trans (.foldl now .fire _)

theorem State.EarnsNothing.settled (s : State) : s.EarnsNothing s.settled := .fires s _ _

theorem State.EarnsNothing.occur (s : State) (e : Expiry) : s.EarnsNothing (s.occur e) := by
  unfold State.occur
  split
  · exact .fires s _ _
  · exact .refl s

theorem State.EarnsNothing.beforeReport (s : State) : s.EarnsNothing s.beforeReport := by
  unfold State.beforeReport
  split_ifs
  · exact (State.EarnsNothing.fires s _ _).trans (.of_sockets rfl)
  · exact .fires s _ _
  · exact .settled s

/-! ### Ticks and vector steps -/

theorem State.EarnsNothing.sampleTick (s : State) (readings : Vector SenseReading 16) :
    s.EarnsNothing (s.sampleTick readings) :=
  .of_credits fun n => by rw [State.sampleTick_socket]; rfl

theorem State.EarnsNothing.thermalTick (s : State) (readings : Vector Int 16) : s.EarnsNothing (s.thermalTick readings) :=
  .of_credits fun n => by rw [State.thermalTick_socket]; exact (Socket.ticked_others _ _ _).1

theorem State.EarnsNothing.vectorStep (s : State) (e : EntryNo) (responses : Vector Byte 16) :
    s.EarnsNothing (s.vectorStep e responses) :=
  .of_credits fun n => by rw [State.vectorStep_socket]; split <;> rfl

/-- A second tick gives credit to an eligible socket alone (R125, R126). -/
theorem State.eligible_of_secondTick {s : State} {n : Sock}
    (grows : (s.socket n).credit.credit < (s.secondTick.socket n).credit.credit) : s.eligible n = true := by
  by_contra idle
  obtain ⟨-, stays, -⟩ := s.accruedAt_counts n
  rw [State.secondTick_credit, stays (by simpa using idle)] at grows
  exact lt_irrefl _ grows

/-! ### Requests, loads and resets -/

/-- The owner of a request gives no credit: two clear it (R149, R150), and the others leave it. -/
theorem State.Answered.earnsNothing {s t : State} {code : Byte} (h : s.Answered code t) : s.EarnsNothing t := by
  have others := fun one all n => ((h.requested.sockets n).account one all).1.le
  cases h with
  | same => exact .refl s
  | accountCleared n => exact .modSocket s n fun _ => Nat.zero_le _
  | accountsCleared =>
    intro n
    rw [State.clearAccounts_socket]
    exact Nat.zero_le _
  | _ => exact others (by decide) (by decide)

theorem State.EarnsNothing.boardReset (s : State) (retain : Bool) : s.EarnsNothing (s.boardReset retain) := fun n => by
  rw [State.boardReset_socket]
  exact le_rfl

theorem State.EarnsNothing.endLoad (s : State) (i : Identity) : s.EarnsNothing (s.endLoad i) := .of_credits fun n => by
  rw [State.endLoad_socket]
  rcases ((s.socket n).populate_cases (SocketSet.has i.population n)).2 with e | ⟨st, -, -, e⟩ <;> rw [e]
  rfl

/-- Nothing that the line brings about gives credit. -/
theorem State.EarnsNothing.line (s : State) : LineKeeps s.EarnsNothing where
  reply _ _ h := h
  count _ _ h := h
  attend _ h := h
  receiver _ _ h := h
  reset t retain h := h.trans (.boardReset t retain)
  owner _ _ _ _ answered h := h.trans answered.earnsNothing

/-! ### Every command -/

/-- No command but a second tick gives credit (R124). -/
theorem exec_earnsNothing {c : Instr} {s t : State} (other : c ≠ .secondTick) (ht : exec c s = .next t) : s.EarnsNothing t := by
  have settled := State.EarnsNothing.settled s
  have line := State.EarnsNothing.line s
  cases hr : requestOfRow c with
  | some x =>
    obtain ⟨k, dst, p⟩ := x
    rw [exec_request hr] at ht
    cases ht
    obtain ⟨present, seen⟩ := s.settled.seen_eq c
    exact line.request _ _ _ _ (fun r e => Option.some.inj e ▸ requestOfRow_mem hr) (by rw [seen]; exact settled)
  | none =>
  cases he : expiryOfRow c with
  | some e => rcases exec_expiry he s with h | h <;> (rw [h] at ht; cases ht; exact .occur s _)
  | none =>
  cases hq : reportOfRow c with
  | some r =>
    rw [exec_report (n := r.socket) (kind := r.kind) hq] at ht
    cases ht
    exact (State.EarnsNothing.beforeReport s).trans (.takeReport _ _ _)
  | none =>
  cases c <;> simp only [requestOfRow, expiryOfRow, reportOfRow, reduceCtorEq] at hr he hq <;>
    simp only [exec, execPowerOn, execIdentityLoadEnd, execSampleTick, execThermalTick, execSecondTick, execStoreUpset,
      execFrameGapTimeout, execFramingError, execOtherReplyPassed, execCrcErrorFrame, execFrameForOthers, execBadKindFrame,
      execReplyTransmitStart, execReplySent, execVectorStep, Host.Outcome.next.injEq] at ht <;> subst ht
  case powerOn =>
    intro n
    exact (congrArg (fun k => k.credit.credit) (State.reset_socket n)).trans_le (Nat.zero_le _)
  case identityLoadEnd => split; exacts [settled, settled.trans (.endLoad _ _)]
  case sampleTick => split; exacts [settled, settled.trans (.sampleTick _ _)]
  case thermalTick => split; exacts [settled.trans (.thermalTick _ _), settled]
  case secondTick => exact absurd rfl other
  case storeUpset => exact settled
  case frameGapTimeout => exact line.lineBreak (line.receiveAll _ settled)
  case framingError => split; exacts [line.lineBreak (line.receiveAll _ settled), line.receiveAll _ settled]
  case otherReplyPassed => exact line.receiveAll _ settled
  case crcErrorFrame => exact line.receiveAll _ settled
  case frameForOthers => exact line.request _ _ _ _ (fun r e => requestKindOf_listed e) settled
  case badKindFrame => exact line.request _ _ _ _ (fun r e => requestKindOf_listed e) settled
  case replyTransmitStart => split; exacts [line.reply _ _ settled, settled]
  case replySent =>
    split
    · split
      · exact line.count _ _ (line.reply _ _ settled)
      · exact line.reset _ _ (line.count _ _ (line.reply _ _ settled))
    · exact settled
  case vectorStep => split; exacts [settled.trans (.vectorStep _ _ _), settled]

/-- Settles O59: a command under which credit grows is a second tick, and the socket was eligible at it. -/
theorem creditGrowsOnlyWhenEligible : Obligations.CreditGrowsOnlyWhenEligible := by
  unfold Obligations.CreditGrowsOnlyWhenEligible
  intro c s t n ht grows
  by_cases tick : c = .secondTick
  · subst tick
    rw [exec, execSecondTick, Host.Outcome.next.injEq] at ht
    subst ht
    split at grows
    · exact absurd (State.EarnsNothing.settled s n) grows.not_ge
    · have eligible := State.eligible_of_secondTick ((State.EarnsNothing.settled s n).trans_lt grows)
      obtain ⟨run, busy, qualified, inWindow⟩ := (s.settled.eligible_iff n).mp eligible
      exact ⟨rfl, run, busy, qualified, inWindow⟩
  · exact absurd (exec_earnsNothing tick ht n) grows.not_ge

end Sys2Proof.Machine
end

section
/-!
PROOFS. Load Factor Point (R120, R121): the point in the request's bytes, the first failing point of a commit, and the request itself.
-/

namespace Sys2Proof.Machine

/-! ### The point in the request's bytes (R120, R183) -/

/-- A signed 16-bit integer reads back as it was written (R183). -/
theorem int16_leInt16 {z : Int} (low : -32768 ≤ z) (high : z ≤ 32767) (rest : List Byte) : int16 (leInt16 z ++ rest) 0 = z := by
  rw [int16, leInt16, nat16_le16, Nat.mod_eq_of_lt (BitVec.isLt _), BitVec.ofNat_toNat, BitVec.setWidth_eq, BitVec.toInt_ofInt]
  exact Int.bmod_eq_of_le (by omega) (by omega)

section point
variable (b last : Byte) {temp : Int} {factor : Nat}

theorem pointBytes_temp (low : -32768 ≤ temp) (high : temp ≤ 32767) :
    int16 ([b] ++ leInt16 temp ++ le16 factor ++ [last]) 1 = temp :=
  int16_leInt16 low high (le16 factor ++ [last])

theorem pointBytes_factor (fits : factor ≤ 65535) : nat16 ([b] ++ leInt16 temp ++ le16 factor ++ [last]) 3 = factor :=
  (nat16_le16 factor [last]).trans (Nat.mod_eq_of_lt (by omega))

theorem pointBytes_final : nat8 ([b] ++ leInt16 temp ++ le16 factor ++ [last]) 5 = last.toNat := rfl

/-- A point out of range, or with a final flag above 1, is refused (R120; log entry 30). -/
theorem loadFactorPointKind_refuses (low : -32768 ≤ temp) (high : temp ≤ 32767)
    (bad : 15 < b.toNat ∨ temp < -500 ∨ 2500 < temp ∨ 1 < last.toNat) (s : State) :
    loadFactorPointKind.carryOut ([b] ++ leInt16 temp ++ le16 factor ++ [last]) s = (s, .now .badArg []) := by
  simp only [loadFactorPointKind, pointBytes_temp b last low high, pointBytes_final]
  split
  · rfl
  · rename_i slot named
    have small : ¬15 < b.toNat := fun above => by
      rw [show byteAt ([b] ++ leInt16 temp ++ le16 factor ++ [last]) 0 = b from rfl, sockOf_above above] at named
      cases named
    exact if_neg (by omega)

/-- A point in range is loaded (R120, R121). -/
theorem loadFactorPointKind_loads (slot : Sock) (low : -500 ≤ temp) (high : temp ≤ 2500) (fits : factor ≤ 65535)
    (flag : last.toNat ≤ 1) (s : State) :
    loadFactorPointKind.carryOut ([sockCode slot] ++ leInt16 temp ++ le16 factor ++ [last]) s =
      ({ s with factors := (s.factors.loadPoint slot ⟨temp, factor⟩ (last.toNat == 1)).1 },
        (s.factors.loadPoint slot ⟨temp, factor⟩ (last.toNat == 1)).2) := by
  have named : sockOf (byteAt ([sockCode slot] ++ leInt16 temp ++ le16 factor ++ [last]) 0) = some slot := sockOf_sockCode slot
  simp only [loadFactorPointKind, named, pointBytes_temp (sockCode slot) last (by omega : -32768 ≤ temp) (by omega),
    pointBytes_factor (sockCode slot) last fits, pointBytes_final]
  exact if_pos ⟨low, high, flag⟩

end point

/-! ### The slots of a commit -/

theorem Factors.firstSlots_length (f : Factors) (slot : Sock) : (f.firstSlots (slot.val + 1)).length = slot.val + 1 := by
  rw [Factors.firstSlots, List.length_take, Vector.length_toList]
  omega

theorem Factors.firstSlots_getElem (f : Factors) (slot : Sock) {i : Nat} (h : i < (f.firstSlots (slot.val + 1)).length) :
    (f.firstSlots (slot.val + 1))[i] = f.slots.get ⟨i, by rw [f.firstSlots_length] at h; omega⟩ := by
  simp only [Factors.firstSlots, List.getElem_take, Vector.getElem_toList, Vector.get_eq_getElem]

/-- Slots that hold the points of a list hold nothing else. -/
theorem Factors.firstSlots_eq_map {f : Factors} {slot : Sock} {points : List FactorPoint} (length : points.length = slot.val + 1)
    (hold : ∀ i : Sock, i ≤ slot → f.slots.get i = points[i.val]?) : f.firstSlots (slot.val + 1) = points.map some := by
  have slots := f.firstSlots_length slot
  refine List.ext_getElem (by rw [slots, List.length_map, length]) fun i below _ => ?_
  rw [f.firstSlots_getElem slot below, hold ⟨i, _⟩ (Nat.le_of_lt_succ (below.trans_eq slots)), List.getElem_map]
  exact List.getElem?_eq_getElem _

/-- Slots that are all written hold the points of a list. -/
theorem Factors.points_of_written {f : Factors} {slot : Sock} (written : ∀ i : Sock, i ≤ slot → f.slots.get i ≠ none) :
    ∃ points : List FactorPoint, f.firstSlots (slot.val + 1) = points.map some := by
  have lifted : f.firstSlots (slot.val + 1) ∈ Set.range (List.map some) := by
    rw [Set.range_list_map]
    intro x hx
    obtain ⟨i, below, rfl⟩ := List.mem_iff_getElem.mp hx
    rw [f.firstSlots_getElem slot below]
    exact Option.ne_none_iff_exists.mp (written _ (Nat.le_of_lt_succ (below.trans_eq (f.firstSlots_length slot))))
  obtain ⟨points, hold⟩ := lifted
  exact ⟨points, hold.symm⟩

/-- The points of a commit, slot by slot. -/
theorem Factors.slot_of_points {f : Factors} {slot : Sock} {points : List FactorPoint}
    (hold : f.firstSlots (slot.val + 1) = points.map some) {i : Sock} (within : i ≤ slot) : f.slots.get i = points[i.val]? := by
  have below : i.val < (f.firstSlots (slot.val + 1)).length := by rw [f.firstSlots_length]; exact Nat.lt_succ_of_le within
  have entry := (f.firstSlots_getElem slot below).symm
  simp only [hold, List.getElem_map] at entry
  rw [entry, List.getElem?_eq_getElem]

/-! ### The first failing point (R121) -/

/-- Of rising temperatures none fails. -/
theorem notRising_of_rising {p : FactorPoint} {rest : List FactorPoint} (k : Nat)
    (rising : (p :: rest).Pairwise fun a c => a.temp < c.temp) : notRising p.temp k rest = none := by
  induction rest generalizing p k with
  | nil => rfl
  | cons q rest ih =>
    obtain ⟨above, rising⟩ := List.pairwise_cons.mp rising
    rw [notRising, if_pos (above q (by simp))]
    exact ih (k + 1) rising

/-- The first temperature that is not above the one before it fails. -/
theorem notRising_first {p a c : FactorPoint} {rest : List FactorPoint} {i : Nat} (k : Nat) (before : (p :: rest)[i]? = some a)
    (at_i : rest[i]? = some c) (falls : c.temp ≤ a.temp)
    (rising : ∀ j a c, j < i → (p :: rest)[j]? = some a → rest[j]? = some c → a.temp < c.temp) :
    notRising p.temp k rest = some (k + i) := by
  induction rest generalizing p k i with
  | nil => cases at_i
  | cons q rest ih =>
    cases i with
    | zero =>
      cases before
      cases at_i
      rw [notRising, if_neg (by omega)]
      rfl
    | succ i =>
      rw [notRising, if_pos (rising 0 p q (by omega) rfl rfl), ih (k + 1) before at_i fun j a c below => rising (j + 1) a c (by omega)]
      congr 1
      omega

/-- A commit that meets an unwritten slot fails at the lowest. -/
theorem Factors.failing_unwritten {f : Factors} {slot k : Sock} (more : slot.val ≠ 0) (within : k ≤ slot)
    (unwritten : f.slots.get k = none) (first : ∀ i, i < k → f.slots.get i ≠ none) : f.failing (slot.val + 1) = some k.val := by
  have found : (f.firstSlots (slot.val + 1)).findIdx? Option.isNone = some k.val := by
    rw [List.findIdx?_eq_some_iff_getElem]
    refine ⟨by rw [f.firstSlots_length]; exact Nat.lt_succ_of_le within, ?_, fun i below => ?_⟩
    · rw [f.firstSlots_getElem]
      exact Option.isNone_iff_eq_none.mpr unwritten
    · rw [f.firstSlots_getElem, Option.isNone_iff_eq_none]
      exact first ⟨i, _⟩ below
  simp only [Factors.failing, if_neg (show slot.val + 1 ≠ 1 by omega), found]

theorem reduceOption_map_some {α : Type} (l : List α) : (l.map some).reduceOption = l := by
  simp [List.reduceOption, List.filterMap_map]

/-- A commit of written slots fails where the temperatures do not rise. -/
theorem Factors.failing_written {f : Factors} {c : Nat} (more : c ≠ 1) {p : FactorPoint} {rest : List FactorPoint}
    (hold : f.firstSlots c = (p :: rest).map some) : f.failing c = notRising p.temp 1 rest := by
  have written : ((p :: rest).map some).findIdx? Option.isNone = none := by simp
  simp only [Factors.failing, if_neg more, hold, written, reduceOption_map_some]

/-- A commit of written slots fails at the first temperature that is not above the one before it (R121). -/
theorem Factors.failing_falls {f : Factors} {slot j k : Sock} (next : j.val + 1 = k.val) (within : k ≤ slot)
    (written : ∀ i : Sock, i ≤ slot → f.slots.get i ≠ none)
    (falls : ∃ a c, f.slots.get j = some a ∧ f.slots.get k = some c ∧ c.temp ≤ a.temp)
    (rising : ∀ i h : Sock, h.val + 1 = i.val → i < k →
      ∃ a c, f.slots.get h = some a ∧ f.slots.get i = some c ∧ a.temp < c.temp) : f.failing (slot.val + 1) = some k.val := by
  obtain ⟨points, hold⟩ := Factors.points_of_written written
  have top : k.val ≤ slot.val := within
  have slotAt : ∀ {i : Sock}, i.val ≤ k.val → f.slots.get i = points[i.val]? := fun low => Factors.slot_of_points hold (low.trans top)
  obtain ⟨a, c, before, after, falls⟩ := falls
  rw [slotAt (by omega)] at before
  rw [slotAt le_rfl, ← next] at after
  cases points with
  | nil => cases after
  | cons p rest =>
    rw [Factors.failing_written (by omega) hold, notRising_first 1 before after falls, ← next, Nat.add_comm]
    intro h a c below at_h at_i
    obtain ⟨a', c', first, second, rises⟩ := rising ⟨h + 1, by omega⟩ ⟨h, by omega⟩ rfl (Fin.lt_def.mpr (by simp; omega))
    rw [slotAt (by simp; omega)] at first second
    cases at_h.symm.trans first
    cases at_i.symm.trans second
    exact rises

/-! ### The commit (R121) -/

/-- A commit that fails leaves the active table, empties the pending one, and names the point. -/
theorem Factors.loadPoint_fails {f : Factors} {slot : Sock} {point : FactorPoint} {k : Nat}
    (fails : (f.write slot point).failing (slot.val + 1) = some k) :
    f.loadPoint slot point true = ({ active := f.active, slots := Vector.replicate 16 none },
      .now .badArg [BitVec.ofNat 8 (slot.val + 1), BitVec.ofNat 8 k]) := by
  simp only [Factors.loadPoint, Factors.commit, fails]
  rfl

/-- A commit of two or more points that rise makes them the active table. -/
theorem Factors.loadPoint_commits {f : Factors} {slot : Sock} {point : FactorPoint} {points : List FactorPoint}
    (more : slot.val ≠ 0) (nonempty : points ≠ [])
    (hold : (f.write slot point).firstSlots (slot.val + 1) = points.map some)
    (rising : points.Pairwise fun a c => a.temp < c.temp) :
    f.loadPoint slot point true =
      ({ active := points, slots := Vector.replicate 16 none }, .now .ok [BitVec.ofNat 8 (slot.val + 1)]) := by
  obtain ⟨p, rest, rfl⟩ := List.exists_cons_of_ne_nil nonempty
  have passes : (f.write slot point).failing (slot.val + 1) = none :=
    (Factors.failing_written (by omega) hold).trans (notRising_of_rising 1 rising)
  simp only [Factors.loadPoint, Factors.commit, passes, hold, reduceOption_map_some]
  rfl

/-! ### The request (R120, R121) -/

/-- A point in range, heard: it is loaded, and the answer given (R120, R121). -/
theorem State.Hears.loadsPoint {s : State} {dst : Byte} (h : s.Hears dst) (slot : Sock) {temp : Int} {factor : Nat}
    (low : -500 ≤ temp) (high : temp ≤ 2500) (fits : factor ≤ 65535) {last : Byte} (flag : last.toNat ≤ 1) {f : Factors}
    {r : Response} (loads : s.factors.loadPoint slot ⟨temp, factor⟩ (last.toNat == 1) = (f, r)) :
    exec (.loadFactorPoint dst ([sockCode slot] ++ leInt16 temp ++ le16 factor ++ [last])) s =
      .next (({ s.heard with factors := f } : State).respond 0x40#8 r) :=
  h.exec_plain (c := .loadFactorPoint dst _) rfl rfl rfl (by simp [leInt16, le16])
    ((loadFactorPointKind_loads last slot low high fits flag s.heard).trans (by
      rw [show s.heard.factors = s.factors from rfl, loads]))

/-- Settles O46: the point is refused, written, or committed with the others, by the first failing point of the commit. -/
theorem factorPointsCommitAllOrNothing : Obligations.FactorPointsCommitAllOrNothing := by
  unfold Obligations.FactorPointsCommitAllOrNothing
  refine ⟨fun dst b last temp factor s h low high _ bad => ?_, fun dst slot temp factor s h low high fits => ?_⟩
  · exact h.exec_plain (c := .loadFactorPoint dst _) rfl rfl rfl (by simp [leInt16, le16])
      (loadFactorPointKind_refuses b last low high bad s.heard)
  intro request slots count failsAt
  have fails : ∀ {k}, (s.factors.write slot ⟨temp, factor⟩).failing (slot.val + 1) = some k → failsAt k := fun fails =>
    ⟨_, h.loadsPoint slot low high fits (last := 1#8) (by decide) (Factors.loadPoint_fails fails), rfl, rfl, rfl⟩
  refine ⟨?_, fun points length two hold rising => ?_, fun first => fails ?_, fun k within unwritten first => fails ?_,
    fun k j next within written falls rising => fails ?_⟩
  · exact ⟨_, _, h.loadsPoint slot low high fits (last := 0#8) (by decide) rfl, rfl, rfl, fun i => SocketSet.has_setWhere _ i⟩
  · exact ⟨_, h.loadsPoint slot low high fits (last := 1#8) (by decide)
      (Factors.loadPoint_commits (by omega) (List.ne_nil_of_length_pos (by omega)) (Factors.firstSlots_eq_map length hold) rising),
      rfl, rfl⟩
  · rw [first]
    rfl
  · refine Factors.failing_unwritten (fun only => ?_) within unwritten first
    have self : k = slot := Fin.ext (by have : k.val ≤ slot.val := within; omega)
    rw [self] at unwritten
    simp [slots, Vector.get_eq_getElem] at unwritten
  · exact Factors.failing_falls next within written falls rising

end Sys2Proof.Machine
end

section
/-!
PROOFS. The requests that clear and trim what the FAU keeps: Clear Accounts (R22, R150), Trim Log (R146) and Set Log Threshold (R147).
-/

namespace Sys2Proof.Machine

/-! ### Clear Accounts (R22, R150) -/

theorem State.anyBusy_iff {s : State} : s.anyBusy = true ↔ ∃ n, (s.socket n).scu.state.busy = true := by
  simp [State.anyBusy]

theorem State.anyBusy_eq_false_iff {s : State} : s.anyBusy = false ↔ ∀ n, (s.socket n).scu.state.busy = false := by
  simp [State.anyBusy]

@[simp] theorem State.heard_anyBusy (s : State) : s.heard.anyBusy = s.anyBusy := by
  simp only [State.anyBusy, State.heard_socket]

/-- Among the states that are neither QUEUED nor powered, ABSENT alone is kept. -/
theorem SocketState.afterClear_eq {st : SocketState} (free : st.busy = false) :
    st.afterClear = if st = .absent then .absent else .off := by
  cases st with
  | absent | off | safe | done => rfl
  | queued | ramp | settle | run | pause | hold => cases free

/-- The state that a Clear Accounts leaves when it is not refused (R150); `clearAccountsKind_clears` ties it to the request. -/
def State.accountsCleared (s : State) : State :=
  { s.mapSockets (fun _ k => k.cleared k.scu.state.afterClear) with log := s.log.cleared }

theorem State.accountsCleared_socket (s : State) (n : Sock) :
    s.accountsCleared.socket n = (s.socket n).cleared (s.socket n).scu.state.afterClear :=
  s.clearAccounts_socket n

theorem State.accountsCleared_events (s : State) : s.accountsCleared.events = s.events := rfl

theorem clearAccountsKind_refuses {s : State} (busy : s.anyBusy = true) (p : List Byte) :
    clearAccountsKind.carryOut p s = (s, .now .busy []) := if_pos busy

theorem clearAccountsKind_clears {s : State} (free : s.anyBusy = false) (p : List Byte) :
    clearAccountsKind.carryOut p s = (s.accountsCleared, .now .ok []) := if_neg (Bool.eq_false_iff.mp free)

theorem clearAccounts_exec {s : State} {dst : Byte} (h : s.Hears dst) {t : State} {r : Response}
    (carry : clearAccountsKind.carryOut [] s.heard = (t, r)) : exec (.clearAccounts dst []) s = .next (t.respond 0x17#8 r) :=
  h.exec_plain (c := .clearAccounts dst []) rfl rfl rfl (by simp) carry

/-- Settles O19: a busy socket refuses the request; with none busy, each socket is cleared as R149 clears one. -/
theorem clearingAllAccounts : Obligations.ClearingAllAccounts := by
  unfold Obligations.ClearingAllAccounts
  intro dst s h
  refine ⟨fun busy => ?_, fun free => ?_⟩
  · have refused : s.heard.anyBusy = true := s.heard_anyBusy.trans (State.anyBusy_iff.mpr busy)
    exact clearAccounts_exec h (clearAccountsKind_refuses refused [])
  · have taken : s.heard.anyBusy = false := s.heard_anyBusy.trans (State.anyBusy_eq_false_iff.mpr free)
    have clears := clearAccounts_exec h (clearAccountsKind_clears taken [])
    refine ⟨_, clears, rfl, rfl, s.heard.accountsCleared_events, fun n => ?_⟩
    have socket : (s.heard.accountsCleared.respond 0x17#8 (.now .ok [])).socket n =
        (s.socket n).cleared (s.socket n).scu.state.afterClear :=
      (s.heard.accountsCleared_socket n).trans (by rw [State.heard_socket])
    rw [socket]
    exact ⟨SocketState.afterClear_eq (free n), rfl, rfl, rfl, rfl, rfl, rfl, rfl, rfl, rfl, rfl, rfl⟩

/-! ### Trim Log (R146) -/

/-- A trim by a count is a trim by the count clamped to the records present. -/
theorem FailLog.trim_eq (l : FailLog) (n : Nat) :
    l.trim n =
      { l with
          records := l.records.drop (min n l.records.length),
          trimmed := (l.trimmed + min n l.records.length) % 4294967296,
          thresholdArmed := l.thresholdArmed || decide (l.records.length - min n l.records.length < l.threshold),
          fullArmed := l.fullArmed || decide (l.records.length - min n l.records.length < 128) } := by
  have clamped : l.records.drop n = l.records.drop (min n l.records.length) := List.drop_eq_drop_min
  simp only [FailLog.trim, clamped, List.length_drop, Config.logRoom]

theorem trimLogKind_carryOut (b : Byte) (s : State) :
    trimLogKind.carryOut [b] s =
      ({ s with log := s.log.trim b.toNat },
        .now .ok (BitVec.ofNat 8 (min b.toNat s.log.records.length) :: writeSummaryBytes (s.log.trim b.toNat))) := rfl

/-! ### Set Log Threshold (R147) -/

theorem setLogThresholdKind_refuses {b : Byte} (outside : b.toNat = 0 ∨ 128 < b.toNat) (s : State) :
    setLogThresholdKind.carryOut [b] s = (s, .now .badArg []) :=
  if_neg fun (range : 1 ≤ b.toNat ∧ b.toNat ≤ 128) => by omega

theorem setLogThresholdKind_sets {b : Byte} (low : 1 ≤ b.toNat) (high : b.toNat ≤ 128) (s : State) :
    setLogThresholdKind.carryOut [b] s =
      ({ s with log := s.log.setThreshold b.toNat }, .now .ok (writeSummaryBytes (s.log.setThreshold b.toNat))) :=
  if_pos ⟨low, high⟩

theorem setLogThreshold_exec {s : State} {dst b : Byte} (h : s.Hears dst) {t : State} {r : Response}
    (carry : setLogThresholdKind.carryOut [b] s.heard = (t, r)) :
    exec (.setLogThreshold dst [b]) s = .next (t.respond 0x4B#8 r) :=
  h.exec_plain (c := .setLogThreshold dst [b]) rfl rfl rfl (by simp) carry

/-- Settles O47: either request changes the log alone, and its reply shows the log so changed. -/
theorem theLogIsTrimmedAndItsThresholdSet : Obligations.TheLogIsTrimmedAndItsThresholdSet := by
  unfold Obligations.TheLogIsTrimmedAndItsThresholdSet
  intro dst b s h
  refine ⟨?_, fun outside => setLogThreshold_exec h (setLogThresholdKind_refuses outside s.heard), fun low high => ?_⟩
  · have trims := h.exec_plain (c := .trimLog dst [b]) rfl rfl rfl (by simp) (trimLogKind_carryOut b s.heard)
    exact ⟨_, trims, rfl, rfl, s.log.trim_eq b.toNat, rfl⟩
  · exact ⟨_, setLogThreshold_exec h (setLogThresholdKind_sets low high s.heard), rfl, rfl, rfl, rfl⟩

end Sys2Proof.Machine
end

section
/-!
PROOFS. A whole request frame on an open link (R165, R169): the match of its destination, the table of the kinds and their lengths
(R184), and the frame that is carried out or refused without a reply (R171).
-/

namespace Sys2Proof.Machine

/-! ### A frame on an open link (R165, R169) -/

theorem State.seen_link (s : State) (c : Instr) : (s.seen c).link = s.link := by
  obtain ⟨x, e⟩ := s.seen_eq c
  rw [e]

theorem State.Open.seen {s : State} (h : s.Open) (c : Instr) : (s.seen c).Open := by
  obtain ⟨x, e⟩ := s.seen_eq c
  rw [e]
  exact ⟨h.due, h.phase, h.receiver, h.reply⟩

theorem State.Open.listening {s : State} (h : s.Open) : s.listening = true := by
  simp [State.listening, h.phase, h.reply]

theorem State.Open.abandonReply {s : State} (h : s.Open) : s.abandonReply = s := by
  simp [State.abandonReply, h.reply]

/-- With nothing under way a frame is taken whole: its marker abandons nothing (R165, R173; log entry 17). -/
theorem State.Open.request {s : State} (h : s.Open) (dst kind : Byte) (k : Option RequestKind) {p : List Byte}
    (short : p.length ≤ Config.maxPayload) : s.request dst kind k p = s.takeFrame dst kind k p := by
  rw [State.request, h.receiver]
  simp only [State.receiveRequest, h.listening, h.abandonReply, h.phase, short, if_true]

theorem State.Open.exec_row {s : State} (h : s.Open) {c : Instr} {k : RequestKind} {dst : Byte} {p : List Byte}
    (row : requestOfRow c = some (k, dst, p)) (short : p.length ≤ Config.maxPayload) :
    exec c s = .next ((s.seen c).takeFrame dst k.code (some k) p) := by
  rw [exec_request row, s.settled_of_none h.due, State.requestOf, (h.seen c).request _ _ _ short]

/-! ### The match of a destination (R168, R169, R170) -/

theorem Link.addressing_unaddressed {l : Link} {dst : Byte} (h0 : dst ≠ 0#8) (none : l.address = none) :
    l.addressing dst = .others := by
  rw [Link.addressing, if_neg h0, none]

theorem groups_contains_iff (groups : Vector Byte 8) (dst : Byte) :
    groups.contains dst = true ↔ ∃ i : Fin 8, groups.get i = dst := by
  rw [Vector.contains_iff_mem, Vector.mem_iff_getElem]
  exact ⟨fun ⟨i, hi, e⟩ => ⟨⟨i, hi⟩, e⟩, fun ⟨i, e⟩ => ⟨i.val, i.isLt, e⟩⟩

theorem Link.addressing_other {l : Link} {dst a : Byte} (h0 : dst ≠ 0#8) (ha : l.address = some a) (hne : dst ≠ a) :
    l.addressing dst =
      if 128 ≤ dst.toNat ∧ dst.toNat ≤ 254 ∧ ∃ i : Fin 8, l.groups.get i = dst then .group else .others := by
  simp only [Link.addressing, if_neg h0, ha, if_neg hne, groups_contains_iff]

/-! ### The kinds and their lengths (R184) -/

/-- No two kinds share a kind byte. -/
theorem requestKinds_code_inj {k r : RequestKind} (hk : k ∈ requestKinds) (hr : r ∈ requestKinds) (e : k.code = r.code) :
    k = r := by
  have distinct : (requestKinds.map RequestKind.code).Nodup := by decide
  exact List.inj_on_of_nodup_map distinct hk hr e

theorem requestKindOf_code {k : RequestKind} (hk : k ∈ requestKinds) : requestKindOf k.code = some k := by
  cases found : requestKindOf k.code with
  | none => exact absurd (List.find?_eq_none.mp found k hk) (by simp)
  | some r =>
    have code : r.code = k.code := by simpa using List.find?_some found
    rw [requestKinds_code_inj (requestKindOf_listed found) hk code]

theorem requestKinds_group {k : RequestKind} (hk : k ∈ requestKinds) :
    k.group = true ↔ k.code ∈ [0x11#8, 0x12#8, 0x13#8, 0x38#8, 0x39#8] := by
  have served : ∀ r ∈ requestKinds, (r.group = true ↔ r.code ∈ [0x11#8, 0x12#8, 0x13#8, 0x38#8, 0x39#8]) := by decide
  exact served k hk

/-- The kinds with one permitted length, and that length; `fixedLengths_eq` ties it to the kinds. -/
def fixedLengths : List (Byte × Nat) :=
  [(0x01#8, 0), (0x02#8, 0), (0x03#8, 8), (0x04#8, 1), (0x05#8, 1), (0x08#8, 0), (0x09#8, 2), (0x0A#8, 2), (0x10#8, 2),
    (0x11#8, 2), (0x12#8, 2), (0x13#8, 2), (0x14#8, 2), (0x15#8, 1), (0x16#8, 1), (0x17#8, 0), (0x20#8, 12), (0x21#8, 2),
    (0x22#8, 5), (0x23#8, 1), (0x24#8, 1), (0x28#8, 16), (0x29#8, 2), (0x31#8, 3), (0x32#8, 2), (0x33#8, 0), (0x34#8, 8),
    (0x35#8, 0), (0x38#8, 1), (0x39#8, 0), (0x3A#8, 0), (0x3B#8, 9), (0x3D#8, 1), (0x40#8, 6), (0x41#8, 0), (0x48#8, 1),
    (0x49#8, 2), (0x4A#8, 1), (0x4B#8, 1)]

theorem fixedLengths_eq :
    (requestKinds.filter (·.code != 0x30#8)).map (fun k => (k.code, k.lengthOk)) =
      fixedLengths.map fun x => (x.1, exactly x.2) := rfl

/-- Each kind byte but that of Load Vectors stands once in the table, with the length its kind permits. -/
theorem lengthOk_fixed {k : RequestKind} (hk : k ∈ requestKinds) (fixed : k.code ≠ 0x30#8) (length : Nat) :
    k.lengthOk length = true ↔ (k.code, length) ∈ fixedLengths := by
  have listed : (k.code, k.lengthOk) ∈ fixedLengths.map fun x => (x.1, exactly x.2) := by
    rw [← fixedLengths_eq]
    exact List.mem_map_of_mem (List.mem_filter.mpr ⟨hk, by simpa using fixed⟩)
  obtain ⟨⟨code, n⟩, mem, e⟩ := List.mem_map.mp listed
  obtain ⟨rfl, ok⟩ := Prod.mk.inj e
  have once : (fixedLengths.map Prod.fst).Nodup := by decide
  rw [← ok]
  constructor
  · intro permitted
    have same : length = n := by simpa [exactly] using permitted
    rwa [same]
  · intro mem'
    have same := List.inj_on_of_nodup_map once mem' mem rfl
    simpa [exactly] using congrArg Prod.snd same

theorem loadLength_iff (length : Nat) : loadLength length = true ↔ ∃ n, 1 ≤ n ∧ n ≤ 48 ∧ length = 2 + 5 * n := by
  simp only [loadLength, Bool.and_eq_true, decide_eq_true_eq, beq_iff_eq]
  exact ⟨fun _ => ⟨(length - 2) / 5, by omega⟩, fun ⟨n, _⟩ => by omega⟩

theorem lengthOk_iff {k : RequestKind} (hk : k ∈ requestKinds) (length : Nat) :
    k.lengthOk length = true ↔
      (k.code, length) ∈ fixedLengths ∨ (k.code = 0x30#8 ∧ ∃ n, 1 ≤ n ∧ n ≤ 48 ∧ length = 2 + 5 * n) := by
  by_cases load : k.code = 0x30#8
  · obtain rfl : k = loadVectorsKind := requestKinds_code_inj hk (by simp [requestKinds]) load
    have absent : ∀ x ∈ fixedLengths, x.1 ≠ 0x30#8 := by decide
    have unlisted : (loadVectorsKind.code, length) ∉ fixedLengths := fun mem => absent _ mem rfl
    exact (loadLength_iff length).trans ⟨fun h => .inr ⟨rfl, h⟩, fun h => (h.resolve_left unlisted).2⟩
  · exact (lengthOk_fixed hk load length).trans ⟨.inl, fun h => h.resolve_right fun other => load other.1⟩

/-! ### Group and broadcast frames (R171) -/

theorem State.takeGroup_listed (s : State) (k : RequestKind) (p : List Byte) :
    s.takeGroup (some k) p =
      if k.group && k.lengthOk p.length then (k.carryOut p s).1 else s.count LinkCounters.addRefusal := by
  simp only [State.takeGroup, Bool.and_eq_true]

/-- Settles O8: a frame on an open link is matched, and a group or broadcast frame is a good frame that its kind carries out or that
is refused; the table of kinds is read off one list. -/
theorem groupRequestsAreNotAnswered : Obligations.GroupRequestsAreNotAnswered := by
  unfold Obligations.GroupRequestsAreNotAnswered
  refine ⟨fun l dst => ⟨?_, Link.addressing_unaddressed, fun h0 ha => Link.addressing_own ha h0,
    fun _ => Link.addressing_other⟩, fun c k dst p s row h group short => ?_, fun c k dst p row => ?_⟩
  · rintro rfl
    exact l.addressing_broadcast
  · have matched : (s.seen c).link.addressing dst = .group := by rw [s.seen_link, group]
    rw [h.exec_row row short, State.takeFrame_group _ _ _ _ _ matched, State.takeGroup_listed]
    simp only [State.count, LinkCounters.addGood, LinkCounters.addRefusal, satInc, s.seen_link, Config.max16]
  · have listed := requestOfRow_mem row
    exact ⟨requestKindOf_code listed, requestKinds_group listed, lengthOk_iff listed⟩

end Sys2Proof.Machine
end

section
/-!
PROOFS. Frames that reach no owner: those for others and of unknown kinds (R169, R171), and a request with a bad CRC, taken byte by
byte (R165, R166, R167).
-/

namespace Sys2Proof.Machine

/-! ### Bytes at an offset (R183) -/

theorem byteAt_append_left {a : List Byte} {i : Nat} (h : i < a.length) (b : List Byte) : byteAt (a ++ b) i = byteAt a i :=
  List.getD_append a b 0#8 i h

theorem byteAt_append_right (a b : List Byte) (i : Nat) : byteAt (a ++ b) (a.length + i) = byteAt b i := by
  rw [byteAt, List.getD_append_right _ _ _ _ (by omega), Nat.add_sub_cancel_left, byteAt]

theorem nat8_append_left {a : List Byte} {i : Nat} (h : i < a.length) (b : List Byte) : nat8 (a ++ b) i = nat8 a i := by
  rw [nat8, byteAt_append_left h, nat8]

theorem set16_append_right (a b : List Byte) : set16 (a ++ b) a.length = set16 b 0 := by
  have low := byteAt_append_right a b 0
  have high := byteAt_append_right a b 1
  rw [Nat.add_zero] at low
  simp only [set16, nat16, nat8, low, high, Nat.zero_add]

/-! ### The bytes of a request (R165, R166) -/

/-- Bytes after a request's marker that the receiver waits on: the length byte is not yet there, or it permits more bytes.
`State.receiveAll_part` ties it to the receiver. -/
def PartOfRequest (bytes : List Byte) : Prop :=
  bytes.length < 3 ∨ nat8 bytes 2 ≤ Config.maxPayload ∧ bytes.length < nat8 bytes 2 + 5

theorem PartOfRequest.of_append {a b : List Byte} (h : PartOfRequest (a ++ b)) : PartOfRequest a := by
  unfold PartOfRequest at *
  by_cases header : a.length < 3
  · exact .inl header
  · rw [nat8_append_left (by omega), List.length_append] at h
    omega

@[simp] theorem State.withReceiver_listening (s : State) (r : Receiver) : (s.withReceiver r).listening = s.listening := rfl

theorem State.receive_request {s : State} (listening : s.listening = true) (taken : List Byte) (b : Byte) :
    (s.withReceiver (.request taken)).receive b = (s.withReceiver (.request taken)).requestByte taken b := by
  rw [State.receive, s.withReceiver_listening, if_pos listening]
  rfl

theorem State.receiveAll_append (s : State) (a b : List Byte) : s.receiveAll (a ++ b) = (s.receiveAll a).receiveAll b :=
  List.foldl_append

theorem nat8_last (taken : List Byte) (b : Byte) (h : taken.length = 2) : nat8 (taken ++ [b]) 2 = b.toNat := by
  have last := byteAt_append_right taken [b] 0
  rw [Nat.add_zero, h] at last
  rw [nat8, last, byteAt_single]

theorem State.requestByte_part (s : State) {taken : List Byte} {b : Byte} (h : PartOfRequest (taken ++ [b])) :
    s.requestByte taken b = s.withReceiver (.request (taken ++ [b])) := by
  have last := nat8_last taken b
  unfold PartOfRequest at h
  rw [List.length_append, List.length_singleton] at h
  simp only [State.requestByte, List.length_append, List.length_singleton]
  rw [if_neg (by omega), if_neg (by omega)]

theorem State.requestByte_whole (s : State) {taken : List Byte} {b : Byte} (whole : taken.length + 1 = nat8 taken 2 + 5) :
    s.requestByte taken b = (s.withReceiver .hunt).completeRequest (taken ++ [b]) := by
  have length : nat8 (taken ++ [b]) 2 = nat8 taken 2 := nat8_append_left (by omega) _
  simp only [State.requestByte, List.length_append, List.length_singleton, length]
  rw [if_neg (by omega), if_pos (by omega)]

/-- The receiver collects the bytes of a request until it is whole (R166). -/
theorem State.receiveAll_part {s : State} (listening : s.listening = true) {bytes : List Byte} (h : PartOfRequest bytes) :
    (s.withReceiver (.request [])).receiveAll bytes = s.withReceiver (.request bytes) := by
  induction bytes using List.reverseRecOn with
  | nil => rfl
  | append_singleton taken b ih =>
    rw [State.receiveAll_append, ih h.of_append]
    exact (State.receive_request listening taken b).trans (State.requestByte_part _ h)

theorem State.receiveAll_whole {s : State} (listening : s.listening = true) {taken : List Byte} (b : Byte)
    (most : nat8 taken 2 ≤ Config.maxPayload) (whole : taken.length + 1 = nat8 taken 2 + 5) :
    (s.withReceiver (.request [])).receiveAll (taken ++ [b]) = (s.withReceiver .hunt).completeRequest (taken ++ [b]) := by
  have part : PartOfRequest taken := .inr ⟨most, by omega⟩
  rw [State.receiveAll_append, State.receiveAll_part listening part]
  exact (State.receive_request listening taken b).trans (State.requestByte_whole _ whole)

/-- The marker of a request begins a frame, and with nothing under way does nothing else (R165, R173). -/
theorem State.Open.receive_marker {s : State} (h : s.Open) : s.receive 0xC3#8 = s.withReceiver (.request []) := by
  rw [State.receive, if_pos h.listening, h.receiver]
  simp only [State.huntByte, h.abandonReply, h.phase, true_or, if_true]

theorem State.Open.withReceiver_hunt {s : State} (h : s.Open) : s.withReceiver .hunt = s := by
  rw [State.withReceiver, ← h.receiver]

/-- The bytes of a whole request, whatever its CRC, come to the check of the CRC (R166, R167). -/
theorem State.Open.receiveAll_request {s : State} (h : s.Open) (dst kind : Byte) {p : List Byte} (crc : BitVec 16)
    (short : p.length ≤ Config.maxPayload) :
    s.receiveAll (requestBytesWith dst kind p crc) =
      s.completeRequest (([dst, kind, BitVec.ofNat 8 p.length] ++ p) ++ le16 crc.toNat) := by
  set taken : List Byte := [dst, kind, BitVec.ofNat 8 p.length] ++ p ++ [BitVec.ofNat 8 crc.toNat] with htaken
  have frame : requestBytesWith dst kind p crc = 0xC3#8 :: (taken ++ [BitVec.ofNat 8 (crc.toNat / 256)]) := by
    simp [requestBytesWith, le16, htaken]
  have length : nat8 taken 2 = p.length := Nat.mod_eq_of_lt (by unfold Config.maxPayload at short; omega)
  have count : taken.length = p.length + 4 := by simp [htaken]
  rw [frame, State.receiveAll, List.foldl_cons, h.receive_marker]
  refine (State.receiveAll_whole h.listening _ (by omega) (by omega)).trans ?_
  rw [h.withReceiver_hunt]
  simp [htaken, le16]

theorem State.completeRequest_badCrc (s : State) {covered : List Byte} {crc : BitVec 16} (bad : crc ≠ crc16 covered) :
    s.completeRequest (covered ++ le16 crc.toNat) = s.count LinkCounters.addCrc := by
  have count : (covered ++ le16 crc.toNat).length - 2 = covered.length := by simp [le16]
  simp only [State.completeRequest, count, List.take_left, set16_append_right, set16_set]
  exact if_neg bad.symm

/-! ### Frames that reach no owner -/

theorem State.Open.exec_frameForOthers {s : State} (h : s.Open) (dst kind : Byte) {p : List Byte}
    (short : p.length ≤ Config.maxPayload) :
    exec (.frameForOthers dst kind p) s = .next (s.takeFrame dst kind (requestKindOf kind) p) := by
  rw [← h.request dst kind _ short]
  simp only [exec, execFrameForOthers, s.settled_of_none h.due]

theorem State.Open.exec_badKindFrame {s : State} (h : s.Open) (dst : Byte) {kind : Byte} {p : List Byte}
    (short : p.length ≤ Config.maxPayload) (unknown : (requestKindOf kind).isNone = true) :
    exec (.badKindFrame dst kind p) s = .next (s.takeFrame dst kind none p) := by
  rw [← h.request dst kind _ short]
  simp only [exec, execBadKindFrame, s.settled_of_none h.due, Option.isNone_iff_eq_none.mp unknown]

theorem State.Open.exec_crcErrorFrame {s : State} (h : s.Open) (dst kind : Byte) {p : List Byte} {crc : BitVec 16}
    (short : p.length ≤ Config.maxPayload) (bad : crc ≠ crc16 ([dst, kind, BitVec.ofNat 8 p.length] ++ p)) :
    exec (.crcErrorFrame dst kind p crc) s = .next (s.count LinkCounters.addCrc) := by
  rw [← s.completeRequest_badCrc bad, ← h.receiveAll_request dst kind crc short]
  simp only [exec, execCrcErrorFrame, s.settled_of_none h.due]

/-- Settles O9: by the match of the destination for a good frame, and byte by byte for one with a bad CRC. -/
theorem foreignUnknownAndBadFrames : Obligations.ForeignUnknownAndBadFrames := by
  unfold Obligations.ForeignUnknownAndBadFrames
  refine ⟨fun c k dst p s row h others short => ?_, fun dst kind p s h others short => ?_,
    fun dst kind p s h short unknown => ?_, fun dst kind p s h group short unknown => ?_,
    fun dst kind p crc s h short bad => h.exec_crcErrorFrame dst kind short bad⟩
  · have matched : (s.seen c).link.addressing dst = .others := by rw [s.seen_link, others]
    rw [h.exec_row row short, State.takeFrame_others _ _ _ _ _ matched, ← s.seen_link c]
    rfl
  · rw [h.exec_frameForOthers dst kind short, State.takeFrame_others _ _ _ _ _ others]
    rfl
  · have own := Link.addressing_own h.address h.notBroadcast
    rw [h.exec_badKindFrame dst short unknown, State.takeFrame_individual _ _ _ _ _ own]
    rfl
  · rw [h.exec_badKindFrame dst short unknown, State.takeFrame_group _ _ _ _ _ group]
    rfl

end Sys2Proof.Machine
end

section
/-!
PROOFS. The event flags: their bits and the attention byte (R155, R183), Ack Events (R157) and Set Event Enables (R154).
-/

namespace Sys2Proof.Machine

/-! ### The flags in class order (R152, R183) -/

/-- Bits with their weights, summed, are the number with those bits. -/
theorem sum_bitIf_eq_ofBits : ∀ {n : Nat} (f : Fin n → Bool),
    ((List.finRange n).map fun i => bitIf (f i) (2 ^ i.val)).sum = Nat.ofBits f
  | 0, f => rfl
  | n + 1, f => by
    have first : bitIf (f 0) (2 ^ (0 : Fin (n + 1)).val) = (f 0).toNat := by cases f 0 <;> rfl
    have later : (fun i : Fin n => bitIf (f i.succ) (2 ^ i.succ.val)) = fun i => 2 * bitIf (f i.succ) (2 ^ i.val) := by
      funext i
      cases f i.succ <;> simp [bitIf, Nat.pow_succ, Nat.mul_comm]
    have rest := sum_bitIf_eq_ofBits (f ∘ Fin.succ)
    simp only [Function.comp_apply] at rest
    rw [List.finRange_succ, List.map_cons, List.sum_cons, List.map_map, first, Nat.ofBits_succ, ← rest,
      ← List.sum_map_mul_left, ← later, Nat.add_comm]
    rfl

theorem flagBits_eq_ofBits (p : FlagState → Bool) (events : Vector FlagState 12) :
    flagBits p events = Nat.ofBits fun i => p (events.get i) := sum_bitIf_eq_ofBits fun i => p (events.get i)

theorem flagBits_lt (p : FlagState → Bool) (events : Vector FlagState 12) : flagBits p events < 4096 := by
  rw [flagBits_eq_ofBits]
  exact Nat.ofBits_lt_two_pow _

theorem flagBits_testBit (p : FlagState → Bool) (events : Vector FlagState 12) (i : Fin 12) :
    (flagBits p events).testBit i.val = p (events.get i) := by
  rw [flagBits_eq_ofBits, Nat.testBit_ofBits_lt _ _ i.isLt]

theorem ofFn_get_eq_toList {α : Type} {n : Nat} (v : Vector α n) : List.ofFn v.get = v.toList :=
  List.ext_getElem (by simp) fun i _ _ => by simp [Vector.get_eq_getElem]

theorem flags_in_class_order (s : State) :
    [EventFlag.railFault, .thermalFault, .testFault, .feedShed, .storeFault, .sequenceEnd, .socketDone, .windowEdge,
      .heaterLimited, .logThreshold, .logFull, .unattended].map s.flag = s.events.toList :=
  ofFn_get_eq_toList s.events

/-! ### The attention byte (R155) -/

theorem attentionClass_none {events : Vector FlagState 12}
    (quiet : ∀ i, ((events.get i).isSet && (events.get i).enabled) = false) : attentionClass events = 0 := by
  have none : ((List.finRange 12).find? fun i => (events.get i).isSet && (events.get i).enabled) = none :=
    List.find?_eq_none.mpr fun i _ => by simp only [quiet i, Bool.false_eq_true, not_false_eq_true]
  rw [attentionClass, none]

theorem attentionClass_least {events : Vector FlagState 12} {i : Fin 12} (isSet : (events.get i).isSet = true)
    (enabled : (events.get i).enabled = true)
    (least : ∀ j, j < i → ((events.get j).isSet && (events.get j).enabled) = false) : attentionClass events = i.val + 1 := by
  have found : ((List.finRange 12).find? fun i => (events.get i).isSet && (events.get i).enabled) = some i := by
    refine List.find?_eq_some_iff_getElem.mpr ⟨by simp [isSet, enabled], i.val, by simp, by simp, fun j hj => ?_⟩
    have before := least ⟨j, hj.trans i.isLt⟩ hj
    simp [before]
  rw [attentionClass, found]

theorem attention_none {events : Vector FlagState 12}
    (quiet : ∀ i, ((events.get i).isSet && (events.get i).enabled) = false) : attention events = 0#8 := by
  rw [attention, attentionClass_none quiet]
  rfl

theorem attention_least {events : Vector FlagState 12} {i : Fin 12} (isSet : (events.get i).isSet = true)
    (enabled : (events.get i).enabled = true)
    (least : ∀ j, j < i → ((events.get j).isSet && (events.get j).enabled) = false) :
    attention events = BitVec.ofNat 8 (128 + (i.val + 1)) := by
  rw [attention, attentionClass_least isSet enabled least, Nat.add_comm 128]
  rfl

/-! ### Ack Events (R157) -/

theorem clearFlags_get (x : BitVec 16) (events : Vector FlagState 12) (i : Fin 12) :
    (clearFlags x events).get i =
      if x.getLsbD i.val then { events.get i with isSet := false, sockets := 0#16 } else events.get i := by
  simp only [clearFlags, Vector.get_eq_getElem, Vector.getElem_ofFn]

/-- The flags named that are found set, as the reply of Ack Events gives them (R157). -/
def flagsFound (x : BitVec 16) (events : Vector FlagState 12) : BitVec 16 :=
  x &&& BitVec.ofNat 16 (flagBits FlagState.isSet events)

theorem flagsFound_toNat (x : BitVec 16) (events : Vector FlagState 12) :
    (flagsFound x events).toNat = x.toNat &&& flagBits FlagState.isSet events := by
  have small : flagBits FlagState.isSet events < 2 ^ 16 := (flagBits_lt _ _).trans (by decide)
  rw [flagsFound, BitVec.toNat_and, BitVec.toNat_ofNat, Nat.mod_eq_of_lt small]

theorem flagsFound_lt (x : BitVec 16) (events : Vector FlagState 12) : (flagsFound x events).toNat < 4096 := by
  rw [flagsFound_toNat]
  exact Nat.and_le_right.trans_lt (flagBits_lt _ _)

theorem flagsFound_getLsbD (x : BitVec 16) (events : Vector FlagState 12) (i : Fin 12) :
    (flagsFound x events).getLsbD i.val = (x.getLsbD i.val && (events.get i).isSet) := by
  rw [BitVec.getLsbD, flagsFound_toNat, Nat.testBit_and, flagBits_testBit]
  rfl

theorem ackBytes_eq (x : BitVec 16) (events : Vector FlagState 12) :
    ackBytes x events = le16 (flagsFound x events).toNat ++
      (((List.finRange 12).filter fun i => x.getLsbD i.val).map fun i => le16 (events.get i).sockets.toNat).flatten := by
  rw [flagsFound_toNat]
  rfl

theorem flagSetOk_of_lt {x : BitVec 16} (h : x.toNat < 4096) : flagSetOk x = true := decide_eq_true h

theorem flagSetOk_of_le {x : BitVec 16} (h : 4096 ≤ x.toNat) : flagSetOk x = false := decide_eq_false h.not_gt

theorem ackEventsKind_clears {x : BitVec 16} (h : x.toNat < 4096) (s : State) :
    ackEventsKind.carryOut (le16 x.toNat) s = ({ s with events := clearFlags x s.events }, .now .ok (ackBytes x s.events)) := by
  simp only [ackEventsKind, set16_set, flagSetOk_of_lt h, if_true]

theorem ackEventsKind_refuses {x : BitVec 16} (h : 4096 ≤ x.toNat) (s : State) :
    ackEventsKind.carryOut (le16 x.toNat) s = (s, .now .badArg []) := by
  simp only [ackEventsKind, set16_set, flagSetOk_of_le h, Bool.false_eq_true, if_false]

theorem ackEvents_exec {s : State} {dst : Byte} (h : s.Hears dst) {x : BitVec 16} {t : State} {r : Response}
    (carry : ackEventsKind.carryOut (le16 x.toNat) s.heard = (t, r)) :
    exec (.ackEvents dst (le16 x.toNat)) s = .next (t.respond 0x09#8 r) :=
  h.exec_plain (c := .ackEvents dst (le16 x.toNat)) rfl rfl rfl (by simp [le16]) carry

/-! ### Set Event Enables (R154) -/

theorem enableFlags_get (x : BitVec 16) (events : Vector FlagState 12) (i : Fin 12) :
    (enableFlags x events).get i = { events.get i with enabled := x.getLsbD i.val } := by
  simp only [enableFlags, Vector.get_eq_getElem, Vector.getElem_ofFn]

theorem setEventEnablesKind_enables {x : BitVec 16} (h : x.toNat < 4096) (s : State) :
    setEventEnablesKind.carryOut (le16 x.toNat) s =
      ({ s with events := enableFlags x s.events }, .now .ok (le16 x.toNat)) := by
  simp only [setEventEnablesKind, set16_set, flagSetOk_of_lt h, if_true]

theorem setEventEnablesKind_refuses {x : BitVec 16} (h : 4096 ≤ x.toNat) (s : State) :
    setEventEnablesKind.carryOut (le16 x.toNat) s = (s, .now .badArg []) := by
  simp only [setEventEnablesKind, set16_set, flagSetOk_of_le h, Bool.false_eq_true, if_false]

theorem setEventEnables_exec {s : State} {dst : Byte} (h : s.Hears dst) {x : BitVec 16} {t : State} {r : Response}
    (carry : setEventEnablesKind.carryOut (le16 x.toNat) s.heard = (t, r)) :
    exec (.setEventEnables dst (le16 x.toNat)) s = .next (t.respond 0x0A#8 r) :=
  h.exec_plain (c := .setEventEnables dst (le16 x.toNat)) rfl rfl rfl (by simp [le16]) carry

/-- Settles O48: either request changes the flags named, one by one, or is refused; the attention byte is the first of the flags in
class order that is set and enabled. -/
theorem eventsAreAcknowledgedAndEnabled : Obligations.EventsAreAcknowledgedAndEnabled := by
  unfold Obligations.EventsAreAcknowledgedAndEnabled
  refine ⟨flags_in_class_order, fun dst x s h => ⟨fun outside => ⟨?_, ?_⟩, fun inside => ⟨?_, ?_⟩⟩,
    fun s => attention_none, fun s i => attention_least⟩
  · exact ackEvents_exec h (ackEventsKind_refuses outside s.heard)
  · exact setEventEnables_exec h (setEventEnablesKind_refuses outside s.heard)
  · refine ⟨_, flagsFound x s.events, ackEvents_exec h (ackEventsKind_clears inside s.heard), rfl, rfl,
      clearFlags_get x s.events, flagsFound_lt x s.events, flagsFound_getLsbD x s.events, ?_⟩
    rw [← ackBytes_eq]
    rfl
  · exact ⟨_, setEventEnables_exec h (setEventEnablesKind_enables inside s.heard), rfl, rfl, enableFlags_get x s.events, rfl⟩

end Sys2Proof.Machine
end

section
/-!
PROOFS. The BLI's own requests: Set Group Table (R170), Set Link Silence (R161) and Reset Board (R181).
-/

namespace Sys2Proof.Machine

/-! ### Set Group Table (R170) -/

theorem ofFn_byteAt_toList {p : List Byte} {n : Nat} (length : p.length = n) :
    (Vector.ofFn fun i : Fin n => byteAt p i.val).toList = p := by
  subst length
  refine List.ext_getElem (by simp) fun i _ _ => ?_
  simp [byteAt]

theorem setGroupTableKind_sets {p : List Byte} (listed : ∀ b ∈ p, 128 ≤ b.toNat) (s : State) :
    setGroupTableKind.carryOut p s =
      ({ s with link.groups := Vector.ofFn fun i => byteAt p i.val },
        .now .ok (Vector.ofFn fun i : Fin 8 => byteAt p i.val).toList) :=
  if_pos (List.all_eq_true.mpr fun b hb => decide_eq_true (listed b hb))

theorem setGroupTableKind_refuses {p : List Byte} (unlisted : ∃ b ∈ p, b.toNat < 128) (s : State) :
    setGroupTableKind.carryOut p s = (s, .now .badArg []) := by
  obtain ⟨b, hb, low⟩ := unlisted
  exact if_neg fun all => absurd (of_decide_eq_true (List.all_eq_true.mp all b hb)) (by omega)

theorem setGroupTable_exec {s : State} {dst : Byte} (h : s.Hears dst) {p : List Byte} (length : p.length = 8) {t : State}
    {r : Response} (carry : setGroupTableKind.carryOut p s.heard = (t, r)) :
    exec (.setGroupTable dst p) s = .next (t.respond 0x03#8 r) :=
  h.exec_plain (c := .setGroupTable dst p) rfl rfl (by simp [setGroupTableKind, exactly, length]) (by omega) carry

/-! ### Set Link Silence (R160, R161) -/

theorem silenceTimeout_eq (b : Byte) : silenceTimeout b = if b.toNat = 0 then 7200 else 5 * b.toNat := by
  have zero : b = 0#8 ↔ b.toNat = 0 := BitVec.toNat_inj.symm
  simp only [silenceTimeout, zero]

theorem setLinkSilenceKind_carryOut (b : Byte) (s : State) :
    setLinkSilenceKind.carryOut [b] s =
      ({ s with link.silenceParam := b }, .now .ok (b :: le16 (silenceTimeout b))) := rfl

/-! ### Reset Board (R181) -/

theorem resetBoardKind_refuses {b : Byte} (above : 1 < b.toNat) (s : State) :
    resetBoardKind.carryOut [b] s = (s, .now .badArg []) := by
  have notZero : b ≠ 0#8 := by bv_omega
  have notOne : b ≠ 1#8 := by bv_omega
  exact (if_neg notZero).trans (if_neg notOne)

theorem resetBoardKind_resets {b : Byte} (h : b.toNat ≤ 1) (s : State) :
    resetBoardKind.carryOut [b] s = (s, .thenReset (b == 1#8)) := by
  have option : b = 0#8 ∨ b = 1#8 := by bv_omega
  rcases option with rfl | rfl <;> rfl

theorem resetBoard_exec {s : State} {dst b : Byte} (h : s.Hears dst) {r : Response}
    (carry : resetBoardKind.carryOut [b] s.heard = (s.heard, r)) :
    exec (.resetBoard dst [b]) s = .next (s.heard.respond 0x05#8 r) :=
  h.exec_plain (c := .resetBoard dst [b]) rfl rfl rfl (by simp) carry

/-- Settles O49: either request about the link writes its own field of it, or is refused, and Reset Board leaves its reply alone. -/
theorem theLinkIsSet : Obligations.TheLinkIsSet := by
  unfold Obligations.TheLinkIsSet
  refine fun dst s h => ⟨fun p length unlisted => ?_, fun p length listed => ?_, fun b => ?_, fun b above => ?_, fun b most => ?_⟩
  · exact setGroupTable_exec h length (setGroupTableKind_refuses unlisted s.heard)
  · have table := ofFn_byteAt_toList length
    have sets := setGroupTableKind_sets listed s.heard
    rw [table] at sets
    exact ⟨_, setGroupTable_exec h length sets, table, rfl, rfl⟩
  · rw [← silenceTimeout_eq]
    have sets := h.exec_plain (c := .setLinkSilence dst [b]) rfl rfl rfl (by simp) (setLinkSilenceKind_carryOut b s.heard)
    exact ⟨_, sets, rfl, rfl, rfl, rfl, rfl⟩
  · exact resetBoard_exec h (resetBoardKind_refuses above s.heard)
  · exact resetBoard_exec h (resetBoardKind_resets most s.heard)

end Sys2Proof.Machine
end

section
/-!
PROOFS. A request row is its frame, byte by byte, in every state of the link (R165, R166, R167, R173), and a link that takes no
byte (R165, R175, R179).
-/

namespace Sys2Proof.Machine

/-! ### A link that takes no byte (R165, R175, R179) -/

theorem State.listening_iff (s : State) :
    s.listening = true ↔ s.phase = .running ∧ ∀ bytes reset, s.link.reply ≠ .sending bytes reset := by
  rw [State.listening, Bool.and_eq_true, beq_iff_eq]
  refine and_congr_right fun _ => ?_
  cases s.link.reply <;> simp

theorem State.seen_listening (s : State) (c : Instr) : (s.seen c).listening = s.listening := by
  obtain ⟨x, e⟩ := s.seen_eq c
  rw [e]
  rfl

theorem State.seen_due (s : State) (c : Instr) : (s.seen c).due = s.due := by
  obtain ⟨x, e⟩ := s.seen_eq c
  rw [e]

section closed
variable {s : State} (closed : s.listening = false)
include closed

theorem State.receive_closed (b : Byte) : s.receive b = s := if_neg (Bool.eq_false_iff.mp closed)

theorem State.receiveAll_closed (bytes : List Byte) : s.receiveAll bytes = s := by
  induction bytes with
  | nil => rfl
  | cons b bytes ih => rw [State.receiveAll, List.foldl_cons, State.receive_closed closed]; exact ih

theorem State.lineBreak_closed : s.lineBreak = s := if_neg (Bool.eq_false_iff.mp closed)

theorem State.receiveRequest_closed (dst kind : Byte) (k : Option RequestKind) (p : List Byte) :
    s.receiveRequest dst kind k p = s := if_neg (Bool.eq_false_iff.mp closed)

theorem State.request_closed (dst kind : Byte) (k : Option RequestKind) (p : List Byte) : s.request dst kind k p = s := by
  unfold State.request
  split
  · exact State.receiveRequest_closed closed dst kind k p
  · exact State.receiveAll_closed closed _

end closed

/-- Settles O12: each row is bytes or a frame that a closed link does not take. -/
theorem noByteIsTakenWhileTheLinkIsClosed : Obligations.NoByteIsTakenWhileTheLinkIsClosed := by
  unfold Obligations.NoByteIsTakenWhileTheLinkIsClosed
  refine ⟨State.listening_iff, fun s due closed => ?_⟩
  have settled : s.settled = s := s.settled_of_none due
  refine ⟨fun c k dst p row => ?_, fun bytes stopLow => ⟨?_, ?_, ?_⟩, fun dst kind p crc => ⟨?_, ?_, ?_⟩⟩
  · have unheard : (s.seen c).listening = false := (s.seen_listening c).trans closed
    rw [exec_request row, settled, State.requestOf, State.request_closed unheard]
  · simp only [exec, execFrameGapTimeout, settled, State.receiveAll_closed closed, State.lineBreak_closed closed]
  · simp only [exec, execFramingError, settled, State.receiveAll_closed closed, State.lineBreak_closed closed, ite_self]
  · simp only [exec, execOtherReplyPassed, settled, State.receiveAll_closed closed]
  · simp only [exec, execCrcErrorFrame, settled, State.receiveAll_closed closed]
  · simp only [exec, execFrameForOthers, settled, State.request_closed closed]
  · simp only [exec, execBadKindFrame, settled, State.request_closed closed]

/-! ### The marker of a request (R165, R173) -/

/-- A frame's marker leaves the link open, unless it makes a Board Reset act (R173). -/
theorem State.abandonReply_open {s : State} (listening : s.listening = true) (due : s.due = [])
    (hunt : s.link.receiver = .hunt) (running : s.abandonReply.phase = .running) : s.abandonReply.Open := by
  obtain ⟨phase, notSending⟩ := s.listening_iff.mp listening
  unfold State.abandonReply at running ⊢
  split at running
  next idle => exact ⟨due, phase, hunt, idle⟩
  next sending => exact absurd sending (notSending _ _)
  · exact ⟨due, phase, hunt, rfl⟩
  · exact ⟨due, phase, hunt, rfl⟩
  · cases running

/-- A marker taken in HUNT does what it does once the reply in its way is abandoned (R173). -/
theorem State.receive_marker_abandons {s : State} (listening : s.listening = true) (due : s.due = [])
    (hunt : s.link.receiver = .hunt) : s.receive 0xC3#8 = s.abandonReply.receive 0xC3#8 := by
  have marked : s.receive 0xC3#8 =
      if s.abandonReply.phase = .running then s.abandonReply.withReceiver (.request []) else s.abandonReply := by
    simp only [State.receive, listening, hunt, State.huntByte, true_or, if_true]
  rw [marked]
  split
  next running => exact ((State.abandonReply_open listening due hunt running).receive_marker).symm
  next resets =>
    have closed : s.abandonReply.listening = false := Bool.eq_false_iff.mpr fun h => resets (State.listening_running h)
    exact (State.receive_closed closed _).symm

/-! ### A whole request (R166, R167, R169) -/

theorem State.completeRequest_goodCrc (s : State) (dst kind : Byte) (p : List Byte) :
    let covered := [dst, kind, BitVec.ofNat 8 p.length] ++ p
    s.completeRequest (covered ++ le16 (crc16 covered).toNat) = s.takeFrame dst kind (requestKindOf kind) p := by
  intro covered
  have count : (covered ++ le16 (crc16 covered).toNat).length - 2 = covered.length := by simp [le16]
  simp only [State.completeRequest, count, List.take_left, set16_append_right, set16_set, if_true]
  rfl

theorem State.Open.receiveAll_goodRequest {s : State} (h : s.Open) (dst kind : Byte) {p : List Byte}
    (short : p.length ≤ Config.maxPayload) :
    s.receiveAll (requestBytes dst kind p) = s.takeFrame dst kind (requestKindOf kind) p :=
  (h.receiveAll_request dst kind _ short).trans (s.completeRequest_goodCrc dst kind p)

/-- A frame taken whole in HUNT does what its bytes do, whatever the reply slot holds (R165, R173; log entry 17). -/
theorem State.receiveRequest_eq_receiveAll {s : State} (due : s.due = []) (hunt : s.link.receiver = .hunt) (dst kind : Byte)
    {p : List Byte} (short : p.length ≤ Config.maxPayload) :
    s.receiveRequest dst kind (requestKindOf kind) p = s.receiveAll (requestBytes dst kind p) := by
  cases listening : s.listening with
  | false => rw [State.receiveRequest_closed listening, State.receiveAll_closed listening]
  | true =>
    have abandons : s.receiveAll (requestBytes dst kind p) = s.abandonReply.receiveAll (requestBytes dst kind p) := by
      have marker := State.receive_marker_abandons listening due hunt
      simp only [requestBytes, requestBytesWith, List.cons_append, State.receiveAll, List.foldl_cons, marker]
    rw [abandons]
    by_cases running : s.abandonReply.phase = .running
    · have marked := State.abandonReply_open listening due hunt running
      rw [marked.receiveAll_goodRequest dst kind short]
      simp only [State.receiveRequest, listening, running, short, if_true]
    · have closed : s.abandonReply.listening = false := Bool.eq_false_iff.mpr fun h => running (State.listening_running h)
      rw [State.receiveAll_closed closed]
      simp only [State.receiveRequest, listening, running, if_true, if_false]

theorem State.request_eq_receiveAll {s : State} (due : s.due = []) (dst kind : Byte) {p : List Byte}
    (short : p.length ≤ Config.maxPayload) :
    s.request dst kind (requestKindOf kind) p = s.receiveAll (requestBytes dst kind p) := by
  unfold State.request
  split
  next hunt => exact State.receiveRequest_eq_receiveAll due hunt dst kind short
  next => rfl

/-! ### The CRC (R167) -/

theorem crcShift_eq (r : BitVec 16) :
    crcShift r = if r.getLsbD 15 = true then (r <<< 1) ^^^ 0x1021#16 else r <<< 1 := by
  rw [crcShift, BitVec.msb_eq_getLsbD_last]

theorem setWidth_shiftLeft_eq_append (b : Byte) : b.setWidth 16 <<< 8 = b ++ 0#8 := by
  refine BitVec.eq_of_getLsbD_eq fun i hi => ?_
  have appended : (b ++ 0#8).getLsbD i = if i < 8 then (0#8).getLsbD i else b.getLsbD (i - 8) := BitVec.getLsbD_append
  rw [appended]
  by_cases low : i < 8 <;> simp [hi, low]

theorem crc16_snoc (bytes : List Byte) (b : Byte) :
    crc16 (bytes ++ [b]) = Nat.repeat crcShift 8 (crc16 bytes ^^^ (b ++ 0#8)) := by
  rw [crc16, List.foldl_concat, crcByte, setWidth_shiftLeft_eq_append, crc16]

/-- Settles O6: in HUNT the marker abandons the reply in its way and the bytes after it come to the same frame; elsewhere the row is
its bytes. -/
theorem aRequestRowIsItsBytesOnTheLine : Obligations.ARequestRowIsItsBytesOnTheLine := by
  unfold Obligations.ARequestRowIsItsBytesOnTheLine
  refine ⟨fun c k dst p s row due short => ?_, fun dst kind p => ?_, rfl, fun bytes b => ?_⟩
  · have listed := requestKindOf_code (requestOfRow_mem row)
    have quiet : (s.seen c).due = [] := (s.seen_due c).trans due
    rw [exec_request row, s.settled_of_none due, State.requestOf, ← listed, State.request_eq_receiveAll quiet dst k.code short]
  · simp only [requestBytes, requestBytesWith, List.cons_append, List.nil_append]
  · simp only [← crcShift_eq]
    exact crc16_snoc bytes b

end Sys2Proof.Machine
end

section
/-!
PROOFS. Frames that end early, and the replies of other boards (R165, R166).
-/

namespace Sys2Proof.Machine

/-! ### The bytes of another board's reply (R166) -/

/-- Bytes after a reply's marker that the receiver waits on: the length byte is not yet there, or it permits more bytes.
`State.receiveAll_passPart` ties it to the receiver. -/
def PartOfReply (bytes : List Byte) : Prop :=
  bytes.length < 5 ∨ nat8 bytes 4 ≤ Config.maxPayload ∧ bytes.length < nat8 bytes 4 + 7

theorem PartOfReply.of_append {a b : List Byte} (h : PartOfReply (a ++ b)) : PartOfReply a := by
  unfold PartOfReply at *
  by_cases header : a.length < 5
  · exact .inl header
  · rw [nat8_append_left (by omega), List.length_append] at h
    omega

theorem nat8_append_last {taken : List Byte} {i : Nat} (h : taken.length = i) (b : Byte) : nat8 (taken ++ [b]) i = b.toNat := by
  have last := byteAt_append_right taken [b] 0
  rw [Nat.add_zero, h] at last
  rw [nat8, last, byteAt_single]

theorem State.receive_pass {s : State} (listening : s.listening = true) (taken : List Byte) (b : Byte) :
    (s.withReceiver (.pass taken)).receive b = (s.withReceiver (.pass taken)).passByte taken b := by
  rw [State.receive, s.withReceiver_listening, if_pos listening]
  rfl

theorem State.passByte_part (s : State) {taken : List Byte} {b : Byte} (h : PartOfReply (taken ++ [b])) :
    s.passByte taken b = s.withReceiver (.pass (taken ++ [b])) := by
  have last : taken.length = 4 → nat8 (taken ++ [b]) 4 = b.toNat := fun four => nat8_append_last four b
  unfold PartOfReply at h
  rw [List.length_append, List.length_singleton] at h
  simp only [State.passByte, List.length_append, List.length_singleton]
  rw [if_neg (by omega), if_neg (by omega)]

theorem State.passByte_whole (s : State) {taken : List Byte} {b : Byte} (whole : taken.length + 1 = nat8 taken 4 + 7) :
    s.passByte taken b = s.withReceiver .hunt := by
  have length : nat8 (taken ++ [b]) 4 = nat8 taken 4 := nat8_append_left (by omega) _
  simp only [State.passByte, List.length_append, List.length_singleton, length]
  rw [if_neg (by omega), if_pos (by omega)]

/-- The receiver passes the bytes of a reply until it is whole (R166). -/
theorem State.receiveAll_passPart {s : State} (listening : s.listening = true) {bytes : List Byte} (h : PartOfReply bytes) :
    (s.withReceiver (.pass [])).receiveAll bytes = s.withReceiver (.pass bytes) := by
  induction bytes using List.reverseRecOn with
  | nil => rfl
  | append_singleton taken b ih =>
    rw [State.receiveAll_append, ih h.of_append]
    exact (State.receive_pass listening taken b).trans (State.passByte_part _ h)

/-! ### Frames cut, overlong and passed on an open link (R165, R166) -/

theorem State.lineBreak_frame {s : State} (listening : s.listening = true) (r : Receiver) :
    (s.withReceiver r).lineBreak = (s.withReceiver r).endFrame := if_pos listening

section frames
variable {s : State} (h : s.Open)
include h

/-- The marker of a reply begins a frame to pass, and with nothing under way does nothing else (R165, R173). -/
theorem State.Open.receive_replyMarker : s.receive 0x3C#8 = s.withReceiver (.pass []) := by
  rw [State.receive, if_pos h.listening, h.receiver]
  simp only [State.huntByte, h.abandonReply, h.phase, or_true, if_true]
  rfl

theorem State.Open.receiveAll_cons_marker (bytes : List Byte) :
    s.receiveAll (0xC3#8 :: bytes) = (s.withReceiver (.request [])).receiveAll bytes := by
  rw [State.receiveAll, List.foldl_cons, h.receive_marker, State.receiveAll]

theorem State.Open.receiveAll_cons_replyMarker (bytes : List Byte) :
    s.receiveAll (0x3C#8 :: bytes) = (s.withReceiver (.pass [])).receiveAll bytes := by
  rw [State.receiveAll, List.foldl_cons, h.receive_replyMarker, State.receiveAll]

theorem State.Open.endFrame_request (taken : List Byte) :
    (s.withReceiver (.request taken)).endFrame = s.count LinkCounters.addFraming :=
  congrArg (·.count LinkCounters.addFraming) h.withReceiver_hunt

theorem State.Open.endFrame_pass (taken : List Byte) : (s.withReceiver (.pass taken)).endFrame = s := h.withReceiver_hunt

/-- A request cut short is a framing error (R165). -/
theorem State.Open.lineBreak_cutRequest {bytes : List Byte} (part : PartOfRequest bytes) :
    (s.receiveAll (0xC3#8 :: bytes)).lineBreak = s.count LinkCounters.addFraming := by
  rw [h.receiveAll_cons_marker, State.receiveAll_part h.listening part, State.lineBreak_frame h.listening,
    h.endFrame_request]

/-- A passed reply cut short changes nothing (R165). -/
theorem State.Open.lineBreak_cutReply {bytes : List Byte} (part : PartOfReply bytes) :
    (s.receiveAll (0x3C#8 :: bytes)).lineBreak = s := by
  rw [h.receiveAll_cons_replyMarker, State.receiveAll_passPart h.listening part, State.lineBreak_frame h.listening,
    h.endFrame_pass]

/-- A request whose length byte is above 250 is a framing error (R166). -/
theorem State.Open.receiveAll_overlongRequest (dst kind : Byte) {length : Byte} (above : Config.maxPayload < length.toNat) :
    s.receiveAll [0xC3#8, dst, kind, length] = s.count LinkCounters.addFraming := by
  have header : PartOfRequest [dst, kind] := .inl (by decide : 2 < 3)
  have aborts : (s.withReceiver (.request [dst, kind])).requestByte [dst, kind] length =
      (s.withReceiver (.request [dst, kind])).endFrame := if_pos ⟨rfl, above⟩
  calc s.receiveAll [0xC3#8, dst, kind, length]
      = ((s.withReceiver (.request [])).receiveAll [dst, kind]).receive length := h.receiveAll_cons_marker _
    _ = (s.withReceiver (.request [dst, kind])).receive length := by rw [State.receiveAll_part h.listening header]
    _ = (s.withReceiver (.request [dst, kind])).endFrame := (State.receive_request h.listening _ _).trans aborts
    _ = s.count LinkCounters.addFraming := h.endFrame_request _

/-- A reply whose length byte is above 250 is passed no further (R166). -/
theorem State.Open.receiveAll_overlongReply (a b c d : Byte) {length : Byte} (above : Config.maxPayload < length.toNat) :
    s.receiveAll [0x3C#8, a, b, c, d, length] = s := by
  have header : PartOfReply [a, b, c, d] := .inl (by decide : 4 < 5)
  have ends : (s.withReceiver (.pass [a, b, c, d])).passByte [a, b, c, d] length =
      (s.withReceiver (.pass [a, b, c, d])).endFrame := if_pos ⟨rfl, above⟩
  calc s.receiveAll [0x3C#8, a, b, c, d, length]
      = ((s.withReceiver (.pass [])).receiveAll [a, b, c, d]).receive length := h.receiveAll_cons_replyMarker _
    _ = (s.withReceiver (.pass [a, b, c, d])).receive length := by rw [State.receiveAll_passPart h.listening header]
    _ = (s.withReceiver (.pass [a, b, c, d])).endFrame := (State.receive_pass h.listening _ _).trans ends
    _ = s := h.endFrame_pass _

/-- A reply that comes whole changes nothing (R166). -/
theorem State.Open.receiveAll_wholeReply {taken : List Byte} (b : Byte) (most : nat8 taken 4 ≤ Config.maxPayload)
    (whole : taken.length + 1 = nat8 taken 4 + 7) : s.receiveAll (0x3C#8 :: (taken ++ [b])) = s := by
  have part : PartOfReply taken := .inr ⟨most, by omega⟩
  rw [h.receiveAll_cons_replyMarker, State.receiveAll_append, State.receiveAll_passPart h.listening part]
  calc (s.withReceiver (.pass taken)).receiveAll [b]
      = (s.withReceiver (.pass taken)).passByte taken b := State.receive_pass h.listening taken b
    _ = s.withReceiver .hunt := State.passByte_whole _ whole
    _ = s := h.withReceiver_hunt

end frames

/-- A well-formed reply is its marker, the bytes that the receiver waits on, and one last byte (R166). -/
theorem replyOk_split {bytes : List Byte} (ok : replyOk bytes = true) :
    ∃ taken b, bytes = 0x3C#8 :: (taken ++ [b]) ∧ nat8 taken 4 ≤ Config.maxPayload ∧
      taken.length + 1 = nat8 taken 4 + 7 := by
  simp only [replyOk, Bool.and_eq_true, beq_iff_eq, decide_eq_true_eq] at ok
  obtain ⟨⟨marker, most⟩, length⟩ := ok
  cases bytes with
  | nil => simp at length
  | cons m rest =>
    have shift : nat8 (m :: rest) 5 = nat8 rest 4 := rfl
    obtain rfl : m = 0x3C#8 := marker
    rw [shift, List.length_cons] at length
    rw [shift] at most
    cases rest using List.reverseRecOn with
    | nil => simp at length
    | append_singleton taken b =>
      rw [List.length_append, List.length_singleton] at length
      have kept : nat8 (taken ++ [b]) 4 = nat8 taken 4 := nat8_append_left (by omega) _
      exact ⟨taken, b, rfl, by omega, by omega⟩

/-- Settles O10: each frame on an open link leaves the receiver where it ends, and a request that does not come whole is counted. -/
theorem cutAndPassedFrames : Obligations.CutAndPassedFrames := by
  unfold Obligations.CutAndPassedFrames
  refine ⟨fun bytes s h part => ?_, fun dst kind length s h above => ?_, fun bytes s h part => ?_,
    fun a b c d length s h above => ?_, fun bytes s h ok => ?_⟩
  all_goals have settled : s.settled = s := s.settled_of_none h.due
  · have cut : (s.receiveAll (0xC3#8 :: bytes)).lineBreak = s.count LinkCounters.addFraming := h.lineBreak_cutRequest part
    simp only [exec, execFrameGapTimeout, execFramingError, settled, cut, if_true]
    exact ⟨rfl, rfl⟩
  · have aborted := h.receiveAll_overlongRequest dst kind above
    simp only [exec, execFramingError, settled, aborted]
    rfl
  · have cut : (s.receiveAll (0x3C#8 :: bytes)).lineBreak = s := h.lineBreak_cutReply part
    simp only [exec, execFrameGapTimeout, execFramingError, settled, cut, if_true, and_self]
  · have ended := h.receiveAll_overlongReply a b c d above
    simp only [exec, execFramingError, execOtherReplyPassed, settled, ended, Bool.false_eq_true, if_false, and_self]
  · obtain ⟨taken, b, rfl, most, whole⟩ := replyOk_split ok
    simp only [exec, execOtherReplyPassed, settled, h.receiveAll_wholeReply b most whole]

end Sys2Proof.Machine
end

section
/-!
PROOFS. The machine takes its commands one by one: a step is the front command, every command is answered by a next state, and none
touches the commands that wait (log entries 1, 4 and 5).
-/

namespace Sys2Proof.Machine

/-! ### A step -/

theorem step_of_front {s : State} {c : Instr} {rest : List Instr} (front : s.pending = c :: rest) :
    step s = exec c { s with pending := rest } := by
  unfold step
  rw [front]

theorem step_of_idle {s : State} (idle : s.pending = []) : step s = .next s := by
  unfold step
  rw [idle]

/-- Settles O1. -/
theorem stepTakesTheFrontCommand : Obligations.StepTakesTheFrontCommand := by
  unfold Obligations.StepTakesTheFrontCommand
  exact ⟨fun _ _ _ front => step_of_front front, fun _ idle => step_of_idle idle⟩

/-! ### One command -/

/-- No arm of `exec` refuses its command or faults: each one ends in a next state. -/
theorem exec_answers (c : Instr) (s : State) : ∃ t, exec c s = .next t := by
  cases c <;> exact ⟨_, rfl⟩

/-- Nothing that a byte of the line can bring about touches the commands that wait, a Board Reset included. -/
theorem LineKeeps.pending (q : List Instr) : LineKeeps fun t => t.pending = q where
  reply _ _ h := h
  count _ _ h := h
  attend _ h := h
  receiver _ _ h := h
  reset _ _ h := by simp [State.boardReset, h]
  owner _ _ _ _ answered h := answered.requested.pending.trans h

/-- No command touches the commands that wait: the expiries, reports and ticks leave them with the settings, an identity load
writes no more than what was loaded, and POWER_ON carries them over (log entry 5). -/
theorem exec_pending {c : Instr} {s t : State} (h : exec c s = .next t) : t.pending = s.pending := by
  have settled : s.settled.pending = s.pending := (State.SettingsKept.settled s).pending
  exact exec_ind (Q := fun t => t.pending = s.pending) h
    (power := fun _ => rfl)
    (expiry := fun e => (State.SettingsKept.occur s e).pending)
    (report := fun n kind => (State.Steady.takeReport _ n kind).pending.trans (State.SettingsKept.beforeReport s).pending)
    (settled := settled)
    (seen := fun _ => settled)
    (load := fun _ _ => by simp [State.endLoad])
    (sample := fun r => (State.Steady.sampleTick _ r).pending.trans settled)
    (thermal := fun r => (State.Steady.thermalTick _ r).pending.trans settled)
    (second := (State.Steady.secondTick _).pending.trans settled)
    (vector := fun e r => (State.Steady.vectorStep _ e r).pending.trans settled)
    (upset := fun _ => settled)
    (line := .pending s.pending)

/-- Settles O2: every arm ends in a next state, and every way a command works keeps the queue. -/
theorem everyCommandIsAnswered : Obligations.EveryCommandIsAnswered := by
  unfold Obligations.EveryCommandIsAnswered
  intro c s
  obtain ⟨t, answered⟩ := exec_answers c s
  exact ⟨t, answered, exec_pending answered⟩

end Sys2Proof.Machine
end

section
/-!
PROOFS. Due expiries are carried out in the order found, before the command that finds them due (log entries 2, 4, 31 and 42).
-/

namespace Sys2Proof.Machine

/-- Once the due expiries are carried out there is nothing left to carry out. -/
theorem State.settled_settled (s : State) : s.settled.settled = s.settled := s.settled.settled_of_none s.settled_due

/-! ### Commands that name no expiry -/

theorem exec_request_settled {c : Instr} {k : RequestKind} {dst : Byte} {p : List Byte}
    (row : requestOfRow c = some (k, dst, p)) (s : State) : exec c s = exec c s.settled := by
  rw [exec_request row, exec_request row, s.settled_settled]

theorem exec_report_settled {c : Instr} {r : Report} (row : reportOfRow c = some r) {s : State}
    (noSilence : .linkSilence ∉ s.due) (noReleases : .releases ∉ s.due) : exec c s = exec c s.settled := by
  have before : s.settled.beforeReport = s.settled := by
    rw [State.beforeReport_settled s.settled (by simp) (by simp), s.settled_settled]
  rw [exec_report (n := r.socket) (kind := r.kind) row, exec_report (n := r.socket) (kind := r.kind) row, before,
    s.beforeReport_settled noSilence noReleases]

/-- A row that carries no request and names neither an expiry nor a report begins with the expiries due, POWER_ON alone not. -/
theorem exec_plain_settled {c : Instr} (noRequest : requestOfRow c = none) (noExpiry : expiryOfRow c = none)
    (noReport : reportOfRow c = none) (notPower : ∀ straps, c ≠ .powerOn straps) (s : State) : exec c s = exec c s.settled := by
  cases c <;> simp only [requestOfRow, expiryOfRow, reportOfRow, reduceCtorEq] at noRequest noExpiry noReport
  case powerOn straps => exact absurd rfl (notPower straps)
  all_goals
    simp only [exec, execIdentityLoadEnd, execSampleTick, execThermalTick, execSecondTick, execStoreUpset,
      execFrameGapTimeout, execFramingError, execOtherReplyPassed, execCrcErrorFrame, execFrameForOthers, execBadKindFrame,
      execReplyTransmitStart, execReplySent, execVectorStep, s.settled_settled]

theorem exec_settled {c : Instr} {s : State} (noExpiry : expiryOfRow c = none) (notPower : ∀ straps, c ≠ .powerOn straps)
    (noSilence : Instr.takesReport c = true → .linkSilence ∉ s.due ∧ .releases ∉ s.due) : exec c s = exec c s.settled := by
  cases request : requestOfRow c with
  | some r => exact exec_request_settled request s
  | none =>
    cases report : reportOfRow c with
    | some r =>
      obtain ⟨whole, left⟩ := noSilence (by simp [Instr.takesReport, report])
      exact exec_report_settled report whole left
    | none => exact exec_plain_settled request noExpiry report notPower s

/-! ### Commands that name an expiry -/

theorem State.occur_of_due {s : State} {e : Expiry} {before after : List Expiry} (due : s.due = before ++ e :: after)
    (first : e ∉ before) : s.occur e = (before ++ [e]).foldl State.fire { s with due := after } := by
  have found : e ∈ s.due := by simp [due]
  have place : s.due.idxOf e + 1 = (before ++ [e]).length := by
    rw [due, List.idxOf_append_of_notMem first, List.idxOf_cons_self, List.length_append, List.length_singleton, Nat.add_zero]
  have split : s.due = (before ++ [e]) ++ after := by simp [due]
  unfold State.occur
  rw [if_pos found, place, split]
  dsimp only
  rw [List.take_left, List.drop_left]

/-- The row of an expiry makes it occur, where it is not the row of a silence expiry that stands half done (log entry 31). -/
theorem exec_occurs {c : Instr} {e : Expiry} (row : expiryOfRow c = some e) {s : State}
    (whole : e = .linkSilence → e ∈ s.due ∨ .releases ∉ s.due) : exec c s = .next (s.occur e) := by
  by_cases silence : e = .linkSilence
  · subst silence
    cases c <;> simp only [expiryOfRow, Option.some.injEq, reduceCtorEq] at row
    by_cases due : .linkSilence ∈ s.due
    · simp only [exec, execLinkSilenceExpiry, due, if_true]
    · have none : .releases ∉ s.due := (whole rfl).resolve_left due
      simp only [exec, execLinkSilenceExpiry, due, if_false, s.occur_of_not_due _ none, s.occur_of_not_due _ due]
  · cases c <;> simp only [expiryOfRow, Option.some.injEq, reduceCtorEq] at row
    case linkSilenceExpiry => exact absurd row.symm silence
    all_goals exact row ▸ rfl

/-- Settles O3: by what a row names; a row that names an expiry makes it occur. -/
theorem expiriesComeInTheOrderFound : Obligations.ExpiriesComeInTheOrderFound := by
  unfold Obligations.ExpiriesComeInTheOrderFound
  refine ⟨fun c s => exec_settled, fun c e s before after row due first => ?_, fun c e s row absent whole => ?_⟩
  · have found : e ∈ s.due := by simp [due]
    rw [exec_occurs row fun _ => .inl found, State.occur_of_due due first]
  · rw [exec_occurs row fun silence => .inr (whole silence), s.occur_of_not_due e absent]

end Sys2Proof.Machine
end

section
/-!
PROOFS. An individually addressed request on an open link: it reaches its owner, or is refused for its length (R169, R172, R184).
-/

namespace Sys2Proof.Machine

theorem State.heard_eq (s : State) : s.heard =
    { s with
        link :=
          { s.link with
              counters := { s.link.counters with good := min 65535 (s.link.counters.good + 1) },
              silence := 0, silenceBefore := s.link.silence, mode := .attended } } := rfl

/-- A request row for the board's own address, on an open link, is heard and handed on (R169). -/
theorem State.Hears.exec_individual {s : State} {dst : Byte} (h : s.Hears dst) {c : Instr} {k : RequestKind} {p : List Byte}
    (row : requestOfRow c = some (k, dst, p)) (short : p.length ≤ Config.maxPayload) :
    exec c s = .next ((s.seen c).heard.takeIndividual k.code (some k) p) := by
  obtain ⟨_, address, notBroadcast⟩ := h.seen c
  rw [h.toOpen.exec_row row short, State.takeFrame_individual _ _ _ _ _ (Link.addressing_own address notBroadcast), State.heard]

theorem State.takeIndividual_listed (s : State) (kind : Byte) (k : RequestKind) (p : List Byte) :
    s.takeIndividual kind (some k) p =
      if k.lengthOk p.length then (k.carryOut p s).1.respond kind (k.carryOut p s).2 else s.answer kind .badLength [] := rfl

/-- Settles O7: each response of an owner fills the reply slot, and a heard request is handed on by its length. -/
theorem individualRequestsReachTheirOwner : Obligations.IndividualRequestsReachTheirOwner := by
  unfold Obligations.IndividualRequestsReachTheirOwner
  refine ⟨fun s kind status payload n retain => ⟨rfl, rfl, rfl, rfl⟩, State.heard_eq, fun c k dst p s row h short => ?_⟩
  rw [h.exec_individual row short, State.takeIndividual_listed]

end Sys2Proof.Machine
end

section
/-!
PROOFS. The expiries that only report (R39 to R42, R45, R70 to R72), and the supply's own: a trip and a shed (R44, R47).
-/

namespace Sys2Proof.Machine

/-! ### One report and its own reset -/

theorem State.modSocket_id (s : State) (n : Sock) : s.modSocket n id = s := by
  have same : s.sockets.set n.val (s.sockets.get n) n.isLt = s.sockets := Vector.set_getElem_self _
  simp only [State.modSocket, State.setSocket, State.socket, id, same]

/-- An expiry that changes its socket and sends one report does nothing else. -/
theorem exec_reports {c : Instr} {e : Expiry} (row : ∀ s, exec c s = .next (State.occur s e)) {s : State} {n : Sock}
    {rest : List Expiry} (due : s.due = e :: rest) {kind : ReportKind} {change : Socket → Socket}
    (effect : ({ s with due := rest } : State).fire e = (({ s with due := rest } : State).modSocket n change).send n kind) :
    ∃ t, exec c s = .next t ∧ t.due = rest ∧ t.reports = s.reports ++ [⟨n, kind⟩] ∧ t.socket n = change (s.socket n) ∧
      (∀ m, m ≠ n → t.socket m = s.socket m) ∧ (∀ f, t.feed f = s.feed f) ∧ t.engine = s.engine ∧ t.log = s.log ∧
      t.events = s.events ∧ t.link = s.link ∧ t.store = s.store := by
  refine ⟨_, (exec_first row due).trans (congrArg _ effect), rfl, rfl, ?_, fun m hm => ?_, fun f => ?_, rfl, rfl, rfl, rfl, rfl⟩
  · exact (State.modSocket_socket _ n n change).trans (if_pos rfl)
  · exact (State.modSocket_socket _ n m change).trans (if_neg hm)
  · rw [State.send_feed, State.modSocket_feed, s.due_feed]

theorem State.due_inOrder (s : State) (rest : List Expiry) (n : Sock) :
    ({ s with due := rest } : State).inOrder n = s.inOrder n := by
  rw [State.inOrder, s.due_feed, State.inOrder]

/-- Settles O26: each of the eight is one change of its socket and one report, but for a qualification of an unlisted rail. -/
theorem reportingExpiries : Obligations.ReportingExpiries := by
  unfold Obligations.ReportingExpiries
  intro n s rest
  dsimp only
  set u : State := { s with due := rest } with hu
  have inOrder : u.inOrder n = s.inOrder n := s.due_inOrder rest n
  refine ⟨fun due => ?_, fun due => ?_, fun due unlisted => ?_, fun due listed => ?_, fun due => ?_, fun due => ?_, fun due => ?_,
    fun due => ?_, fun due => ?_⟩
  · exact exec_reports (c := .rampTimeout n) (fun _ => rfl) due
      (change := fun k => { k with rail := { k.rail with motion := .still } }) rfl
  · exact exec_reports (c := .moveTimeout n) (fun _ => rfl) due
      (change := fun k => { k with rail := { k.rail with motion := .still } }) rfl
  · rw [exec_first (c := .qualification n) (fun _ => rfl) due]
    exact congrArg _ (if_neg (by rw [inOrder, unlisted]; decide))
  · exact exec_reports (c := .qualification n) (fun _ => rfl) due
      (change := fun k => { k with rail := { k.rail with qualified := true, motion := .still } })
      (if_pos (inOrder.trans listed))
  · exact exec_reports (c := .unregulatedCountExpiry n) (fun _ => rfl) due
      (change := fun k => { k with rail := { k.rail with unregCount := 0 } }) rfl
  · exact exec_reports (c := .contactLossCountExpiry n) (fun _ => rfl) due
      (change := fun k => { k with rail := { k.rail with contactCount := 0 } }) rfl
  · exact exec_reports (c := .thermallySettled n) (fun _ => rfl) due (change := id)
      (by rw [State.modSocket_id]; rfl)
  · exact exec_reports (c := .excursionCountExpiry n) (fun _ => rfl) due
      (change := fun k => { k with heat := { k.heat with outWindowCount := 0 } }) rfl
  · exact exec_reports (c := .runawayCountExpiry n) (fun _ => rfl) due
      (change := fun k => { k with heat := { k.heat with runawayCount := 0 } }) rfl

/-! ### A rail turned off and its socket off the order list (R44, R47) -/

theorem State.takeOff_socket (s : State) (n m : Sock) :
    (s.takeOff n).socket m = if m = n then { s.socket n with rail := (s.socket n).rail.off } else s.socket m := by
  rw [State.takeOff, State.modFeed_socket, State.modRail_socket]

theorem State.takeOff_feed (s : State) (n : Sock) (f : FeedId) :
    (s.takeOff n).feed f =
      if f = feedOf n then { s.feed f with order := (s.feed f).order.filter (· != n) } else s.feed f := by
  rw [State.takeOff, State.modFeed_feed, State.modRail_feed, State.modRail_feed]
  split
  next e => rw [e]
  next => rfl

theorem State.takeOff_admission (s : State) (n m : Sock) : (s.takeOff n).admission m = s.admission m := by
  rw [State.admission, State.takeOff_socket]
  split
  next e => rw [e]; rfl
  next => rfl

/-- A list that holds `n` once is `left` with `n` put back: `left` is what taking `n` off leaves. -/
structure LeavesWithout (order left : List Sock) (n : Sock) : Prop where
  filter : order.filter (· != n) = left
  perm : order.Perm (n :: left)

theorem LeavesWithout.erase {order : List Sock} {n : Sock} (once : order.Nodup) (listed : n ∈ order) :
    LeavesWithout order (order.erase n) n := ⟨(once.erase_eq_filter n).symm, List.perm_cons_erase listed⟩

theorem LeavesWithout.last {older : List Sock} {n : Sock} (fresh : n ∉ older) : LeavesWithout (older ++ [n]) older n where
  filter := by
    have keeps : older.filter (· != n) = older := List.filter_eq_self.mpr fun m hm => by
      simpa using fun e : m = n => fresh (e ▸ hm)
    rw [List.filter_append, keeps]
    simp
  perm := List.perm_append_singleton n older

/-- What a trip and a shed have in common at the SSC, between the state `s` before and the state `t` after: the rail of `n` off, `left`
on the order list, the admission current of `n` released (R31), and no other socket changed (R44, R47). -/
structure State.TakenOff (s t : State) (n : Sock) (left : List Sock) : Prop where
  scu : ∀ m, (t.socket m).scu = (s.socket m).scu
  others : ∀ m, m ≠ n → t.socket m = s.socket m
  rail : (t.socket n).rail = (s.socket n).rail.off
  queue : (t.feed (feedOf n)).queue = (s.feed (feedOf n)).queue
  order : (t.feed (feedOf n)).order = left
  committed : t.committed (feedOf n) + s.admission n = s.committed (feedOf n)

/-- A socket taken off in a state `v` that agrees with `s` on the sockets and the lists. -/
theorem State.takenOff {s v t : State} {n : Sock} {left : List Sock}
    (leaves : LeavesWithout (s.feed (feedOf n)).order left n) (sockets : ∀ m, v.socket m = s.socket m)
    (order : (v.feed (feedOf n)).order = (s.feed (feedOf n)).order) (queue : (v.feed (feedOf n)).queue = (s.feed (feedOf n)).queue)
    (after : ∀ m, t.socket m = (v.takeOff n).socket m) (lists : ∀ f, t.feed f = (v.takeOff n).feed f) : s.TakenOff t n left := by
  have self : t.socket n = { s.socket n with rail := (s.socket n).rail.off } := by
    rw [after, State.takeOff_socket, if_pos rfl, sockets]
  have others : ∀ m, m ≠ n → t.socket m = s.socket m := fun m hm => by
    rw [after, State.takeOff_socket, if_neg hm, sockets]
  have remains : (t.feed (feedOf n)).order = left := by
    rw [lists, State.takeOff_feed, if_pos rfl, order, leaves.filter]
  have admission : t.admission = s.admission := funext fun m => by
    rw [State.admission, after, ← State.admission, State.takeOff_admission, State.admission, sockets, State.admission]
  refine ⟨fun m => ?_, others, by rw [self], ?_, remains, ?_⟩
  · by_cases hm : m = n
    · rw [hm, self]
    · rw [others m hm]
  · rw [lists, State.takeOff_feed, if_pos rfl, queue]
  · have sum := (leaves.perm.map s.admission).sum_eq
    rw [List.map_cons, List.sum_cons] at sum
    rw [State.committed, remains, admission, State.committed, sum, Nat.add_comm]

theorem State.shedNewest_of_last {s : State} {f : FeedId} {older : List Sock} {n : Sock} (last : (s.feed f).order = older ++ [n]) :
    s.shedNewest f =
      (((s.modFeed f fun g => { g with overCount := 0 }).takeOff n).send n .shed).raise .feedShed (single n) := by
  have newest : (s.feed f).order.getLast? = some n := by rw [last, List.getLast?_concat]
  simp only [State.shedNewest, newest]

/-- Settles O27: either takes the socket off and reports it, the shed also setting its flag and restarting its count. -/
theorem tripsAndShedsAtTheSupply : Obligations.TripsAndShedsAtTheSupply := by
  unfold Obligations.TripsAndShedsAtTheSupply
  intro n s rest f released
  set u : State := { s with due := rest } with hu
  have feed : ∀ g, u.feed g = s.feed g := s.due_feed rest
  have release : ∀ t left, s.TakenOff t n left → t.due = rest → t.log = s.log → released t := fun t left off due log => by
    refine ⟨due, off.scu, off.others, ?_, ?_, ?_, ?_, ?_, ?_, ?_, ?_, off.queue, off.committed, log⟩
    all_goals rw [off.rail]; rfl
  refine ⟨fun due once listed => ?_, fun older due list fresh => ?_⟩
  · have runs : exec (.trip n) s = .next ((u.takeOff n).send n .trip) := exec_first (fun _ => rfl) due
    have off : s.TakenOff ((u.takeOff n).send n .trip) n ((s.feed f).order.erase n) :=
      State.takenOff (v := u) (.erase once listed) (fun _ => rfl) (by rw [feed]) (by rw [feed]) (fun _ => rfl)
        (State.send_feed _ _ _)
    exact ⟨_, runs, release _ _ off (by simp [hu]) (by simp [hu]), by simp [hu], by simp [hu], off.order⟩
  · have sheds := State.shedNewest_of_last ((congrArg Feed.order (feed f)).trans list)
    set v := u.modFeed f fun g => { g with overCount := 0 } with hv
    have runs : exec (.shed f) s = .next (((v.takeOff n).send n .shed).raise .feedShed (single n)) :=
      (exec_first (fun _ => rfl) due).trans (congrArg _ sheds)
    have counted : v.feed f = { s.feed f with overCount := 0 } := by rw [hv, State.modFeed_feed, if_pos rfl, feed]
    have off : s.TakenOff (((v.takeOff n).send n .shed).raise .feedShed (single n)) n older := by
      have last : LeavesWithout (s.feed f).order older n := list ▸ .last fresh
      exact State.takenOff (v := v) last (State.modFeed_socket u f _) (by rw [counted]) (by rw [counted])
        (fun _ => rfl) fun _ => by rw [State.raise_feed, State.send_feed]
    have flags : ((v.takeOff n).send n .shed).events = s.events := by simp [hv, hu]
    refine ⟨_, runs, release _ _ off (by simp [hv, hu]) (by simp [hv, hu]), by simp [hv, hu], off.order, ?_, ?_⟩
    · rw [State.raise_feed, State.send_feed, State.takeOff_feed, if_pos rfl, counted]
    · rw [State.flag_raise, if_pos rfl, State.flag_congr flags]

end Sys2Proof.Machine
end

section
/-!
PROOFS. Calibrate Sense: a measurement begins (R50), and its end sets the offset or the mark (R51).
-/

namespace Sys2Proof.Machine

/-! ### Requests that name one socket -/

theorem byteAt_cons_zero (b : Byte) (p : List Byte) : byteAt (b :: p) 0 = b := rfl

theorem State.withSocket_sockCode (s : State) (n : Sock) (p : List Byte) (f : Sock → State × Response) :
    s.withSocket (sockCode n :: p) f = f n := by
  simp only [State.withSocket, byteAt_cons_zero, sockOf_sockCode]

theorem State.withSocket_above (s : State) {b : Byte} (above : 15 < b.toNat) (p : List Byte) (f : Sock → State × Response) :
    s.withSocket (b :: p) f = (s, .now .badArg []) := by
  simp only [State.withSocket, byteAt_cons_zero, sockOf_above above]

theorem State.respond_socket (s : State) (kind : Byte) (r : Response) (m : Sock) : (s.respond kind r).socket m = s.socket m := by
  cases r <;> rfl

/-! ### A measurement begins (R50) -/

theorem SocketState.present_of_busy {st : SocketState} (busy : st.busy = true) : st ≠ .absent := by
  rintro rfl
  exact absurd busy (by decide)

theorem calibrateSenseKind_carryOut (n : Sock) (s : State) :
    calibrateSenseKind.carryOut [sockCode n] s =
      if (s.socket n).scu.state = .absent then (s, .now .absent [])
      else if (s.socket n).scu.state.busy then (s, .now .wrongState [])
      else if (s.socket n).rail.calibration.isSome then (s, .now .calibrating [])
      else (s.modRail n fun r => { r with calibration := some {} }, .whenMeasured n) :=
  s.withSocket_sockCode n [] _

theorem calibrateSense_exec {s : State} {dst b : Byte} (h : s.Hears dst) {t : State} {r : Response}
    (carry : calibrateSenseKind.carryOut [b] s.heard = (t, r)) : exec (.calibrateSense dst [b]) s = .next (t.respond 0x23#8 r) :=
  h.exec_plain (c := .calibrateSense dst [b]) rfl rfl rfl (by simp) carry

/-! ### The end of a measurement (R51) -/

theorem offsetOk_iff (mean : Int) : offsetOk mean = true ↔ -250 ≤ mean ∧ mean ≤ 250 := by
  rw [offsetOk, decide_eq_true_iff]
  omega

theorem Rail.calibrated_done (r : Rail) (mean : Int) : (r.calibrated mean).calibration = none := by
  unfold Rail.calibrated
  split <;> rfl

theorem Rail.calibrated_fits (r : Rail) {mean : Int} (fits : -250 ≤ mean ∧ mean ≤ 250) :
    (r.calibrated mean).offset = mean ∧ (r.calibrated mean).faulted = false := by
  rw [Rail.calibrated, if_pos ((offsetOk_iff mean).mpr fits)]
  exact ⟨rfl, rfl⟩

theorem Rail.calibrated_beyond (r : Rail) {mean : Int} (beyond : ¬(-250 ≤ mean ∧ mean ≤ 250)) :
    (r.calibrated mean).offset = r.offset ∧ (r.calibrated mean).faulted = true := by
  rw [Rail.calibrated, if_neg fun ok => beyond ((offsetOk_iff mean).mp ok)]
  exact ⟨rfl, rfl⟩

theorem State.answerCalibration_socket (s : State) (n : Sock) (mean : Int) (m : Sock) :
    (s.answerCalibration n mean).socket m = s.socket m := by
  unfold State.answerCalibration
  split <;> rfl

theorem State.answerCalibration_awaited {s : State} {n : Sock} (awaited : s.link.reply = .measuring n) (mean : Int) :
    s.answerCalibration n mean =
      s.withReply (.pending (s.assemble 0x23#8 (if offsetOk mean then .ok else .senseFault)
        ([sockCode n] ++ leInt16 mean ++ leInt16 (s.socket n).rail.offset)) none) := if_pos awaited

theorem State.answerCalibration_unawaited {s : State} {n : Sock} (gone : s.link.reply ≠ .measuring n) (mean : Int) :
    s.answerCalibration n mean = s := if_neg gone

/-- The end of a measurement first among those due (R51; log entry 2). -/
theorem exec_calibrationEnd {s : State} {n : Sock} {rest : List Expiry} {c : Calibration} (due : s.due = .calibrationEnd n :: rest)
    (measured : (s.socket n).rail.calibration = some c) :
    exec (.calibrationEnd n) s =
      .next ((({ s with due := rest } : State).modRail n fun r => r.calibrated c.mean).answerCalibration n c.mean) := by
  have same : (({ s with due := rest } : State).socket n).rail.calibration = some c := measured
  rw [exec_first (c := .calibrationEnd n) (fun _ => rfl) due, State.fire, State.endCalibration, same]

/-- Settles O28: a request is refused or begins a measurement, and its end judges the mean and answers a reply that is awaited. -/
theorem aMeasurementBeginsAndEnds : Obligations.AMeasurementBeginsAndEnds := by
  unfold Obligations.AMeasurementBeginsAndEnds
  refine ⟨fun dst n s h => ?_, fun dst b s h above => ?_, fun n c s rest due measured => ?_⟩
  · intro k refused
    have carry := calibrateSenseKind_carryOut n s.heard
    rw [State.heard_socket] at carry
    refine ⟨fun absent => ?_, fun busy => ?_, fun present free taken => ?_, fun present free idle => ?_⟩
    · exact calibrateSense_exec h (carry.trans (if_pos absent))
    · exact calibrateSense_exec h (carry.trans ((if_neg (SocketState.present_of_busy busy)).trans (if_pos busy)))
    · have notBusy : ¬ k.scu.state.busy = true := Bool.eq_false_iff.mp free
      exact calibrateSense_exec h (carry.trans ((if_neg present).trans ((if_neg notBusy).trans (if_pos taken))))
    · have notBusy : ¬ k.scu.state.busy = true := Bool.eq_false_iff.mp free
      have notTaken : ¬ k.rail.calibration.isSome = true := by simp [idle]
      refine ⟨_, calibrateSense_exec h (carry.trans ((if_neg present).trans ((if_neg notBusy).trans (if_neg notTaken)))), rfl, ?_,
        fun m hm => ?_⟩
      · rw [State.respond_socket, State.modRail_socket, if_pos rfl]
        rfl
      · rw [State.respond_socket, State.modRail_socket, if_neg hm, State.heard_socket]
  · exact calibrateSense_exec h (s.heard.withSocket_above above [] _)
  · intro mean fits
    set u : State := ({ s with due := rest } : State).modRail n fun r => r.calibrated mean with hu
    have ends : exec (.calibrationEnd n) s = .next (u.answerCalibration n mean) := exec_calibrationEnd due measured
    have self : (u.answerCalibration n mean).socket n = { s.socket n with rail := (s.socket n).rail.calibrated mean } :=
      (u.answerCalibration_socket n mean n).trans ((State.modRail_socket _ n n _).trans (if_pos rfl))
    refine ⟨_, ends, by simp [hu], ?_, fun within => ?_, fun beyond => ?_, fun awaited => ?_, fun gone => ?_, fun m hm => ?_⟩
    · rw [self]
      exact Rail.calibrated_done _ _
    · rw [self]
      exact Rail.calibrated_fits _ within
    · rw [self]
      exact Rail.calibrated_beyond _ beyond
    · have status : (if offsetOk mean then Status.ok else .senseFault) = if fits then .ok else .senseFault :=
        if_congr (offsetOk_iff mean) rfl rfl
      rw [State.answerCalibration_awaited (s := u) awaited, status]
      rfl
    · rw [State.answerCalibration_unawaited (s := u) gone]
      rfl
    · exact (u.answerCalibration_socket n mean m).trans ((State.modRail_socket _ n m _).trans (if_neg hm))

end Sys2Proof.Machine
end

section
/-!
PROOFS. The three profile writes (R26, R54, R108, R109): refused, or stored and read back in the reply.
-/

namespace Sys2Proof.Machine

theorem writeRailProfileKind_carryOut (n : Sock) (p : List Byte) (s : State) :
    writeRailProfileKind.carryOut (sockCode n :: p) s =
      if (s.socket n).scu.state.busy then (s, .now .wrongState [])
      else match readRailProfile s.identity.tripMax p with
        | none => (s, .now .badArg [])
        | some profile => (s.modRail n fun r => { r with profile, written := true }, .now .ok (writeRailBytes profile)) :=
  (s.withSocket_sockCode n p _).trans rfl

theorem writeThermalProfileKind_carryOut (n : Sock) (p : List Byte) (s : State) :
    writeThermalProfileKind.carryOut (sockCode n :: p) s =
      match readThermalProfile p with
      | none => (s, .now .badArg [])
      | some profile => (s.modHeat n fun h => { h with profile, written := true }, .now .ok (writeThermalBytes profile)) :=
  (s.withSocket_sockCode n p _).trans rfl

theorem writeTestProfileKind_carryOut (n : Sock) (p : List Byte) (s : State) :
    writeTestProfileKind.carryOut (sockCode n :: p) s =
      match readTestProfile p with
      | none => (s, .now .badArg [])
      | some profile =>
        (s.modSocket n fun k => { k with lane := { k.lane with profile, written := true },
                                         credit := { k.credit with target := profile.target } },
          .now .ok (writeTestBytes profile)) :=
  (s.withSocket_sockCode n p _).trans rfl

section heard
variable {s : State} {dst : Byte} (h : s.Hears dst) {c : Instr} {k : RequestKind} {p : List Byte}
  (row : requestOfRow c = some (k, dst, p)) (plain : s.seen c = s) (length : k.lengthOk p.length = true)
  (short : p.length ≤ 250)
include h row plain length short

/-- A request whose owner changes nothing, and answers at once or refuses (R172, R174). -/
theorem State.Hears.exec_unchanged {r : Status} {sent : List Byte} (carry : k.carryOut p s.heard = (s.heard, .now r sent)) :
    exec c s = .next (s.heard.answer k.code r sent) := h.exec_plain row plain length short carry

/-- A request that its owner carries out by a change of one socket. -/
theorem State.Hears.exec_stores {n : Sock} {change : Socket → Socket} {sent : List Byte}
    (carry : k.carryOut p s.heard = (s.heard.modSocket n change, .now .ok sent)) :
    ∃ t, exec c s = .next t ∧ t.socket n = change (s.socket n) ∧ (∀ m, m ≠ n → t.socket m = s.socket m) ∧
      (∀ f, t.feed f = s.feed f) ∧ t.engine = s.engine ∧ t.events = s.events ∧ t.log = s.log ∧
      t.link.reply = .pending (t.assemble k.code .ok sent) none := by
  refine ⟨_, h.exec_plain row plain length short carry, ?_, fun m hm => ?_, fun f => ?_, rfl, rfl, rfl, rfl⟩
  · exact (s.heard.modSocket_socket n n change).trans (if_pos rfl)
  · exact (s.heard.modSocket_socket n m change).trans (if_neg hm)
  · exact (State.answer_feed _ _ _ _ f).trans ((s.heard.modSocket_feed n change f).trans (s.heard_feed f))

end heard

/-! ### One write, heard -/

section writes
variable {s : State} {dst : Byte} (h : s.Hears dst) {b : Byte} {p : List Byte}
include h

theorem State.Hears.railWrite_refused (eleven : p.length = 11) {r : Status}
    (carry : writeRailProfileKind.carryOut (b :: p) s.heard = (s.heard, .now r [])) :
    exec (.writeRailProfile dst (b :: p)) s = .next (s.heard.answer 0x20#8 r []) :=
  h.exec_unchanged (c := .writeRailProfile dst (b :: p)) rfl rfl (by simp [writeRailProfileKind, exactly, eleven])
    (by simp [eleven]) carry

theorem State.Hears.thermalWrite_refused (fifteen : p.length = 15)
    (carry : writeThermalProfileKind.carryOut (b :: p) s.heard = (s.heard, .now .badArg [])) :
    exec (.writeThermalProfile dst (b :: p)) s = .next (s.heard.answer 0x28#8 .badArg []) :=
  h.exec_unchanged (c := .writeThermalProfile dst (b :: p)) rfl rfl (by simp [writeThermalProfileKind, exactly, fifteen])
    (by simp [fifteen]) carry

theorem State.Hears.testWrite_refused (eight : p.length = 8)
    (carry : writeTestProfileKind.carryOut (b :: p) s.heard = (s.heard, .now .badArg [])) :
    exec (.writeTestProfile dst (b :: p)) s = .next (s.heard.answer 0x3B#8 .badArg []) :=
  h.exec_unchanged (c := .writeTestProfile dst (b :: p)) rfl rfl (by simp [writeTestProfileKind, exactly, eight])
    (by simp [eight]) carry

end writes

/-- Settles O38: a profile is judged by its owner alone, and stored by a change of its own socket. -/
theorem profilesAreStored : Obligations.ProfilesAreStored := by
  unfold Obligations.ProfilesAreStored
  refine ⟨fun dst b p s h above => ⟨fun eleven => ?_, fun fifteen => ?_, fun eight => ?_⟩, fun dst n p s h => ?_⟩
  · exact h.railWrite_refused eleven (s.heard.withSocket_above above p _)
  · exact h.thermalWrite_refused fifteen (s.heard.withSocket_above above p _)
  · exact h.testWrite_refused eight (s.heard.withSocket_above above p _)
  intro k arg stores bad
  have rail := writeRailProfileKind_carryOut n p s.heard
  have thermal := writeThermalProfileKind_carryOut n p s.heard
  have test := writeTestProfileKind_carryOut n p s.heard
  rw [State.heard_socket, State.heard_identity] at rail
  refine ⟨fun eleven busy => ?_, fun eleven free => ⟨fun unread => ?_, fun r read => ?_⟩,
    fun fifteen => ⟨fun unread => ?_, fun r read => ?_⟩, fun eight => ⟨fun unread => ?_, fun r read => ?_⟩⟩
  · exact h.railWrite_refused eleven (rail.trans (if_pos busy))
  · simp only [k, free, unread, Bool.false_eq_true, if_false] at rail
    exact h.railWrite_refused eleven rail
  · simp only [k, free, read, Bool.false_eq_true, if_false] at rail
    exact h.exec_stores (c := .writeRailProfile dst arg) rfl rfl (by simp [writeRailProfileKind, exactly, arg, eleven])
      (by simp [arg, eleven]) (change := fun k => { k with rail := { k.rail with profile := r, written := true } }) rail
  · rw [unread] at thermal
    exact h.thermalWrite_refused fifteen thermal
  · rw [read] at thermal
    exact h.exec_stores (c := .writeThermalProfile dst arg) rfl rfl (by simp [writeThermalProfileKind, exactly, arg, fifteen])
      (by simp [arg, fifteen]) (change := fun k => { k with heat := { k.heat with profile := r, written := true } }) thermal
  · rw [unread] at test
    exact h.testWrite_refused eight test
  · rw [read] at test
    exact h.exec_stores (c := .writeTestProfile dst arg) rfl rfl (by simp [writeTestProfileKind, exactly, arg, eight])
      (by simp [arg, eight]) test

end Sys2Proof.Machine
end

section
/-!
PROOFS. The life of a reply: its frame, its sending, and a marker that abandons it (R155, R166, R167, R172, R173, R175, R181).
-/

namespace Sys2Proof.Machine

/-! ### The frame (R155, R166, R167, R172) -/

/-- The kind byte of a reply is that of the request with 0x80 added modulo 256 (log entry 36). -/
theorem replyKind_eq (kind : Byte) : BitVec.ofNat 8 (kind.toNat + 128) = kind + 0x80#8 := by
  rw [BitVec.ofNat_add, BitVec.ofNat_toNat, BitVec.setWidth_eq]

theorem Reply.bytes_eq (r : Reply) :
    let covered := [r.address, BitVec.ofNat 8 (r.kind.toNat + 128), r.status.code, r.attention,
      BitVec.ofNat 8 r.payload.length] ++ r.payload
    r.bytes = [0x3C#8] ++ covered ++ le16 (crc16 covered).toNat := by
  rw [replyKind_eq]
  rfl

theorem State.assemble_eq (s : State) (kind : Byte) (status : Status) (payload : List Byte) :
    s.assemble kind status payload =
      { address := (match s.link.address with | some a => a | none => 0#8), kind, status, attention := attention s.events,
        payload } := by
  rw [State.assemble, State.address]
  cases s.link.address <;> rfl

/-! ### Its sending (R172, R181) -/

theorem exec_replyTransmitStart {s : State} (due : s.due = []) {r : Reply} {reset : Option Bool}
    (pending : s.link.reply = .pending r reset) :
    exec .replyTransmitStart s = .next (s.withReply (.sending r.bytes reset)) := by
  simp only [exec, execReplyTransmitStart, s.settled_of_none due, pending]

theorem exec_replySent_plain {s : State} (due : s.due = []) {bytes : List Byte} (sending : s.link.reply = .sending bytes none) :
    exec .replySent s = .next ((s.withReply .idle).count LinkCounters.addReply) := by
  simp only [exec, execReplySent, s.settled_of_none due, sending]

/-! ### A marker in its way (R165, R173) -/

/-- A reply not yet begun, that of Reset Board aside, waits on an open link in HUNT. -/
structure State.ReplyWaits (s : State) : Prop where
  due : s.due = []
  phase : s.phase = .running
  receiver : s.link.receiver = .hunt
  reply : (∃ r, s.link.reply = .pending r none) ∨ ∃ n, s.link.reply = .measuring n

section waits
variable {s : State} (h : s.ReplyWaits)
include h

theorem State.ReplyWaits.listening : s.listening = true := by
  rcases h.reply with ⟨r, e⟩ | ⟨n, e⟩ <;> simp [State.listening, h.phase, e]

theorem State.ReplyWaits.free : (s.withReply .idle).Open := ⟨h.due, h.phase, h.receiver, rfl⟩

/-- A marker does what it does with no reply in the way (R173). -/
theorem State.ReplyWaits.receive_marker {marker : Byte} (isMarker : marker = 0xC3#8 ∨ marker = 0x3C#8) :
    s.receive marker = (s.withReply .idle).receive marker := by
  simp only [State.receive, h.listening, h.free.listening, h.receiver, State.withReply_link, State.huntByte, isMarker, if_true,
    s.abandonReply_waiting h.reply, s.abandonReply_idle, h.free.phase]

theorem State.ReplyWaits.receiveAll_marker {marker : Byte} (isMarker : marker = 0xC3#8 ∨ marker = 0x3C#8) (bytes : List Byte) :
    s.receiveAll (marker :: bytes) = (s.withReply .idle).receiveAll (marker :: bytes) := by
  rw [State.receiveAll, State.receiveAll, List.foldl_cons, List.foldl_cons, h.receive_marker isMarker]

/-- A whole frame does what it does with no reply in the way (R173; log entry 17). -/
theorem State.ReplyWaits.request (dst kind : Byte) (k : Option RequestKind) (p : List Byte) :
    s.request dst kind k p = (s.withReply .idle).request dst kind k p := by
  simp only [State.request, h.receiver, State.withReply_link, State.receiveRequest, h.listening, h.free.listening, if_true,
    s.abandonReply_waiting h.reply, s.abandonReply_idle, h.free.phase]

theorem State.ReplyWaits.seen (c : Instr) : (s.seen c).ReplyWaits := by
  obtain ⟨x, e⟩ := s.seen_eq c
  rw [e]
  exact ⟨h.due, h.phase, h.receiver, h.reply⟩

/-- Bytes that are no markers are not looked at in HUNT (R165). -/
theorem State.ReplyWaits.receiveAll_noise {bytes : List Byte} (noise : ∀ b ∈ bytes, b ≠ 0xC3#8 ∧ b ≠ 0x3C#8) :
    s.receiveAll bytes = s := by
  induction bytes with
  | nil => rfl
  | cons b bytes ih =>
    have unmarked : ¬(b = 0xC3#8 ∨ b = 0x3C#8) := not_or.mpr (noise b List.mem_cons_self)
    have ignored : s.receive b = s := by
      simp only [State.receive, h.listening, h.receiver, if_true, State.huntByte, unmarked, if_false]
    rw [State.receiveAll, List.foldl_cons, ignored]
    exact ih fun x hx => noise x (List.mem_cons_of_mem b hx)

/-- In HUNT a break of the line ends no frame (R165; log entry 37). -/
theorem State.ReplyWaits.lineBreak : s.lineBreak = s := by
  simp only [State.lineBreak, h.listening, if_true, State.endFrame, h.receiver]

end waits

theorem State.seen_withReply (s : State) (r : ReplySlot) (c : Instr) : (s.withReply r).seen c = (s.seen c).withReply r := by
  cases c <;> rfl

section rows
variable {s : State} (h : s.ReplyWaits)
include h

theorem State.ReplyWaits.exec_row {c : Instr} {k : RequestKind} {dst : Byte} {p : List Byte}
    (row : requestOfRow c = some (k, dst, p)) : exec c s = exec c (s.withReply .idle) := by
  rw [exec_request row, exec_request row, s.settled_of_none h.due, State.settled_of_none _ h.free.due, State.requestOf,
    State.requestOf, (h.seen c).request, s.seen_withReply]

theorem State.ReplyWaits.exec_frames (dst kind : Byte) (p : List Byte) (crc : BitVec 16) :
    exec (.frameForOthers dst kind p) s = exec (.frameForOthers dst kind p) (s.withReply .idle) ∧
      exec (.badKindFrame dst kind p) s = exec (.badKindFrame dst kind p) (s.withReply .idle) ∧
      exec (.crcErrorFrame dst kind p crc) s = exec (.crcErrorFrame dst kind p crc) (s.withReply .idle) := by
  have settled : s.settled = s := s.settled_of_none h.due
  have freed : (s.withReply .idle).settled = s.withReply .idle := State.settled_of_none _ h.free.due
  have frame := h.request dst kind (requestKindOf kind) p
  have bytes : s.receiveAll (requestBytesWith dst kind p crc) = (s.withReply .idle).receiveAll (requestBytesWith dst kind p crc) :=
    h.receiveAll_marker (.inl rfl) _
  simp only [exec, execFrameForOthers, execBadKindFrame, execCrcErrorFrame, settled, freed, frame, bytes, and_self]

theorem State.ReplyWaits.exec_bytes {marker : Byte} (isMarker : marker = 0xC3#8 ∨ marker = 0x3C#8) (bytes : List Byte)
    (stopLow : Bool) :
    exec (.frameGapTimeout (marker :: bytes)) s = exec (.frameGapTimeout (marker :: bytes)) (s.withReply .idle) ∧
      exec (.framingError (marker :: bytes) stopLow) s = exec (.framingError (marker :: bytes) stopLow) (s.withReply .idle) ∧
      exec (.otherReplyPassed (marker :: bytes)) s = exec (.otherReplyPassed (marker :: bytes)) (s.withReply .idle) := by
  have settled : s.settled = s := s.settled_of_none h.due
  have freed : (s.withReply .idle).settled = s.withReply .idle := State.settled_of_none _ h.free.due
  have taken := h.receiveAll_marker isMarker bytes
  simp only [exec, execFrameGapTimeout, execFramingError, execOtherReplyPassed, settled, freed, taken, and_self]

/-- A marker cut off at once: the reply is gone, and a request so cut is counted (R165). -/
theorem State.ReplyWaits.exec_cut :
    exec (.frameGapTimeout [0xC3#8]) s = .next ((s.withReply .idle).count LinkCounters.addFraming) ∧
      exec (.frameGapTimeout [0x3C#8]) s = .next (s.withReply .idle) := by
  have freed : (s.withReply .idle).settled = s.withReply .idle := State.settled_of_none _ h.free.due
  have request := h.free.lineBreak_cutRequest (bytes := []) (.inl (by decide : 0 < 3))
  have reply := h.free.lineBreak_cutReply (bytes := []) (.inl (by decide : 0 < 5))
  rw [(h.exec_bytes (.inl rfl) [] false).1, (h.exec_bytes (.inr rfl) [] false).1]
  simp only [exec, execFrameGapTimeout, freed, request, reply, and_self]

theorem State.ReplyWaits.exec_noise {bytes : List Byte} (noise : ∀ b ∈ bytes, b ≠ 0xC3#8 ∧ b ≠ 0x3C#8) (stopLow : Bool) :
    exec (.framingError bytes stopLow) s = .next s := by
  simp only [exec, execFramingError, s.settled_of_none h.due, h.receiveAll_noise noise, h.lineBreak, ite_self]

end rows

/-- The marker that abandons the reply of Reset Board makes the reset act, and its frame is not taken (R173, R175, R181). -/
theorem exec_frameForOthers_resets {s : State} (due : s.due = []) (phase : s.phase = .running) (hunt : s.link.receiver = .hunt)
    {r : Reply} {retain : Bool} (pending : s.link.reply = .pending r (some retain)) (dst kind : Byte) (p : List Byte) :
    exec (.frameForOthers dst kind p) s = .next (s.boardReset retain) := by
  have listening : s.listening = true := by simp [State.listening, phase, pending]
  have abandoned : s.abandonReply = s.boardReset retain := by simp [State.abandonReply, pending]
  have closed : (s.boardReset retain).phase ≠ .running := by simp [State.boardReset]
  simp only [exec, execFrameForOthers, s.settled_of_none due, State.request, hunt, State.receiveRequest, listening, abandoned,
    closed, if_true, if_false]

/-- Settles O11: the reply's frame read off its definition; its sending by the slot; at a marker, the link with the slot free. -/
theorem aRepliesLife : Obligations.ARepliesLife := by
  unfold Obligations.ARepliesLife
  refine ⟨Reply.bytes_eq, State.assemble_eq, fun r reset s due => exec_replyTransmitStart due, fun bytes s due =>
    exec_replySent_plain due, fun bytes retain s due => exec_replySent due, fun s due phase hunt waiting => ?_,
    fun r retain dst kind p s due phase hunt pending => exec_frameForOthers_resets due phase hunt pending dst kind p⟩
  have h : s.ReplyWaits := ⟨due, phase, hunt, waiting⟩
  exact ⟨fun c k dst p => h.exec_row, h.exec_frames, fun marker bytes stopLow isMarker => h.exec_bytes isMarker bytes stopLow,
    h.exec_cut.1, h.exec_cut.2, fun bytes stopLow noise => h.exec_noise noise stopLow⟩

end Sys2Proof.Machine
end

section
/-!
PROOFS. Set Ceiling: the clamped ceiling, and each listed rail whose target it changes (R28, R29, R39, R40).
-/

namespace Sys2Proof.Machine

theorem nat16_of_le16 {n : Nat} (small : n ≤ 65535) : nat16 (le16 n) 0 = n := by
  have whole := nat16_le16 n []
  rw [List.append_nil] at whole
  omega

/-- The state in which Set Ceiling judges the rails: the clamped value in force (R28); `setCeilingKind_carryOut` ties it to the request. -/
def State.underCeiling (s : State) (mv : Nat) : State := { s with ceiling := clamp 400 s.identity.nativeCeiling mv }

theorem setCeilingKind_carryOut {mv : Nat} (small : mv ≤ 65535) (s : State) :
    setCeilingKind.carryOut (le16 mv) s =
      (s.setCeiling mv, .now .ok (le16 (s.underCeiling mv).ceiling ++ le16 (s.underCeiling mv).retargetSet.toNat)) := by
  simp only [setCeilingKind, nat16_of_le16 small]
  rfl

theorem State.underCeiling_inOrder (s : State) (mv : Nat) (n : Sock) : (s.underCeiling mv).inOrder n = s.inOrder n := by
  unfold State.inOrder
  cases feedOf n <;> rfl

theorem State.retargets_iff (s : State) (n : Sock) :
    s.retargets n = true ↔ s.inOrder n = true ∧ (s.socket n).rail.commanded ≠ s.targetOf n := by
  rw [State.retargets, Bool.and_eq_true, bne_iff_ne, ne_comm]

/-- What Set Ceiling leaves of one socket, by the test of R29. -/
theorem State.setCeiling_retargeted (s : State) (mv : Nat) (n : Sock) :
    (s.setCeiling mv).socket n =
      if (s.underCeiling mv).retargets n = true then
        { s.socket n with
            rail := if (s.socket n).scu.state.regulated then (s.socket n).rail.startMove ((s.underCeiling mv).targetOf n)
              else (s.socket n).rail.retargetRamp ((s.underCeiling mv).targetOf n) }
      else s.socket n := by
  refine (s.setCeiling_socket mv n).trans ((State.retarget_socket _ n n).trans ?_)
  exact if_congr (and_iff_right rfl) rfl rfl

theorem setCeiling_exec {s : State} {dst : Byte} (h : s.Hears dst) {mv : Nat} {t : State} {r : Response}
    (carry : setCeilingKind.carryOut (le16 mv) s.heard = (t, r)) :
    exec (.setCeiling dst (le16 mv)) s = .next (t.respond 0x21#8 r) :=
  h.exec_plain (c := .setCeiling dst (le16 mv)) rfl rfl rfl (by simp [le16]) carry

/-- Settles O40: each socket is judged by itself under the clamped ceiling. -/
theorem setCeilingRetargets : Obligations.SetCeilingRetargets := by
  unfold Obligations.SetCeilingRetargets
  refine ⟨SocketState.regulated_iff, fun dst mv s h small => ?_⟩
  obtain ⟨-, feedA, feedB, ceiling, -, -, engine, -, log, events, -⟩ := s.heard.setCeiling_frame mv
  have runs := setCeiling_exec h (setCeilingKind_carryOut small s.heard)
  have sockets := s.heard.setCeiling_retargeted mv
  generalize s.heard.setCeiling mv = t at *
  refine ⟨_, (s.heard.underCeiling mv).retargetSet, runs, ceiling, fun f => ?_, engine, events, log, ?_, fun n => ?_⟩
  · exact (State.answer_feed _ _ _ _ f).trans ((State.feed_congr feedA feedB f).trans (s.heard_feed f))
  · rw [show (t.respond 0x21#8 (.now .ok _)).ceiling = t.ceiling from rfl, ceiling]
    rfl
  · intro r target changes limit
    set answered := t.respond 0x21#8 (.now .ok _)
    have after := (State.respond_socket t 0x21#8 _ n : answered.socket n = t.socket n).trans (sockets n)
    have aim : (s.heard.underCeiling mv).targetOf n = target := by
      rw [State.targetOf, show target = min r.profile.setpoint answered.ceiling from rfl, show answered.ceiling = _ from ceiling]
      rfl
    have test : (s.heard.underCeiling mv).retargets n = true ↔ changes := by
      rw [State.retargets_iff, State.underCeiling_inOrder, aim, State.inOrder, s.heard_feed, ← State.inOrder]
      rfl
    rw [aim, State.heard_socket] at after
    refine ⟨?_, fun stays => ?_, fun moves regulated => ?_, fun moves ramping => ?_⟩
    · rw [State.retargetSet, SocketSet.has_setWhere, test]
    · rw [after, if_neg fun x => stays (test.mp x)]
    · rw [after, if_pos (test.mpr moves), if_pos regulated]
      rfl
    · rw [after, if_pos (test.mpr moves), if_neg (Bool.eq_false_iff.mp ramping)]
      rfl

end Sys2Proof.Machine
end

section
/-!
PROOFS. Profiles, links and sequence entries as bytes: what is sent reads back, and what is read lies within its limits (R26, R54,
R93, R108, R183).
-/

namespace Sys2Proof.Machine

/-! ### Numbers at an offset (R183) -/

section fields
variable {p : List Byte} {i : Nat}

theorem nat8_at {n : Nat} (here : byteAt p i = BitVec.ofNat 8 n) (small : n ≤ 255) : nat8 p i = n := by
  rw [nat8, here, BitVec.toNat_ofNat]
  omega

theorem nat16_mod_at {n : Nat} (low : byteAt p i = BitVec.ofNat 8 n) (high : byteAt p (i + 1) = BitVec.ofNat 8 (n / 256)) :
    nat16 p i = n % 65536 := by
  rw [nat16, nat8, nat8, low, high, BitVec.toNat_ofNat, BitVec.toNat_ofNat]
  omega

theorem nat16_at {n : Nat} (low : byteAt p i = BitVec.ofNat 8 n) (high : byteAt p (i + 1) = BitVec.ofNat 8 (n / 256))
    (small : n ≤ 65535) : nat16 p i = n := by
  rw [nat16_mod_at low high]
  omega

theorem nat32_at {n : Nat} (low : nat16 p i = n % 65536) (high : nat16 p (i + 2) = n / 65536 % 65536) (small : n ≤ 4294967295) :
    nat32 p i = n := by
  rw [nat32, low, high]
  omega

theorem int16_at {z : Int} (low : byteAt p i = BitVec.ofNat 8 (BitVec.ofInt 16 z).toNat)
    (high : byteAt p (i + 1) = BitVec.ofNat 8 ((BitVec.ofInt 16 z).toNat / 256)) (least : -32768 ≤ z) (most : z ≤ 32767) :
    int16 p i = z := by
  have whole := nat16_at low high (by omega)
  rw [int16, whole, BitVec.ofNat_toNat, BitVec.setWidth_eq, BitVec.toInt_ofInt_eq_self (by decide) (by omega) (by omega)]

theorem nat8_le (p : List Byte) (i : Nat) : nat8 p i ≤ 255 := Nat.le_of_lt_succ (byteAt p i).isLt

theorem nat16_le (p : List Byte) (i : Nat) : nat16 p i ≤ 65535 := by
  have low := nat8_le p i
  have high := nat8_le p (i + 1)
  rw [nat16]
  omega

end fields

/-! ### Rail profiles (R26) -/

/-- The checks of R26 on the bytes of a rail profile; `readRailProfile_eq` ties them and what is read to the request. -/
abbrev RailFits (m : Nat) (p : List Byte) : Prop :=
  400 ≤ nat16 p 0 ∧ nat16 p 0 ≤ 5000 ∧ 1 ≤ nat8 p 2 ∧ nat8 p 2 ≤ 250 ∧ nat16 p 3 ≤ 25000 ∧ 100 ≤ nat16 p 5 ∧
    nat16 p 7 ≤ 25000 ∧ nat16 p 7 < min (nat16 p 5) m ∧ nat8 p 9 ≤ 7 ∧ nat8 p 10 < 16

def railAt (m : Nat) (p : List Byte) : RailProfile :=
  { setpoint := nat16 p 0, slew := nat8 p 2, admission := nat16 p 3, trip := min (nat16 p 5) m, under := nat16 p 7,
    retries := nat8 p 9, rates := BitVec.ofNat 4 (nat8 p 10) ||| 1#4 }

theorem readRailProfile_eq (m : Nat) (p : List Byte) :
    readRailProfile m p = if RailFits m p then some (railAt m p) else none := rfl

theorem readRailProfile_isSome (m : Nat) (p : List Byte) : (readRailProfile m p).isSome = true ↔ RailFits m p := by
  rw [readRailProfile_eq, Option.isSome_ite]

theorem readRailProfile_some {m : Nat} {p : List Byte} {r : RailProfile} (h : readRailProfile m p = some r) :
    RailFits m p ∧ railAt m p = r := by
  rw [readRailProfile_eq, Option.ite_none_right_eq_some] at h
  exact ⟨h.1, Option.some.inj h.2⟩

/-- Rate 1 is in every stored rate set (R26). -/
theorem railAt_rates (m : Nat) (p : List Byte) (i : Fin 4) :
    (railAt m p).rates.getLsbD i.val = (i == 0 || (byteAt p 10).getLsbD i.val) := by
  have one : (1#4).getLsbD i.val = (i == 0) := by revert i; decide
  rw [railAt, BitVec.getLsbD_or, one, BitVec.getLsbD_ofNat, Bool.or_comm]
  simp [nat8, BitVec.getLsbD]

theorem rates_with_one {x : BitVec 4} (one : x.getLsbD 0 = true) : x ||| 1#4 = x := by
  revert x
  decide

theorem railBytes_read (r : RailProfile) (setpoint : r.setpoint ≤ 5000) (slew : r.slew ≤ 250)
    (admission : r.admission ≤ 25000) (trip : r.trip ≤ 25000) (under : r.under ≤ 25000) (retries : r.retries ≤ 7) :
    nat16 (writeRailBytes r) 0 = r.setpoint ∧ nat8 (writeRailBytes r) 2 = r.slew ∧ nat16 (writeRailBytes r) 3 = r.admission ∧
      nat16 (writeRailBytes r) 5 = r.trip ∧ nat16 (writeRailBytes r) 7 = r.under ∧ nat8 (writeRailBytes r) 9 = r.retries ∧
      nat8 (writeRailBytes r) 10 = r.rates.toNat := by
  refine ⟨nat16_at rfl rfl (by omega), nat8_at rfl (by omega), nat16_at rfl rfl (by omega), nat16_at rfl rfl (by omega),
    nat16_at rfl rfl (by omega), nat8_at rfl (by omega), ?_⟩
  have sent : byteAt (writeRailBytes r) 10 = r.rates.setWidth 8 := rfl
  rw [nat8, sent, BitVec.toNat_setWidth_of_le (by decide)]

/-- A rail profile within its limits reads back as sent (R26). -/
theorem readRailProfile_sent {m : Nat} {r : RailProfile} (most : m ≤ 25000) (setpoint : 400 ≤ r.setpoint ∧ r.setpoint ≤ 5000)
    (slew : 1 ≤ r.slew ∧ r.slew ≤ 250) (admission : r.admission ≤ 25000) (trip : 100 ≤ r.trip ∧ r.trip ≤ m)
    (under : r.under < r.trip) (retries : r.retries ≤ 7) (one : r.rates.getLsbD 0 = true) :
    readRailProfile m (writeRailBytes r) = some r := by
  obtain ⟨b0, b2, b3, b5, b7, b9, b10⟩ :=
    railBytes_read r setpoint.2 slew.2 admission (by omega) (by omega) retries
  have fits : RailFits m (writeRailBytes r) := by
    have rates := r.rates.isLt
    rw [RailFits, b0, b2, b3, b5, b7, b9, b10]
    omega
  have clamped : min r.trip m = r.trip := Nat.min_eq_left trip.2
  rw [readRailProfile_eq, if_pos fits, railAt, b0, b2, b3, b5, b7, b9, b10, clamped, BitVec.ofNat_toNat, BitVec.setWidth_eq,
    rates_with_one one]

/-! ### Thermal profiles (R54) -/

theorem edgeOf_code (e : EdgeSelection) : edgeOf e.code = some e := by cases e <;> rfl

theorem edgeOf_eq_some {b : Byte} {e : EdgeSelection} (h : edgeOf b = some e) : e.code = b := by
  unfold edgeOf at h
  split_ifs at h with h0 h1 h2 h3 <;> cases h
  exacts [h0.symm, h1.symm, h2.symm, h3.symm]

theorem edgeOf_isSome (b : Byte) : (edgeOf b).isSome = true ↔ b.toNat ≤ 3 := by
  revert b
  decide

/-- The checks of R54 on the numbers of a thermal profile; `readThermalProfile_eq` ties them and what is read to the request. -/
abbrev ThermalFits (p : List Byte) : Prop :=
  -400 ≤ int16 p 0 ∧ int16 p 0 ≤ 2000 ∧ 1 ≤ nat8 p 2 ∧ nat8 p 2 ≤ 200 ∧ 1 ≤ nat8 p 3 ∧ nat8 p 3 ≤ 200 ∧
    int16 p 0 + nat8 p 3 ≤ int16 p 4 ∧ int16 p 4 ≤ 2500 ∧ 10 ≤ nat16 p 6 ∧ nat16 p 6 ≤ 500 ∧ 10 ≤ nat16 p 8 ∧ nat16 p 10 ≤ 3600

def thermalAt (p : List Byte) (edge : EdgeSelection) : ThermalProfile :=
  { setpoint := int16 p 0, low := nat8 p 2, high := nat8 p 3, overTemp := int16 p 4, runawayMargin := nat16 p 6,
    settleTimeout := nat16 p 8, excursionLimit := nat16 p 10, kp := nat8 p 12, ki := nat8 p 13, edge }

theorem readThermalProfile_eq (p : List Byte) :
    readThermalProfile p = (edgeOf (byteAt p 14)).bind fun edge => if ThermalFits p then some (thermalAt p edge) else none := by
  unfold readThermalProfile
  cases edgeOf (byteAt p 14) <;> rfl

theorem readThermalProfile_some {p : List Byte} {r : ThermalProfile} (h : readThermalProfile p = some r) :
    ThermalFits p ∧ ∃ edge : EdgeSelection, edge.code = byteAt p 14 ∧ thermalAt p edge = r := by
  rw [readThermalProfile_eq, Option.bind_eq_some_iff] at h
  obtain ⟨edge, selected, read⟩ := h
  rw [Option.ite_none_right_eq_some] at read
  exact ⟨read.1, edge, edgeOf_eq_some selected, Option.some.inj read.2⟩

theorem readThermalProfile_isSome (p : List Byte) : (readThermalProfile p).isSome = true ↔ ThermalFits p ∧ nat8 p 14 ≤ 3 := by
  rw [nat8, ← edgeOf_isSome, readThermalProfile_eq]
  cases edgeOf (byteAt p 14) with
  | none => simp
  | some edge => rw [Option.bind_some, Option.isSome_ite, Option.isSome_some, and_iff_left rfl]

/-- The limits of R54. -/
structure ThermalProfile.WithinLimits (r : ThermalProfile) : Prop where
  setpoint : -400 ≤ r.setpoint ∧ r.setpoint ≤ 2000
  low : 1 ≤ r.low ∧ r.low ≤ 200
  high : 1 ≤ r.high ∧ r.high ≤ 200
  overTemp : r.setpoint + r.high ≤ r.overTemp ∧ r.overTemp ≤ 2500
  runawayMargin : 10 ≤ r.runawayMargin ∧ r.runawayMargin ≤ 500
  settleTimeout : 10 ≤ r.settleTimeout ∧ r.settleTimeout ≤ 65535
  excursionLimit : r.excursionLimit ≤ 3600
  gains : r.kp ≤ 255 ∧ r.ki ≤ 255

theorem thermalFits_of {p : List Byte} {e : EdgeSelection} (h : (thermalAt p e).WithinLimits) : ThermalFits p := by
  obtain ⟨setpoint, low, high, overTemp, runaway, settle, excursion, -⟩ := h
  exact ⟨setpoint.1, setpoint.2, low.1, low.2, high.1, high.2, overTemp.1, overTemp.2, runaway.1, runaway.2, settle.1, excursion⟩

theorem thermalAt_sent {r : ThermalProfile} (h : r.WithinLimits) : thermalAt (writeThermalBytes r) r.edge = r := by
  obtain ⟨setpoint, low, high, overTemp, runaway, settle, excursion, kp, ki⟩ := h
  have b0 : int16 (writeThermalBytes r) 0 = r.setpoint := int16_at rfl rfl (by omega) (by omega)
  have b2 : nat8 (writeThermalBytes r) 2 = r.low := nat8_at rfl (by omega)
  have b3 : nat8 (writeThermalBytes r) 3 = r.high := nat8_at rfl (by omega)
  have b4 : int16 (writeThermalBytes r) 4 = r.overTemp := int16_at rfl rfl (by omega) (by omega)
  have b6 : nat16 (writeThermalBytes r) 6 = r.runawayMargin := nat16_at rfl rfl (by omega)
  have b8 : nat16 (writeThermalBytes r) 8 = r.settleTimeout := nat16_at rfl rfl (by omega)
  have b10 : nat16 (writeThermalBytes r) 10 = r.excursionLimit := nat16_at rfl rfl (by omega)
  have b12 : nat8 (writeThermalBytes r) 12 = r.kp := nat8_at rfl (by omega)
  have b13 : nat8 (writeThermalBytes r) 13 = r.ki := nat8_at rfl (by omega)
  rw [thermalAt, b0, b2, b3, b4, b6, b8, b10, b12, b13]

theorem readThermalProfile_sent {r : ThermalProfile} (h : r.WithinLimits) : readThermalProfile (writeThermalBytes r) = some r := by
  have sent := thermalAt_sent h
  have edge : edgeOf (byteAt (writeThermalBytes r) 14) = some r.edge := edgeOf_code r.edge
  have fits : ThermalFits (writeThermalBytes r) := by
    refine thermalFits_of (e := r.edge) ?_
    rw [sent]
    exact h
  rw [readThermalProfile_eq, edge, Option.bind_some, if_pos fits, sent]

/-! ### Test profiles (R108) -/

theorem readTestProfile_eq (p : List Byte) :
    readTestProfile p =
      if 1 ≤ nat8 p 1 ∧ nat8 p 1 ≤ 16 then
        some { lanes := byteAt p 0, threshold := nat8 p 1, tolerance := nat16 p 2, target := nat32 p 4 }
      else none := rfl

theorem readTestProfile_sent {r : TestProfile} (threshold : 1 ≤ r.threshold ∧ r.threshold ≤ 16) (tolerance : r.tolerance ≤ 65535)
    (target : r.target ≤ 4294967295) : readTestProfile (writeTestBytes r) = some r := by
  have b0 : byteAt (writeTestBytes r) 0 = r.lanes := rfl
  have b1 : nat8 (writeTestBytes r) 1 = r.threshold := nat8_at rfl (by omega)
  have b2 : nat16 (writeTestBytes r) 2 = r.tolerance := nat16_at rfl rfl tolerance
  have b4 : nat32 (writeTestBytes r) 4 = r.target := nat32_at (nat16_mod_at rfl rfl) (nat16_mod_at rfl rfl) target
  rw [readTestProfile_eq, b0, b1, b2, b4, if_pos threshold]

theorem readTestProfile_some {p : List Byte} {r : TestProfile} (h : readTestProfile p = some r) :
    (1 ≤ nat8 p 1 ∧ nat8 p 1 ≤ 16) ∧
      { lanes := byteAt p 0, threshold := nat8 p 1, tolerance := nat16 p 2, target := nat32 p 4 } = r := by
  rw [readTestProfile_eq, Option.ite_none_right_eq_some] at h
  exact ⟨h.1, Option.some.inj h.2⟩

theorem readTestProfile_isSome (p : List Byte) : (readTestProfile p).isSome = true ↔ 1 ≤ nat8 p 1 ∧ nat8 p 1 ≤ 16 := by
  rw [readTestProfile_eq, Option.isSome_ite]

/-! ### Sequence entries (R93) -/

theorem linkOf_orNone (link : Option EntryNo) : linkOf (orNone link) = some link := by
  revert link
  decide

theorem linkOf_eq_some {b : Byte} {link : Option EntryNo} (h : linkOf b = some link) :
    orNone link = b ∧ (b = 255#8 ∨ b.toNat ≤ 31) := by
  unfold linkOf at h
  split_ifs at h with last entry <;> cases h
  · exact ⟨last.symm, .inl last⟩
  · exact ⟨by simp [orNone], .inr (Nat.le_of_lt_succ entry)⟩

theorem linkOf_isSome (b : Byte) : (linkOf b).isSome = true ↔ b.toNat ≤ 31 ∨ b.toNat = 255 := by
  revert b
  decide

/-- The length and the repeat count of an entry as carried: 0 stands for one above the largest (R93). -/
abbrev entryLength (p : List Byte) : Nat := if nat8 p 3 = 0 then 256 else nat8 p 3

abbrev entryRepeats (p : List Byte) : Nat := if nat16 p 4 = 0 then 65536 else nat16 p 4

def entryAt (p : List Byte) (link : Option EntryNo) : SeqEntry :=
  { enabled := (byteAt p 0).getLsbD 0, start := nat16 p 1, length := entryLength p, repeats := entryRepeats p, link,
    loopHead := (byteAt p 0).getLsbD 1 }

theorem readEntry_eq (p : List Byte) :
    readEntry p = (linkOf (byteAt p 6)).bind fun link =>
      if nat16 p 1 ≤ 4095 ∧ nat16 p 1 + entryLength p ≤ 4096 then some (entryAt p link) else none := by
  unfold readEntry
  cases linkOf (byteAt p 6) <;> rfl

theorem readEntry_some {p : List Byte} {e : SeqEntry} (h : readEntry p = some e) :
    (nat16 p 1 ≤ 4095 ∧ nat16 p 1 + entryLength p ≤ 4096) ∧
      ∃ link, (orNone link = byteAt p 6 ∧ (byteAt p 6 = 255#8 ∨ (byteAt p 6).toNat ≤ 31)) ∧ entryAt p link = e := by
  rw [readEntry_eq, Option.bind_eq_some_iff] at h
  obtain ⟨link, linked, read⟩ := h
  rw [Option.ite_none_right_eq_some] at read
  exact ⟨read.1, link, linkOf_eq_some linked, Option.some.inj read.2⟩

theorem readEntry_isSome (p : List Byte) :
    (readEntry p).isSome = true ↔
      nat16 p 1 ≤ 4095 ∧ nat16 p 1 + entryLength p ≤ 4096 ∧ (nat8 p 6 ≤ 31 ∨ nat8 p 6 = 255) := by
  have linked : nat8 p 6 ≤ 31 ∨ nat8 p 6 = 255 ↔ _ := (linkOf_isSome (byteAt p 6)).symm
  rw [← and_assoc, linked, readEntry_eq]
  cases linkOf (byteAt p 6) with
  | none => simp
  | some link => rw [Option.bind_some, Option.isSome_ite, Option.isSome_some, and_iff_left rfl]

theorem entryLength_decodes (p : List Byte) : 1 ≤ entryLength p ∧ entryLength p ≤ 256 ∧ entryLength p % 256 = nat8 p 3 := by
  have most := nat8_le p 3
  rw [entryLength]
  split <;> omega

theorem entryRepeats_decodes (p : List Byte) :
    1 ≤ entryRepeats p ∧ entryRepeats p ≤ 65536 ∧ entryRepeats p % 65536 = nat16 p 4 := by
  have most := nat16_le p 4
  rw [entryRepeats]
  split <;> omega

theorem entryFlags_read (enabled loopHead : Bool) :
    (BitVec.ofNat 8 (bitIf enabled 1 + bitIf loopHead 2)).getLsbD 0 = enabled ∧
      (BitVec.ofNat 8 (bitIf enabled 1 + bitIf loopHead 2)).getLsbD 1 = loopHead := by
  revert enabled loopHead
  decide

theorem readEntry_sent {e : SeqEntry} (start : e.start ≤ 4095) (length : 1 ≤ e.length ∧ e.length ≤ 256)
    (last : e.start + e.length ≤ 4096) (repeats : 1 ≤ e.repeats ∧ e.repeats ≤ 65536) :
    readEntry (writeEntryBytes e) = some e := by
  have flags := entryFlags_read e.enabled e.loopHead
  have b0 : byteAt (writeEntryBytes e) 0 = BitVec.ofNat 8 (bitIf e.enabled 1 + bitIf e.loopHead 2) := rfl
  have b1 : nat16 (writeEntryBytes e) 1 = e.start := nat16_at rfl rfl (by omega)
  have b3 : nat8 (writeEntryBytes e) 3 = e.length % 256 := BitVec.toNat_ofNat ..
  have b4 : nat16 (writeEntryBytes e) 4 = e.repeats % 65536 := nat16_mod_at rfl rfl
  have b6 : linkOf (byteAt (writeEntryBytes e) 6) = some e.link := linkOf_orNone e.link
  have whole : entryLength (writeEntryBytes e) = e.length := by
    rw [entryLength, b3]
    split <;> omega
  have times : entryRepeats (writeEntryBytes e) = e.repeats := by
    rw [entryRepeats, b4]
    split <;> omega
  rw [readEntry_eq, b6, Option.bind_some, b1, whole, if_pos ⟨start, last⟩, entryAt, b0, b1, whole, times, flags.1, flags.2]

/-- Settles O39: what is sent is read field by field, and what is read is the fields within their limits. -/
theorem profilesReadBackAsSent : Obligations.ProfilesReadBackAsSent := by
  unfold Obligations.ProfilesReadBackAsSent
  refine ⟨fun m r most setpoint setpoint' slew slew' admission trip trip' _ under' retries one => ?_,
    fun r setpoint setpoint' low low' high high' overTemp overTemp' runaway runaway' settle settle' excursion kp ki => ?_,
    fun r threshold threshold' tolerance target => ?_, fun e start length length' last repeats repeats' => ?_,
    fun m p r read => ?_, fun p r read => ?_, fun p r read => ?_, fun p e read => ?_, readRailProfile_isSome,
    fun p => ?_, readTestProfile_isSome, readEntry_isSome⟩
  · exact ⟨readRailProfile_sent most ⟨setpoint, setpoint'⟩ ⟨slew, slew'⟩ admission ⟨trip, trip'⟩ under' retries one, rfl⟩
  · exact ⟨readThermalProfile_sent ⟨⟨setpoint, setpoint'⟩, ⟨low, low'⟩, ⟨high, high'⟩, ⟨overTemp, overTemp'⟩, ⟨runaway, runaway'⟩,
      ⟨settle, settle'⟩, excursion, ⟨kp, ki⟩⟩, rfl⟩
  · exact ⟨readTestProfile_sent ⟨threshold, threshold'⟩ tolerance target, rfl⟩
  · exact ⟨readEntry_sent start ⟨length, length'⟩ last ⟨repeats, repeats'⟩, rfl⟩
  · obtain ⟨⟨setpoint, setpoint', slew, slew', admission, trip, under, under', retries, rates⟩, rfl⟩ := readRailProfile_some read
    exact ⟨setpoint, setpoint', slew, slew', admission, trip, under, under', retries, rates, rfl, rfl, rfl, rfl, rfl, rfl,
      railAt_rates m p⟩
  · obtain ⟨⟨setpoint, setpoint', low, low', high, high', overTemp, overTemp', runaway, runaway', settle, excursion⟩, edge, code,
      rfl⟩ := readThermalProfile_some read
    exact ⟨setpoint, setpoint', low, low', high, high', overTemp, overTemp', runaway, runaway', settle, excursion, rfl, rfl, rfl,
      rfl, rfl, rfl, rfl, rfl, rfl, code⟩
  · obtain ⟨⟨threshold, threshold'⟩, rfl⟩ := readTestProfile_some read
    exact ⟨threshold, threshold', rfl, rfl, rfl, rfl⟩
  · obtain ⟨⟨start, last⟩, link, ⟨sent, named⟩, rfl⟩ := readEntry_some read
    obtain ⟨length, length', encodedLength⟩ := entryLength_decodes p
    obtain ⟨repeats, repeats', encodedRepeats⟩ := entryRepeats_decodes p
    exact ⟨start, length, length', last, repeats, repeats', rfl, rfl, rfl, encodedLength, encodedRepeats, sent, named⟩
  · rw [readThermalProfile_isSome]
    simp only [ThermalFits, and_assoc]

end Sys2Proof.Machine
end

section
/-!
PROOFS. The requests that only read: each answers its layout, and nothing but the link's own counts changes (R52, R85, R90, R95, R115,
R116, R122, R137, R145, R156, R175, R176).
-/

namespace Sys2Proof.Machine

/-! ### How long a reply is -/

theorem le16_length (n : Nat) : (le16 n).length = 2 := rfl

theorem le32_length (n : Nat) : (le32 n).length = 4 := rfl

theorem leInt16_length (z : Int) : (leInt16 z).length = 2 := rfl

theorem flatten_map_length {α : Type} {f : α → List Byte} {n : Nat} (l : List α) (each : ∀ x, (f x).length = n) :
    (l.map f).flatten.length = n * l.length := by
  have lengths : List.length ∘ f = fun _ => n := funext each
  rw [List.length_flatten, List.map_map, lengths, List.map_const', List.sum_replicate, smul_eq_mul, Nat.mul_comm]

theorem captures_length (l : List Capture) : (l.map writeCaptureBytes).flatten.length = 10 * l.length :=
  flatten_map_length l fun _ => rfl

theorem State.identifyBytes_length (s : State) : s.identifyBytes.length = 31 := rfl

theorem State.linkCounterBytes_length (s : State) : s.linkCounterBytes.length = 21 := by
  simp [State.linkCounterBytes, le16]

theorem State.pollBytes_length (s : State) : s.pollBytes.length = 36 := by
  have sets : (s.events.toList.map fun x => le16 x.sockets.toNat).flatten.length = 2 * s.events.toList.length :=
    flatten_map_length _ fun _ => rfl
  simp only [State.pollBytes, List.length_append, sets, le16_length, Vector.length_toList, List.length_cons, List.length_nil]

theorem Store.statusBytes_length (t : Store) : t.statusBytes.length = 69 := by
  simp [Store.statusBytes]

theorem Engine.statusBytes_length (g : Engine) : g.statusBytes.length = 16 := rfl

theorem State.compareBytes_length (s : State) (n : Sock) :
    (s.compareBytes n).length = 19 + 10 * (s.socket n).lane.captures.length := by
  rw [State.compareBytes, List.length_append, captures_length]
  rfl

theorem State.accountBytes_length (s : State) (n : Sock) : (s.accountBytes n).length = 56 := by
  unfold State.accountBytes
  extract_lets k a
  simp only [List.length_append, le16_length, le32_length, leInt16_length, List.length_cons, List.length_nil]

/-! ### The records that a Read Log places (R145) -/

theorem writeRecordBytes_length (r : FailRecord) : (writeRecordBytes r).length = r.size := by
  rw [writeRecordBytes, List.length_append, captures_length]
  rfl

/-- The records placed are the oldest of those offered: they fit the room, and one more would not, or not be asked for. -/
theorem placed_spec : ∀ (most room : Nat) (l : List FailRecord), ∃ after, l = placed most room l ++ after ∧
    (placed most room l).length ≤ most ∧ ((placed most room l).map writeRecordBytes).flatten.length ≤ room ∧
    ∀ r rest, after = r :: rest → (placed most room l).length < most →
      room < ((placed most room l).map writeRecordBytes).flatten.length + (writeRecordBytes r).length
  | 0, room, l => ⟨l, rfl, le_rfl, Nat.zero_le _, fun _ _ _ none => absurd none (Nat.lt_irrefl 0)⟩
  | most + 1, room, [] => ⟨[], rfl, Nat.zero_le _, Nat.zero_le _, fun _ _ none => by cases none⟩
  | most + 1, room, r :: l => by
    by_cases fits : r.size ≤ room
    · obtain ⟨after, whole, count, length, next⟩ := placed_spec most (room - r.size) l
      have step : placed (most + 1) room (r :: l) = r :: placed most (room - r.size) l := if_pos fits
      rw [step, List.map_cons, List.flatten_cons, List.length_append, List.length_cons, writeRecordBytes_length]
      refine ⟨after, by rw [List.cons_append, ← whole], by omega, by omega, fun x rest e more => ?_⟩
      have beyond := next x rest e (by omega)
      omega
    · have step : placed (most + 1) room (r :: l) = [] := if_neg fits
      rw [step]
      refine ⟨r :: l, rfl, Nat.zero_le _, Nat.zero_le _, fun x rest e _ => ?_⟩
      obtain ⟨rfl, rfl⟩ := List.cons.inj e
      simpa [writeRecordBytes_length] using fits

theorem FailLog.readBytes_length (l : FailLog) (offset most : Nat) : (l.readBytes offset most).length ≤ 250 := by
  obtain ⟨-, -, -, room, -⟩ := placed_spec most 231 (l.records.drop offset)
  have summary : (writeSummaryBytes l).length = 16 := rfl
  have fields : ∀ a b c : Byte, [a, b, c].length = 3 := fun _ _ _ => rfl
  simp only [FailLog.readBytes, FailLog.readFrom, List.length_append, summary, fields]
  omega

/-! ### One read, heard -/

theorem feedIdOf_feedCode (f : FeedId) : feedIdOf (feedCode f) = some f := by cases f <;> rfl

theorem feedIdOf_above {b : Byte} (above : 1 < b.toNat) : feedIdOf b = none := by
  have notA : b ≠ 0#8 := by bv_omega
  have notB : b ≠ 1#8 := by bv_omega
  rw [feedIdOf, if_neg notA, if_neg notB]

theorem State.heard_feedBytes (s : State) (f : FeedId) : s.heard.feedBytes f = s.feedBytes f := by cases f <;> rfl

theorem readFeedStatusKind_reads (f : FeedId) (s : State) :
    readFeedStatusKind.carryOut [feedCode f] s = (s, .now .ok (s.feedBytes f)) := by
  simp only [readFeedStatusKind, byteAt_single, feedIdOf_feedCode]

theorem readFeedStatusKind_refuses {b : Byte} (above : 1 < b.toNat) (s : State) :
    readFeedStatusKind.carryOut [b] s = (s, .now .badArg []) := by
  simp only [readFeedStatusKind, byteAt_single, feedIdOf_above above]

theorem readVectorsRawKind_carryOut {start : Nat} (small : start ≤ 65535) (count : Byte) (s : State) :
    readVectorsRawKind.carryOut (le16 start ++ [count]) s =
      if 1 ≤ count.toNat ∧ count.toNat ≤ 40 ∧ start ≤ 4095 ∧ start + count.toNat ≤ 4096 then
        (s, .now .ok (s.store.rawBytes start count.toNat))
      else (s, .now .badArg []) := by
  have first : nat16 (le16 start ++ [count]) 0 = start := nat16_at rfl rfl small
  have number : nat8 (le16 start ++ [count]) 2 = count.toNat := rfl
  simp only [readVectorsRawKind, first, number]

theorem readLogKind_carryOut (offset most : Byte) (s : State) :
    readLogKind.carryOut [offset, most] s =
      if offset.toNat ≤ 127 then (s, .now .ok (s.log.readBytes offset.toNat most.toNat)) else (s, .now .badArg []) := rfl

/-- Settles O51: the owner of each of the requests leaves the machine as it is and answers its layout, or refuses. -/
theorem readsChangeNothing : Obligations.ReadsChangeNothing := by
  unfold Obligations.ReadsChangeNothing
  intro dst s h reads refused
  refine ⟨?_, s.heard.identifyBytes_length, ?_, s.heard.linkCounterBytes_length, ?_, s.heard.pollBytes_length, fun f => ?_,
    fun b above => ?_, fun start count small => ⟨fun least most last => ?_, fun outside => ?_⟩, ?_, s.store.statusBytes_length, ?_,
    ?_, s.engine.statusBytes_length, fun n => ⟨?_, s.compareBytes_length n⟩, ?_, fun n => ⟨?_, s.accountBytes_length n⟩,
    fun b above => ⟨?_, ?_⟩, fun offset most => ⟨fun inside => ⟨?_, s.log.readBytes_length _ _⟩, fun outside => ?_⟩⟩
  · exact h.exec_unchanged (c := .identify dst []) rfl rfl rfl (by simp) rfl
  · exact h.exec_unchanged (c := .readLinkCounters dst []) rfl rfl rfl (by simp) rfl
  · exact h.exec_unchanged (c := .poll dst []) rfl rfl rfl (by simp) rfl
  · have carry := readFeedStatusKind_reads f s.heard
    rw [s.heard_feedBytes] at carry
    exact h.exec_unchanged (c := .readFeedStatus dst [feedCode f]) rfl rfl rfl (by simp) carry
  · exact h.exec_unchanged (c := .readFeedStatus dst [b]) rfl rfl rfl (by simp) (readFeedStatusKind_refuses above s.heard)
  · have carry := readVectorsRawKind_carryOut small count s.heard
    rw [if_pos ⟨least, most, by omega, last⟩] at carry
    exact h.exec_unchanged (c := .readVectorsRaw dst (le16 start ++ [count])) rfl rfl rfl (by simp [le16]) carry
  · have carry := readVectorsRawKind_carryOut small count s.heard
    rw [if_neg (by omega)] at carry
    exact h.exec_unchanged (c := .readVectorsRaw dst (le16 start ++ [count])) rfl rfl rfl (by simp [le16]) carry
  · exact h.exec_unchanged (c := .readStoreStatus dst []) rfl rfl rfl (by simp) rfl
  · exact h.exec_unchanged (c := .readSequenceTable dst []) rfl rfl rfl (by simp) rfl
  · exact h.exec_unchanged (c := .readEngineStatus dst []) rfl rfl rfl (by simp) rfl
  · exact h.exec_unchanged (c := .readCompareStatus dst [sockCode n]) rfl rfl rfl (by simp) (s.heard.withSocket_sockCode n [] _)
  · exact h.exec_unchanged (c := .readFactorTable dst []) rfl rfl rfl (by simp) rfl
  · exact h.exec_unchanged (c := .readAccount dst [sockCode n]) rfl rfl rfl (by simp) (s.heard.withSocket_sockCode n [] _)
  · exact h.exec_unchanged (c := .readCompareStatus dst [b]) rfl rfl rfl (by simp) (s.heard.withSocket_above above [] _)
  · exact h.exec_unchanged (c := .readAccount dst [b]) rfl rfl rfl (by simp) (s.heard.withSocket_above above [] _)
  · exact h.exec_unchanged (c := .readLog dst [offset, most]) rfl rfl rfl (by simp)
      ((readLogKind_carryOut offset most s.heard).trans (if_pos inside))
  · exact h.exec_unchanged (c := .readLog dst [offset, most]) rfl rfl rfl (by simp)
      ((readLogKind_carryOut offset most s.heard).trans (if_neg (by omega)))

end Sys2Proof.Machine
end

section
/-!
PROOFS. The layouts of the replies: where each field stands (sections 11.2 to 11.7), field by field from the front of the payload.
-/

namespace Sys2Proof.Machine

/-! ### Fields one after another -/

/-- Where fields stand that follow one another from an offset. -/
def starts : Nat → List (List Byte) → List Nat
  | _, [] => []
  | i, f :: fs => i :: starts (i + f.length) fs

/-- A field with bytes before and after it stands where the bytes before it end. -/
theorem field_at {payload before field after : List Byte} {i : Nat} (whole : payload = before ++ (field ++ after))
    (place : before.length = i) : (payload.drop i).take field.length = field := by
  rw [whole, ← place, List.drop_left, List.take_left]

theorem laid_single {payload before field after : List Byte} {i : Nat} (whole : payload = before ++ (field ++ after))
    (place : before.length = i) : Laid payload [(i, field)] := fun x hx => by
  rw [List.mem_singleton.mp hx]
  exact field_at whole place

theorem Laid.cons {payload field : List Byte} {i : Nat} {fields : List (Nat × List Byte)} (first : Laid payload [(i, field)])
    (rest : Laid payload fields) : Laid payload ((i, field) :: fields) := fun x hx => by
  rcases List.mem_cons.mp hx with rfl | hx
  · exact first _ List.mem_cons_self
  · exact rest x hx

theorem Laid.subset {payload : List Byte} {fields few : List (Nat × List Byte)} (all : Laid payload fields)
    (sub : few ⊆ fields) : Laid payload few := fun x hx => all x (sub hx)

theorem laid_after : ∀ (fields : List (Nat × List Byte)) (before after : List Byte),
    fields.map Prod.fst = starts before.length (fields.map Prod.snd) →
    Laid (before ++ ((fields.map Prod.snd).flatten ++ after)) fields
  | [], _, _, _ => fun _ none => absurd none List.not_mem_nil
  | (i, field) :: fields, before, after, places => by
    obtain ⟨first, rest⟩ := List.cons.inj places
    have whole : before ++ ((((i, field) :: fields).map Prod.snd).flatten ++ after) =
        (before ++ field) ++ ((fields.map Prod.snd).flatten ++ after) := by
      simp only [List.map_cons, List.flatten_cons, List.append_assoc]
    rw [whole]
    refine .cons (laid_single (List.append_assoc before field _) first.symm) (laid_after fields _ after ?_)
    rw [List.length_append]
    exact rest

/-- Fields that follow one another from the front of a payload stand where their lengths put them. -/
theorem laid_fields {payload after : List Byte} {fields : List (Nat × List Byte)}
    (whole : payload = (fields.map Prod.snd).flatten ++ after) (places : fields.map Prod.fst = starts 0 (fields.map Prod.snd)) :
    Laid payload fields := by
  rw [whole]
  exact laid_after fields [] after places

/-! ### Numbers (R183) -/

theorem le32_eq (n : Nat) :
    le32 n = [BitVec.ofNat 8 n, BitVec.ofNat 8 (n / 256), BitVec.ofNat 8 (n / 65536), BitVec.ofNat 8 (n / 16777216)] := by
  have last : n / 65536 / 256 = n / 16777216 := Nat.div_div_eq_div_mul n 65536 256
  rw [← last]
  rfl

theorem leInt16_eq (z : Int) : leInt16 z = le16 (z % 65536).toNat := by
  rw [leInt16, BitVec.toNat_ofInt]
  rfl

/-! ### The bin of an account (R136) -/

theorem Account.bin_eq (a : Account) (failing : Nat) :
    a.bin failing =
      if a.firstFail = true ∧ a.firstCause ∈ [some Cause.railTrip, some .railUnreg, some .contactLoss] then .failPower
      else if a.firstFail = true ∧ a.firstCause ∈
        [some Cause.overTemp, some .runaway, some .sensorFault, some .settleTimeout, some .excursion] then .failThermal
      else if a.firstFail = true ∧ a.firstCause = some .compareFail then .failTest
      else if a.targetReached = true ∧ failing = 0 then .pass
      else if a.targetReached = true then .passIntermittent
      else if 0 < a.arms then .incomplete else .notTested := by
  unfold Account.bin
  cases a.firstFail with
  | true =>
    cases a.firstCause with
    | some c => cases c <;> simp [Cause.bin]
    | none => cases a.targetReached <;> simp
  | false => cases a.targetReached <;> simp

/-! ### Accounts, records and the log (section 11.5) -/

theorem State.accountBytes_laid (s : State) (n : Sock) :
    let k := s.socket n
    let a := k.account
    Laid (s.accountBytes n)
      [(0, [sockCode n]), (1, [a.mirror.code]), (2, [BitVec.ofNat 8 (bitIf a.firstFail 1 + bitIf a.targetReached 2)]),
        (3, [(a.firstCause.map Cause.code).getD 0#8]), (4, le32 a.firstFailTime), (8, le32 a.firstFailCredit),
        (12, le32 k.credit.credit), (16, [BitVec.ofNat 8 k.credit.residue]), (17, le32 a.runSeconds),
        (21, le32 a.accruedSeconds), (25, le32 a.outSeconds), (29, le32 k.lane.comparedPasses),
        (33, le16 k.lane.totalFailing), (35, le16 k.lane.consecutiveFailing), (37, le16 a.trips), (39, le16 a.retries),
        (41, le16 a.sheds), (43, le16 a.interrupts), (45, le16 a.secondaryFails), (47, le16 a.arms), (49, le16 a.released),
        (51, leInt16 a.peakTemp), (53, le16 a.peakMa), (55, [(a.bin k.lane.totalFailing).code])] := by
  intro k a
  refine laid_fields (after := []) ?_ ?_
  · unfold State.accountBytes
    simp only [List.map_cons, List.map_nil, List.flatten_cons, List.flatten_nil, List.append_assoc, List.cons_append, List.nil_append, List.append_nil]
    rfl
  · simp only [List.map_cons, List.map_nil, starts, List.length_cons, List.length_nil, le16_length, le32_length, leInt16_length]

theorem Laid.congr {payload : List Byte} {fields same : List (Nat × List Byte)} (h : Laid payload fields) (e : same = fields) :
    Laid payload same := e ▸ h

theorem writeRecordBytes_laid (r : FailRecord) :
    Laid (writeRecordBytes r)
      [(0, le16 r.sequence), (2, le32 r.time), (6, [sockCode r.socket]), (7, [r.kind.code]), (8, [r.cause.code]),
        (9, [r.before.code]), (10, [r.disposition.code]), (11, [r.attendance.code]), (12, le32 r.credit),
        (16, leInt16 (heldCode r.held)), (18, le16 r.sensedMv), (20, le16 r.sensedMa), (22, le32 r.loopIndex),
        (26, [orNone r.entry]), (27, [BitVec.ofNat 8 r.captures.length]), (28, [BitVec.ofNat 8 (bitIf r.truncated 1)])] := by
  refine laid_fields (after := (r.captures.map writeCaptureBytes).flatten) ?_ ?_
  · simp only [writeRecordBytes, List.map_cons, List.map_nil, List.flatten_cons, List.flatten_nil, List.append_assoc,
      List.cons_append, List.nil_append]
  · simp only [List.map_cons, List.map_nil, starts, List.length_cons, List.length_nil, le16_length, le32_length, leInt16_length]

theorem writeRecordBytes_captures (r : FailRecord) :
    (writeRecordBytes r).drop 29 = (r.captures.map writeCaptureBytes).flatten := List.drop_left' rfl

theorem writeSummaryBytes_laid (l : FailLog) :
    Laid (writeSummaryBytes l)
      [(0, [BitVec.ofNat 8 l.records.length]), (1, [BitVec.ofNat 8 l.threshold]), (2, le16 l.nextSequence),
        (4, le32 l.issued), (8, le32 l.trimmed), (12, le32 l.dropped)] :=
  laid_fields (after := []) rfl rfl

/-- What a Read Log sends: the summary, its three fields, and the oldest records from the offset that fit (R145). -/
theorem FailLog.readBytes_spec (l : FailLog) (offset most : Nat) :
    ∃ sent after, l.records.drop offset = sent ++ after ∧ sent.length ≤ most ∧
      ((sent.map writeRecordBytes).flatten).length ≤ 231 ∧
      (∀ r rest, after = r :: rest → sent.length < most →
        231 < ((sent.map writeRecordBytes).flatten).length + (writeRecordBytes r).length) ∧
      l.readBytes offset most = writeSummaryBytes l ++ [BitVec.ofNat 8 offset, BitVec.ofNat 8 sent.length,
        BitVec.ofNat 8 after.length] ++ (sent.map writeRecordBytes).flatten := by
  obtain ⟨after, whole, count, room, next⟩ := placed_spec most 231 (l.records.drop offset)
  have left : l.records.length - offset - (l.readFrom offset most).length = after.length := by
    have total := congrArg List.length whole
    rw [List.length_drop, List.length_append] at total
    rw [FailLog.readFrom, total, Nat.add_sub_cancel_left]
  refine ⟨_, after, whole, count, room, next, ?_⟩
  simp only [FailLog.readBytes, left]
  rfl

/-! ### Feeds (R52) -/

/-- The first twenty bytes of Read Feed Status, with the ramping socket among them. -/
theorem State.feedBytes_eq (s : State) (f : FeedId) :
    s.feedBytes f = [feedCode f] ++ le32 (s.identity.nativeLimit f) ++ le32 (s.feed f).limit ++ le32 (s.committed f) ++
      le32 (s.feed f).measured ++
      [BitVec.ofNat 8 (s.feed f).overCount, orNone (s.rampingSocket f), BitVec.ofNat 8 (s.feed f).queue.length] ++
      ((s.feed f).queue.map sockCode ++ [BitVec.ofNat 8 (s.feed f).order.length] ++ (s.feed f).order.map sockCode) := by
  simp only [State.feedBytes, List.append_assoc]

theorem State.feedBytes_laid (s : State) (f : FeedId) :
    Laid (s.feedBytes f)
      [(0, [feedCode f]), (1, le32 (s.identity.nativeLimit f)), (5, le32 (s.feed f).limit), (9, le32 (s.committed f)),
        (13, le32 (s.feed f).measured), (17, [BitVec.ofNat 8 (s.feed f).overCount]), (18, [orNone (s.rampingSocket f)]),
        (19, [BitVec.ofNat 8 (s.feed f).queue.length])] := by
  rw [s.feedBytes_eq]
  refine laid_fields
    (after := (s.feed f).queue.map sockCode ++ [BitVec.ofNat 8 (s.feed f).order.length] ++ (s.feed f).order.map sockCode) ?_ ?_
  · simp only [List.map_cons, List.map_nil, List.flatten_cons, List.flatten_nil, List.append_assoc, List.cons_append,
      List.nil_append]
  · rfl

theorem State.feedBytes_ramping (s : State) (f : FeedId) : byteAt (s.feedBytes f) 18 = orNone (s.rampingSocket f) := by
  rw [s.feedBytes_eq]
  rfl

theorem State.feedBytes_lists (s : State) (f : FeedId) :
    (s.feedBytes f).drop 20 =
      (s.feed f).queue.map sockCode ++ [BitVec.ofNat 8 (s.feed f).order.length] ++ (s.feed f).order.map sockCode := by
  rw [s.feedBytes_eq]
  exact List.drop_left' rfl

theorem State.feedBytes_length (s : State) (f : FeedId) :
    (s.feedBytes f).length = 21 + (s.feed f).queue.length + (s.feed f).order.length := by
  rw [s.feedBytes_eq]
  simp only [List.length_append, le32_length, List.length_map, List.length_cons, List.length_nil]
  omega

theorem State.rampingSocket_first {s : State} {f : FeedId} {n : Sock} (serves : feedOf n = f)
    (ramps : (s.socket n).scu.state = .ramp) (first : ∀ m, m < n → feedOf m = f → (s.socket m).scu.state ≠ .ramp) :
    s.rampingSocket f = some n := by
  have listed : n ∈ feedSocks f := by simp [feedSocks, serves]
  have rising : (feedSocks f).Pairwise (· < ·) := (List.pairwise_lt_finRange 16).filter _
  obtain ⟨before, after, split⟩ := List.append_of_mem listed
  rw [split, List.pairwise_append] at rising
  refine List.find?_eq_some_iff_append.mpr ⟨by simp [ramps], before, after, split, fun m hm => ?_⟩
  have served : feedOf m = f := by
    have within : m ∈ feedSocks f := split ▸ List.mem_append_left _ hm
    simpa [feedSocks] using within
  simpa using first m (rising.2.2 m hm n List.mem_cons_self) served

theorem State.rampingSocket_none {s : State} {f : FeedId} (still : ∀ n, feedOf n = f → (s.socket n).scu.state ≠ .ramp) :
    s.rampingSocket f = none := by
  refine List.find?_eq_none.mpr fun n hn => ?_
  have serves : feedOf n = f := by simpa [feedSocks] using hn
  simpa using still n serves

/-! ### The engine, comparisons and the link -/

theorem Engine.statusBytes_laid (g : Engine) :
    Laid g.statusBytes
      [(0, [g.state.code]), (1, [orNone g.current]), (2, le32 g.repeatsLeft), (6, le32 g.loopIndex), (10, [g.rate.code]),
        (11, le16 g.powered.toNat), (13, le16 g.participants.toNat), (15, [g.lastStop.code])] :=
  laid_fields (after := []) rfl rfl

theorem State.compareBytes_laid (s : State) (n : Sock) :
    let l := (s.socket n).lane
    Laid (s.compareBytes n)
      [(0, [sockCode n]), (1, [l.profile.lanes, BitVec.ofNat 8 l.profile.threshold]), (3, le16 l.profile.tolerance),
        (5, le32 l.profile.target), (9, le32 l.comparedPasses), (13, le16 l.totalFailing), (15, le16 l.consecutiveFailing),
        (17, [BitVec.ofNat 8 (bitIf (SocketSet.has s.engine.participants n) 1 + bitIf l.truncated 2)]),
        (18, [BitVec.ofNat 8 l.captures.length])] := by
  intro l
  refine laid_fields (after := (l.captures.map writeCaptureBytes).flatten) ?_ rfl
  simp only [State.compareBytes, writeTestBytes, List.map_cons, List.map_nil, List.flatten_cons, List.flatten_nil,
    List.append_assoc, List.cons_append, List.nil_append]
  rfl

theorem State.compareBytes_captures (s : State) (n : Sock) :
    (s.compareBytes n).drop 19 = ((s.socket n).lane.captures.map writeCaptureBytes).flatten := List.drop_left' rfl

theorem State.linkCounterBytes_laid (s : State) :
    Laid s.linkCounterBytes
      [(0, le16 s.link.counters.good), (2, le16 s.link.counters.crcErrors), (4, le16 s.link.counters.framing),
        (6, le16 s.link.counters.others), (8, le16 s.link.counters.refusals), (10, le16 s.link.counters.replies),
        (12, [s.address]), (13, s.link.groups.toList)] :=
  laid_fields (after := []) (by simp [State.linkCounterBytes]) rfl

theorem State.identifyBytes_laid (s : State) :
    let i := s.identity
    Laid s.identifyBytes
      [(0, [Config.vendorCode]), (1, le16 Config.partCode), (3, [Config.revision]), (4, [if i.valid then 1#8 else 0#8]),
        (5, [byteAt i.image 0]), (6, le32 (nat32 i.image 1)), (10, le16 i.population.toNat), (12, le16 i.nativeCeiling),
        (14, le16 i.tripMax), (16, le32 (i.nativeLimit .a)), (20, le32 (i.nativeLimit .b)), (24, le16 (nat16 i.image 19)),
        (26, le32 s.clock), (30, [BitVec.ofNat 8 (SocketSet.size i.population)])] := by
  intro i
  refine laid_fields (after := []) ?_ rfl
  simp only [State.identifyBytes, List.map_cons, List.map_nil, List.flatten_cons, List.flatten_nil, List.append_assoc,
    List.cons_append, List.nil_append, List.append_nil]
  rfl

/-! ### The flags (R156) -/

/-- A set of flags whose bits are given is the number that Poll sends of them (R183). -/
theorem flagBits_of_bits {x : BitVec 16} {p : FlagState → Bool} {events : Vector FlagState 12} (small : x.toNat < 4096)
    (bits : ∀ i : Fin 12, x.getLsbD i.val = p (events.get i)) : flagBits p events = x.toNat := by
  refine Nat.eq_of_testBit_eq fun i => ?_
  by_cases within : i < 12
  · exact (flagBits_testBit p events ⟨i, within⟩).trans (bits ⟨i, within⟩).symm
  · have above : 4096 ≤ 2 ^ i := Nat.pow_le_pow_right (n := 2) (by decide) (Nat.le_of_not_lt within)
    rw [Nat.testBit_lt_two_pow ((flagBits_lt p events).trans_le above), Nat.testBit_lt_two_pow (small.trans_le above)]

/-- A list of equal-sized blocks: the block of an entry, with those before it and those after it. -/
theorem flatten_map_split {α : Type} {f : α → List Byte} {m : Nat} (l : List α) (each : ∀ x, (f x).length = m) {i : Nat}
    (hi : i < l.length) : ∃ before after, (l.map f).flatten = before ++ (f l[i] ++ after) ∧ before.length = m * i := by
  refine ⟨((l.take i).map f).flatten, ((l.drop (i + 1)).map f).flatten, ?_, ?_⟩
  · conv_lhs => rw [← List.take_append_drop i l, List.drop_eq_getElem_cons hi]
    rw [List.map_append, List.map_cons, List.flatten_append, List.flatten_cons]
  · rw [flatten_map_length _ each, List.length_take, Nat.min_eq_left hi.le]

theorem State.pollBytes_laid (s : State) :
    Laid s.pollBytes
      [(0, le16 (flagBits FlagState.isSet s.events)), (2, le16 (flagBits FlagState.enabled s.events)),
        (4, (s.events.toList.map fun x => le16 x.sockets.toNat).flatten), (28, [s.link.mode.code]), (29, [s.link.silenceParam]),
        (30, le16 (silenceTimeout s.link.silenceParam)), (32, le16 s.link.silence), (34, le16 s.link.silenceBefore)] := by
  have sets : (s.events.toList.map fun x => le16 x.sockets.toNat).flatten.length = 24 :=
    (flatten_map_length (n := 2) s.events.toList fun _ => rfl).trans (by simp)
  refine laid_fields (after := []) (by simp [State.pollBytes]) ?_
  simp only [List.map_cons, List.map_nil, starts, sets, List.length_cons, List.length_nil, le16_length]

theorem State.pollBytes_set (s : State) (i : Fin 12) :
    Laid s.pollBytes [(4 + 2 * i.val, le16 (s.events.get i).sockets.toNat)] := by
  obtain ⟨before, after, whole, place⟩ := flatten_map_split (f := fun x : FlagState => le16 x.sockets.toNat) (m := 2)
    s.events.toList (fun _ => rfl) (i := i.val) (by simp)
  refine laid_single (before := le16 (flagBits FlagState.isSet s.events) ++ le16 (flagBits FlagState.enabled s.events) ++ before)
    (after := after ++ ([s.link.mode.code, s.link.silenceParam] ++ le16 (silenceTimeout s.link.silenceParam) ++
      le16 s.link.silence ++ le16 s.link.silenceBefore)) ?_ ?_
  · rw [State.pollBytes, whole]
    simp [Vector.get_eq_getElem]
  · simp only [List.length_append, le16_length, place]

/-! ### The sequence table (R95) -/

theorem writeEntryBytes_length (e : SeqEntry) : (writeEntryBytes e).length = 7 := rfl

theorem Engine.tableBytes_laid (g : Engine) (e : EntryNo) :
    Laid (g.table.toList.map writeEntryBytes).flatten [(7 * e.val, writeEntryBytes (g.table.get e))] := by
  obtain ⟨before, after, whole, place⟩ := flatten_map_split g.table.toList writeEntryBytes_length (i := e.val) (by simp)
  exact laid_single (before := before) (after := after) (by rw [whole]; simp [Vector.get_eq_getElem]) place

/-! ### The vector store (R85, R90) -/

theorem byteAt_append_beyond {a : List Byte} {i j : Nat} (place : i = a.length + j) (b : List Byte) :
    byteAt (a ++ b) i = byteAt b j := by
  rw [place, byteAt_append_right]

theorem Store.statusBytes_laid (t : Store) :
    Laid t.statusBytes
      [(64, [BitVec.ofNat 8 (t.pagesIn .unloaded), BitVec.ofNat 8 (t.pagesIn .good), BitVec.ofNat 8 (t.pagesIn .corrupt)]),
        (67, [BitVec.ofNat 8 t.scrub.val]), (68, [orNone t.lastScrubbed])] :=
  laid_after _ (t.conditions.toList.map PageCondition.code) [] (by simp [starts])

theorem Store.statusBytes_page (t : Store) (p : Page) : byteAt t.statusBytes p.val = (t.condition p).code := by
  have within : p.val < (t.conditions.toList.map PageCondition.code).length := by simp
  rw [Store.statusBytes, byteAt_append_left within]
  simp [byteAt, Store.condition, Vector.get_eq_getElem]

/-- The pages that a range of vectors touches follow one another (R79). -/
theorem touched_eq_range {a b : Nat} (most : b < 4096) :
    touched a b = (List.range' (a / 64) (b / 64 + 1 - a / 64)).map (Fin.ofNat 64) := by
  have pages : ∀ q ∈ List.range' (a / 64) (b / 64 + 1 - a / 64), a / 64 ≤ q ∧ q ≤ b / 64 ∧ (Fin.ofNat 64 q).val = q :=
    fun q hq => by
      rw [List.mem_range'_1] at hq
      exact ⟨hq.1, by omega, Nat.mod_eq_of_lt (by omega)⟩
  have rising : (touched a b).Pairwise (· < ·) := (List.pairwise_lt_finRange 64).filter _
  refine rising.eq_of_mem_iff ?_ fun p => ?_
  · refine List.pairwise_map.mpr ((List.pairwise_lt_range' ..).imp_of_mem fun {q r} hq hr less => ?_)
    rw [Fin.lt_def, (pages q hq).2.2, (pages r hr).2.2]
    exact less
  · rw [mem_touched, List.mem_map]
    constructor
    · exact fun within => ⟨p.val, List.mem_range'_1.mpr ⟨within.1, by omega⟩, Fin.ofNat_val_eq_self p⟩
    · rintro ⟨q, hq, rfl⟩
      obtain ⟨first, last, value⟩ := pages q hq
      exact ⟨first.trans_eq value.symm, value.trans_le last⟩

/-- What Read Vectors Raw sends of a page: its number, its condition and its check word (section 11.6). -/
def Store.pageBytes (t : Store) (q : Nat) : List Byte :=
  [BitVec.ofNat 8 q, (t.condition (Fin.ofNat 64 q)).code] ++ le16 (t.checkWord (Fin.ofNat 64 q)).toNat

theorem Store.pageBytes_length (t : Store) (q : Nat) : (t.pageBytes q).length = 4 := rfl

theorem Store.vector_length (t : Store) (i : Nat) : (t.vector i).length = 5 := by
  unfold Store.vector
  split <;> simp [Mem.readAll]

/-- The stored vectors of a range, as Read Vectors Raw sends them. -/
def Store.vectorBytes (t : Store) (start count : Nat) : List Byte := ((List.range count).map fun i => t.vector (start + i)).flatten

theorem Store.vectorBytes_length (t : Store) (start count : Nat) : (t.vectorBytes start count).length = 5 * count :=
  (flatten_map_length _ fun _ => t.vector_length _).trans (by rw [List.length_range])

theorem Store.byteAt_vectorBytes (t : Store) (start : Nat) {count i x : Nat} (hi : i < count) (hx : x < 5) :
    byteAt (t.vectorBytes start count) (5 * i + x) = byteAt (t.vector (start + i)) x := by
  obtain ⟨before, after, whole, place⟩ := flatten_map_split (f := fun i => t.vector (start + i)) (List.range count)
    (fun _ => t.vector_length _) (i := i) (by simpa using hi)
  have within : x < (t.vector (start + i)).length := by rw [t.vector_length]; exact hx
  rw [List.getElem_range] at whole
  rw [Store.vectorBytes, whole, byteAt_append_beyond (by rw [place]), byteAt_append_left within]

section raw
variable (t : Store) {start count : Nat} (any : 1 ≤ count) (fits : start + count ≤ 4096)
include any fits

theorem Store.rawBytes_eq :
    let pages := List.range' (start / 64) ((start + count - 1) / 64 + 1 - start / 64)
    t.rawBytes start count = le16 start ++ [BitVec.ofNat 8 count] ++ t.vectorBytes start count ++
      ([BitVec.ofNat 8 pages.length] ++ (pages.map t.pageBytes).flatten) := by
  intro pages
  have touches : touched start (start + count - 1) = pages.map (Fin.ofNat 64) := touched_eq_range (by omega)
  have same : ∀ q ∈ pages, [BitVec.ofNat 8 (Fin.ofNat 64 q).val, (t.condition (Fin.ofNat 64 q)).code] ++
      le16 (t.checkWord (Fin.ofNat 64 q)).toNat = t.pageBytes q := fun q hq => by
    have small : (Fin.ofNat 64 q).val = q := by
      rw [List.mem_range'_1] at hq
      exact Nat.mod_eq_of_lt (by omega)
    rw [small, Store.pageBytes]
  have sent := List.map_congr_left same
  simp only [Store.rawBytes, touches, List.length_map, List.map_map, List.append_assoc]
  exact congrArg (fun blocks : List (List Byte) => le16 start ++ ([BitVec.ofNat 8 count] ++ (t.vectorBytes start count ++
    ([BitVec.ofNat 8 pages.length] ++ blocks.flatten)))) sent

theorem Store.rawBytes_length :
    (t.rawBytes start count).length = 4 + 5 * count + 4 * ((start + count - 1) / 64 + 1 - start / 64) := by
  have blocks := flatten_map_length (List.range' (start / 64) ((start + count - 1) / 64 + 1 - start / 64)) t.pageBytes_length
  rw [t.rawBytes_eq any fits]
  simp only [List.length_append, blocks, le16_length, t.vectorBytes_length, List.length_range', List.length_cons, List.length_nil]
  omega

theorem Store.rawBytes_byte {i x : Nat} (hi : i < count) (hx : x < 5) :
    byteAt (t.rawBytes start count) (3 + 5 * i + x) = byteAt (t.vector (start + i)) x := by
  have within : 5 * i + x < (t.vectorBytes start count).length := by rw [t.vectorBytes_length]; omega
  rw [t.rawBytes_eq any fits, List.append_assoc, byteAt_append_beyond (j := 5 * i + x) (Nat.add_assoc 3 _ _),
    byteAt_append_left within, t.byteAt_vectorBytes start hi hx]

theorem Store.rawBytes_laid :
    let first := start / 64
    let last := (start + count - 1) / 64
    Laid (t.rawBytes start count) [(0, le16 start), (2, [BitVec.ofNat 8 count]),
      (3 + 5 * count, [BitVec.ofNat 8 (last + 1 - first)] ++ t.pageBytes first),
      (4 + 5 * count + 4 * (last - first), t.pageBytes last)] := by
  intro first last
  have number : last + 1 - first = (last - first) + 1 := by omega
  have vectors := t.vectorBytes_length start count
  have raw := t.rawBytes_eq any fits
  change t.rawBytes start count = _ ++ ([BitVec.ofNat 8 (List.range' first (last + 1 - first)).length] ++
    ((List.range' first (last + 1 - first)).map t.pageBytes).flatten) at raw
  rw [List.length_range'] at raw
  have front : Laid (t.rawBytes start count) [(0, le16 start), (2, [BitVec.ofNat 8 count]), (3, t.vectorBytes start count),
      (3 + 5 * count, [BitVec.ofNat 8 (last + 1 - first)] ++ t.pageBytes first)] := by
    rw [number, List.range'_succ] at raw
    refine laid_fields (after := ((List.range' (first + 1) (last - first)).map t.pageBytes).flatten) ?_ ?_
    · rw [raw, number]
      simp only [List.map_cons, List.map_nil, List.flatten_cons, List.flatten_nil, List.append_assoc, List.append_nil]
    · simp only [List.map_cons, List.map_nil, starts, vectors, le16_length, List.length_cons, List.length_nil]
  have back : Laid (t.rawBytes start count) [(4 + 5 * count + 4 * (last - first), t.pageBytes last)] := by
    have end_ : first + (last - first) = last := by omega
    have blocks := flatten_map_length (List.range' first (last - first)) t.pageBytes_length
    refine laid_single (before := le16 start ++ [BitVec.ofNat 8 count] ++ t.vectorBytes start count ++
      ([BitVec.ofNat 8 (last + 1 - first)] ++ ((List.range' first (last - first)).map t.pageBytes).flatten)) (after := []) ?_ ?_
    · rw [raw, number, List.range'_1_concat, end_]
      simp only [List.map_append, List.map_cons, List.map_nil, List.flatten_append, List.flatten_cons, List.flatten_nil,
        List.append_assoc]
    · simp only [List.length_append, le16_length, vectors, blocks, List.length_range', List.length_cons, List.length_nil]
      omega
  exact .cons (front.subset (by simp)) (.cons (front.subset (by simp)) (.cons (front.subset (by simp)) back))

end raw

/-! ### The codes (sections 11.2 and 11.3) -/

theorem RecordKind.code_eq (k : RecordKind) : k.code = if k = .primary then 0#8 else 1#8 := by cases k <;> rfl

theorem Attendance.code_eq (a : Attendance) : a.code = if a = .attended then 0#8 else 1#8 := by cases a <;> rfl

theorem bitIf_code (b : Bool) : BitVec.ofNat 8 (bitIf b 1) = if b then 1#8 else 0#8 := by cases b <;> rfl

theorem Identity.population_toNat (i : Identity) : i.population.toNat = nat16 i.image 5 := by
  have small := nat16_le i.image 5
  rw [Identity.population, set16, BitVec.toNat_ofNat, Nat.mod_eq_of_lt (by omega)]

theorem Identity.nativeLimit_eq (i : Identity) :
    i.nativeLimit .a = min 200000 (nat32 i.image 11) ∧ i.nativeLimit .b = min 200000 (nat32 i.image 15) :=
  ⟨Nat.zero_max _, Nat.zero_max _⟩

/-- Settles O50: each code read off its definition, and each layout field by field. -/
theorem repliesHaveTheirLayouts : Obligations.RepliesHaveTheirLayouts := by
  unfold Obligations.RepliesHaveTheirLayouts
  refine ⟨fun n => ⟨rfl, le32_eq n⟩, leInt16_eq, fun n => ⟨rfl, SocketSet.has_single n⟩, fun x n m => ⟨rfl, ?_, rfl⟩, rfl, rfl, rfl,
    rfl, rfl, rfl, rfl, rfl, rfl, rfl, rfl, Account.bin_eq, fun s n => ?_, fun c => rfl, fun r => ⟨?_, writeRecordBytes_captures r, ?_⟩,
    fun l => ⟨rfl, writeSummaryBytes_laid l, l.readBytes_spec⟩, fun s f => ?_, fun g => ?_, fun s n => ⟨s.compareBytes_captures n,
    s.compareBytes_laid n⟩, fun t => ⟨fun p => ?_, t.statusBytes_laid, fun start count any most fits =>
      ⟨t.rawBytes_length any fits, t.rawBytes_laid any fits, fun i x hi hx => ?_⟩⟩,
    fun g => ⟨?_, g.tableBytes_laid⟩, fun f => ⟨_, rfl, rfl, fun i => SocketSet.has_setWhere _ i⟩, fun s => ?_, fun s => ?_, fun s => ?_⟩
  · rw [SocketSet.has_without, decide_not]
  · intro k a
    have laid := s.accountBytes_laid n
    have cause : [(a.firstCause.map Cause.code).getD 0#8] = [match a.firstCause with | some c => c.code | none => 0#8] := by
      cases a.firstCause <;> rfl
    exact cause ▸ laid
  · exact writeRecordBytes_length r
  · have laid := writeRecordBytes_laid r
    have held : heldCode r.held = match r.held with | some t => t | none => -32768 := by cases r.held <;> rfl
    have entry : orNone r.entry = match r.entry with | some e => BitVec.ofNat 8 e.val | none => 255#8 := by
      cases r.entry <;> rfl
    rw [RecordKind.code_eq, Attendance.code_eq, bitIf_code, held, entry] at laid
    exact laid
  · refine ⟨s.feedBytes_length f, (s.feedBytes_laid f).subset (by simp), fun n serves ramps first => ?_, fun still => ?_,
      s.feedBytes_lists f⟩
    · rw [s.feedBytes_ramping, State.rampingSocket_first serves ramps first]
      rfl
    · rw [s.feedBytes_ramping, State.rampingSocket_none still]
      rfl
  · exact g.statusBytes_laid
  · exact t.statusBytes_page p
  · exact (t.rawBytes_byte any fits hi hx).trans (t.byteAt_vector (start + i) hx)
  · exact (flatten_map_length _ writeEntryBytes_length).trans (by simp)
  · intro bits sets enables isSet enabled
    have laid := s.pollBytes_laid
    rw [flagBits_of_bits isSet.1 isSet.2, flagBits_of_bits enabled.1 enabled.2, Attendance.code_eq] at laid
    exact ⟨laid.subset (by simp), s.pollBytes_set⟩
  · intro c
    have address : s.address = match s.link.address with | some a => a | none => 0#8 := by
      unfold State.address
      cases s.link.address <;> rfl
    have laid := s.linkCounterBytes_laid
    rw [address] at laid
    exact laid
  · intro i
    have laid := s.identifyBytes_laid
    dsimp only at laid
    rw [Identity.population_toNat, s.identity.nativeLimit_eq.1, s.identity.nativeLimit_eq.2] at laid
    exact laid

end Sys2Proof.Machine
end

section
/-!
PROOFS. Set Feed Limit: the sheds of its first step, one by one, and what they leave (R47, R48).
-/

namespace Sys2Proof.Machine

/-! ### One shed of step 1 (R48) -/

/-- The state in which the SSC sheds a socket at once: any grant of it is taken (log entry 13); `shedNow_eq` ties it to the shed. -/
def State.grantTaken (s : State) (n : Sock) : State := if s.granted n then (s.takeGrant n).drop ⟨n, .grant⟩ else s

/-- The SSC's part of a shed at once; `shedNow_eq` ties it to the shed. -/
def State.shedOff (s : State) (n : Sock) : State :=
  (((s.grantTaken n).takeOff n).modFeed (feedOf n) fun g => { g with overCount := 0 }).raise .feedShed (single n)

theorem State.shedNow_eq (s : State) (n : Sock) : s.shedNow n = (s.shedOff n).shedMove n := rfl

/-- A grant taken moves its socket to RAMP and changes no other. -/
theorem State.grantTaken_socket (s : State) (n m : Sock) :
    (s.grantTaken n).socket m = if m = n ∧ s.granted n = true then (s.socket m).moved .ramp else s.socket m := by
  unfold State.grantTaken
  split
  next granted =>
    rw [State.takeGrant, if_pos granted, show ((s.move n .ramp).drop _).socket m = (s.move n .ramp).socket m from rfl,
      State.move_socket]
    by_cases e : m = n
    · subst e
      rw [if_pos rfl, if_pos ⟨rfl, granted⟩]
    · rw [if_neg e, if_neg fun x => e x.1]
  next notGranted => rw [if_neg fun x => notGranted x.2]

theorem State.grantTaken_feed (s : State) (n : Sock) (f : FeedId) : (s.grantTaken n).feed f = s.feed f := by
  unfold State.grantTaken
  split
  next granted =>
    rw [State.takeGrant, if_pos granted]
    exact (State.feed_congr rfl rfl f).trans ((s.move_feed n .ramp f).trans (if_neg (by simp [SocketState.powered])))
  next => rfl

theorem State.grantTaken_reports (s : State) (n : Sock) :
    (s.grantTaken n).reports = if s.granted n then s.reports.erase ⟨n, .grant⟩ else s.reports := by
  unfold State.grantTaken
  split
  next granted =>
    simp [State.takeGrant, granted, State.drop]
  next => rfl

theorem State.shedOff_socket (s : State) (n m : Sock) :
    (s.shedOff n).socket m =
      if m = n then { (s.grantTaken n).socket n with rail := ((s.grantTaken n).socket n).rail.off } else s.socket m := by
  rw [State.shedOff, State.raise_socket, State.modFeed_socket, State.takeOff_socket]
  by_cases e : m = n
  · rw [if_pos e, if_pos e]
  · rw [if_neg e, if_neg e, State.grantTaken_socket, if_neg fun x => e x.1]

/-- The state of a shed socket when the SCU takes the shed. -/
theorem State.shedOff_state (s : State) (n : Sock) :
    ((s.shedOff n).socket n).scu.state = if s.granted n then .ramp else (s.socket n).scu.state := by
  rw [State.shedOff_socket, if_pos rfl, State.grantTaken_socket]
  by_cases granted : s.granted n = true
  · rw [if_pos ⟨rfl, granted⟩, if_pos granted]
    rfl
  · rw [if_neg fun x => granted x.2, if_neg granted]

theorem State.shedOff_feed (s : State) (n : Sock) (f : FeedId) :
    (s.shedOff n).feed f =
      if f = feedOf n then { s.feed f with order := (s.feed f).order.filter (· != n), overCount := 0 } else s.feed f := by
  rw [State.shedOff, State.raise_feed, State.modFeed_feed, State.takeOff_feed, State.takeOff_feed]
  by_cases e : f = feedOf n
  · subst e
    rw [if_pos rfl, if_pos rfl, if_pos rfl, State.grantTaken_feed]
  · rw [if_neg e, if_neg e, if_neg e, State.grantTaken_feed]

section shed

variable {s : State} {f : FeedId} {n : Sock} {kept : List Sock}

/-- The last socket of a sound order list is powered when the SCU takes its shed (R33; log entry 13). -/
theorem State.SupplyOk.shedOff_powered (h : s.SupplyOk) (listed : n ∈ (s.feed f).order) :
    ((s.shedOff n).socket n).scu.state.powered = true := by
  obtain ⟨rfl, busy, notQueued⟩ := (h.feeds f).ordered n listed
  rw [State.shedOff_state]
  split
  next => rfl
  next notGranted =>
    rw [SocketState.busy, Bool.or_eq_true] at busy
    refine busy.resolve_right fun queued => notGranted ?_
    rw [State.granted, queued, State.inQueue, Bool.true_and, Bool.not_eq_true', ← Bool.not_eq_true, List.contains_iff_mem]
    exact notQueued

theorem State.shedOff_hold : ((s.shedOff n).socket n).scu.state = .hold ↔ (s.socket n).scu.state = .hold := by
  rw [State.shedOff_state]
  split
  next granted =>
    rw [State.granted, Bool.and_eq_true, beq_iff_eq] at granted
    rw [granted.1]
    decide
  next => rfl

/-- The SCU's move of a shed: to the tail of the queue, or from HOLD to SAFE (R16). -/
theorem State.SupplyOk.shedNow_moves (h : s.SupplyOk) (listed : n ∈ (s.feed f).order) :
    s.shedNow n = if (s.socket n).scu.state = .hold then ((s.shedOff n).countShed n).move n .safe
      else (((s.shedOff n).countShed n).move n .queued).modFeed (feedOf n) fun g => { g with queue := g.queue ++ [n] } := by
  rw [State.shedNow_eq]
  split
  next hold => exact State.shedMove_hold (State.shedOff_hold.mpr hold)
  next notHold => exact State.shedMove_queue (h.shedOff_powered listed) fun x => notHold (State.shedOff_hold.mp x)

theorem State.shedNow_socket_of_ne (s : State) {n m : Sock} (other : m ≠ n) : (s.shedNow n).socket m = s.socket m := by
  have off := (s.shedOff_socket n m).trans (if_neg other)
  rw [State.shedNow_eq, State.shedMove]
  split_ifs <;> simp [State.countShed, other, off]

/-- What a shed at once makes of its socket: QUEUED, or SAFE from HOLD, the shed counted, the profile kept (R16, R48, R133). -/
theorem State.SupplyOk.shedNow_socket (h : s.SupplyOk) (listed : n ∈ (s.feed f).order) :
    ((s.shedNow n).socket n).scu.state = (if (s.socket n).scu.state = .hold then .safe else .queued) ∧
    ((s.shedNow n).socket n).account.sheds = satInc 65535 (s.socket n).account.sheds ∧
    ((s.shedNow n).socket n).rail.profile = (s.socket n).rail.profile := by
  have shed : ∀ st, (((((s.shedOff n).countShed n).move n st).socket n).scu.state = st) ∧
      ((((s.shedOff n).countShed n).move n st).socket n).account.sheds = satInc 65535 (s.socket n).account.sheds ∧
      ((((s.shedOff n).countShed n).move n st).socket n).rail.profile = (s.socket n).rail.profile := fun st => by
    rw [State.move_socket, if_pos rfl, State.countShed, State.modAccount_socket, if_pos rfl, s.shedOff_socket n n, if_pos rfl,
      State.grantTaken_socket]
    refine ⟨rfl, ?_, (Rail.moved_profile _ _).trans ?_⟩ <;> split
    · rfl
    · rfl
    · exact Rail.moved_profile _ _
    · rfl
  rw [h.shedNow_moves listed]
  split
  · exact shed .safe
  · rw [State.modFeed_socket]
    exact shed .queued

theorem State.SupplyOk.shedNow_admission (h : s.SupplyOk) (listed : n ∈ (s.feed f).order) :
    (s.shedNow n).admission = s.admission := by
  funext m
  rw [State.admission, State.admission]
  by_cases e : m = n
  · subst e
    rw [(h.shedNow_socket listed).2.2]
  · rw [State.shedNow_socket_of_ne s e]

/-- What a shed at once makes of the feeds: the socket off the order list, and but from HOLD at the tail of the queue. -/
theorem State.SupplyOk.shedNow_feed (h : s.SupplyOk) (last : (s.feed f).order = kept ++ [n]) (g : FeedId) :
    (s.shedNow n).feed g = if g = f then
        { s.feed f with
            queue := (s.feed f).queue ++ [n].filter fun m => (s.socket m).scu.state != .hold
            order := kept, overCount := 0 }
      else s.feed g := by
  have listed : n ∈ (s.feed f).order := by rw [last]; simp
  obtain ⟨rfl, -, notQueued⟩ := (h.feeds f).ordered n listed
  have once := (h.feeds (feedOf n)).orderOnce
  have fresh : n ∉ kept := fun x => (List.nodup_append.mp (last ▸ once)).2.2 n x n List.mem_cons_self rfl
  have queue : (s.feed (feedOf n)).queue.filter (· != n) = (s.feed (feedOf n)).queue := List.filter_eq_self.mpr fun m hm => by
    simpa using fun e : m = n => notQueued (e ▸ hm)
  have order : (s.feed (feedOf n)).order.filter (· != n) = kept := last ▸ (LeavesWithout.last fresh).filter
  have left : ∀ st g, SocketState.powered st = false → (((s.shedOff n).countShed n).move n st).feed g =
      if g = feedOf n then { s.feed (feedOf n) with order := kept, overCount := 0 } else s.feed g := fun st g unpowered => by
    rw [State.move_feed, show ((s.shedOff n).countShed n).feed g = (s.shedOff n).feed g by simp [State.countShed],
      State.shedOff_feed]
    by_cases e : g = feedOf n
    · subst e
      rw [if_pos ⟨unpowered, rfl⟩, if_pos rfl, if_pos rfl, order, Feed.leave]
      dsimp only
      rw [queue, ← order, filter_filter_ne]
    · rw [if_neg fun x => e x.2, if_neg e, if_neg e]
  rw [h.shedNow_moves listed]
  by_cases hold : (s.socket n).scu.state = .hold
  · rw [if_pos hold, left .safe g rfl]
    simp [hold]
  · rw [if_neg hold, State.modFeed_feed, left .queued g rfl, left .queued (feedOf n) rfl]
    by_cases e : g = feedOf n <;> simp [e, hold]

theorem State.shedNow_reports (s : State) (n : Sock) :
    (s.shedNow n).reports = if s.granted n then s.reports.erase ⟨n, .grant⟩ else s.reports := by
  rw [State.shedNow_eq, ← s.grantTaken_reports n]
  simp [State.shedOff]

theorem State.shedNow_flag (s : State) (n : Sock) :
    ((s.shedNow n).flag .feedShed).sockets = (s.flag .feedShed).sockets ||| single n ∧
    ((s.shedNow n).flag .feedShed).isSet = true := by
  have events : (s.grantTaken n).events = s.events := by
    unfold State.grantTaken
    split
    next granted => simp [State.takeGrant, granted, State.drop]
    next => rfl
  rw [State.shedNow_eq, State.flag_congr (show _ = (s.shedOff n).events by simp) .feedShed, State.shedOff, State.flag_raise,
    if_pos rfl]
  exact ⟨congrArg (fun l => l.sockets ||| single n) (State.flag_congr (by simp [events]) .feedShed), rfl⟩

end shed

end Sys2Proof.Machine

/-! ### The sheds of step 1, one after another (R48) -/

namespace Sys2Proof.Machine

/-- The sockets of a list shed at once, the last of them first; `State.shedToFit_eq` ties it to the model. -/
def State.shedAll (s : State) (l : List Sock) : State := l.foldr (fun n t => t.shedNow n) s

/-- The queue of a feed once the sockets of `newest` have been shed: those from HOLD do not join it (R16). -/
def State.joined (s : State) (f : FeedId) (newest : List Sock) : List Sock :=
  (s.feed f).queue ++ newest.reverse.filter fun n => (s.socket n).scu.state != .hold

theorem State.mem_joined {s : State} {f : FeedId} {newest : List Sock} {m : Sock} :
    m ∈ s.joined f newest ↔ m ∈ (s.feed f).queue ∨ m ∈ newest ∧ (s.socket m).scu.state ≠ .hold := by
  simp [State.joined]

/-- What the sheds at once of `newest`, the end of the order list of `f`, have done between `s` and `t`; `kept` is left on the list. -/
structure State.ShedFrom (s t : State) (f : FeedId) (kept newest : List Sock) : Prop where
  sound : t.SupplyOk
  feed : ∀ g, t.feed g = if g = f then
      { s.feed f with
          queue := s.joined f newest, order := kept, overCount := if newest = [] then (s.feed f).overCount else 0 }
    else s.feed g
  admission : t.admission = s.admission
  others : ∀ m, m ∉ newest → t.socket m = s.socket m
  moved : ∀ m ∈ newest, (t.socket m).scu.state = (if (s.socket m).scu.state = .hold then .safe else .queued) ∧
    (t.socket m).account.sheds = satInc 65535 (s.socket m).account.sheds
  reports : t.reports = newest.foldr (fun n l => if s.granted n then l.erase ⟨n, .grant⟩ else l) s.reports
  flagged : ∀ m, SocketSet.has (t.flag .feedShed).sockets m = (SocketSet.has (s.flag .feedShed).sockets m || decide (m ∈ newest))
  raised : (t.flag .feedShed).isSet = ((s.flag .feedShed).isSet || !newest.isEmpty)

theorem State.ShedFrom.none {s : State} (h : s.SupplyOk) (f : FeedId) : s.ShedFrom s f (s.feed f).order [] where
  sound := h
  feed g := by
    split
    next e => subst e; simp [State.joined]
    next => rfl
  admission := rfl
  others _ _ := rfl
  moved _ hm := absurd hm List.not_mem_nil
  reports := rfl
  flagged m := by simp
  raised := by simp

section

variable {s t : State} {f : FeedId} {n : Sock} {kept newest : List Sock}

theorem State.ShedFrom.feed_same (h : s.ShedFrom t f kept newest) : t.feed f =
    { s.feed f with
        queue := s.joined f newest, order := kept, overCount := if newest = [] then (s.feed f).overCount else 0 } := (h.feed f).trans (if_pos rfl)

/-- A socket not shed is granted after the sheds exactly when before (R32). -/
theorem State.ShedFrom.granted (h : s.ShedFrom t f kept newest) (home : feedOf n = f) (fresh : n ∉ newest) :
    t.granted n = s.granted n := by
  have queues : t.inQueue n = s.inQueue n := by
    rw [Bool.eq_iff_iff, State.inQueue, State.inQueue, home, h.feed_same, List.contains_iff_mem, List.contains_iff_mem]
    simp [State.mem_joined, fresh]
  rw [State.granted, State.granted, h.others n fresh, queues]

/-- One shed more. -/
theorem State.ShedFrom.shed (h : s.ShedFrom t f (kept ++ [n]) newest) (home : feedOf n = f) (fresh : n ∉ newest) :
    s.ShedFrom (t.shedNow n) f kept (n :: newest) := by
  have last : (t.feed f).order = kept ++ [n] := by rw [h.feed_same]
  have listed : n ∈ (t.feed f).order := by simp [last]
  have same := h.others n fresh
  obtain ⟨state, sheds, -⟩ := h.sound.shedNow_socket listed
  obtain ⟨flagged, raised⟩ := t.shedNow_flag n
  refine ⟨h.sound.shedNow n, fun g => ?_, (h.sound.shedNow_admission listed).trans h.admission, fun m hm => ?_, fun m hm => ?_, ?_,
    fun m => ?_, ?_⟩
  · rw [h.sound.shedNow_feed last, h.feed g]
    by_cases e : g = f
    · rw [if_pos e, if_pos e, h.feed_same]
      simp [State.joined, List.filter_cons, same]
    · rw [if_neg e, if_neg e, if_neg e]
  · rw [List.mem_cons, not_or] at hm
    exact (t.shedNow_socket_of_ne hm.1).trans (h.others m hm.2)
  · by_cases e : m = n
    · subst e
      rw [state, sheds, same]
      exact ⟨rfl, rfl⟩
    · rw [t.shedNow_socket_of_ne e]
      exact h.moved m ((List.mem_cons.mp hm).resolve_left e)
  · rw [State.shedNow_reports, h.granted home fresh, h.reports]
    rfl
  · rw [flagged, SocketSet.has_or, h.flagged, SocketSet.has_single, Bool.or_assoc]
    simp [Bool.or_comm]
  · simp [raised]

end

/-- The end of a sound order list shed, socket by socket. -/
theorem State.SupplyOk.shedAll {s : State} (h : s.SupplyOk) (f : FeedId) : ∀ (newest : List Sock) {kept : List Sock},
    (s.feed f).order = kept ++ newest → s.ShedFrom (s.shedAll newest) f kept newest
  | [], kept, order => by
    have none := State.ShedFrom.none h f
    rw [order, List.append_nil] at none
    exact none
  | n :: newest, kept, order => by
    have once := (h.feeds f).orderOnce
    rw [order] at once
    refine (h.shedAll f newest (kept := kept ++ [n]) (by simp [order])).shed ((h.feeds f).ordered n (by simp [order])).1 ?_
    exact (List.nodup_cons.mp (List.nodup_append.mp once).2.1).1

/-- Step 1 of R48 sheds the shortest end of the order list whose leaving fits the limit. -/
theorem State.SupplyOk.shedToFit_spec {f : FeedId} {limit : Nat} : ∀ (k : Nat) {s : State}, s.SupplyOk →
    (s.feed f).order.length ≤ k → ∃ kept newest, (s.feed f).order = kept ++ newest ∧
      (State.shedToFit f limit k s).1 = s.shedAll newest ∧
      (∀ m, SocketSet.has (State.shedToFit f limit k s).2 m = decide (m ∈ newest)) ∧
      (kept.map s.admission).sum ≤ limit ∧
      ∀ older rest, (s.feed f).order = older ++ rest → rest.length < newest.length → limit < (older.map s.admission).sum
  | 0, s, h, hk => by
    have empty := List.length_eq_zero_iff.mp (Nat.le_zero.mp hk)
    exact ⟨[], [], by simp [empty], rfl, fun m => by simp [State.shedToFit], by simp, fun _ _ _ x => absurd x (Nat.not_lt_zero _)⟩
  | k + 1, s, h, hk => by
    unfold State.shedToFit
    split
    next fits =>
      exact ⟨(s.feed f).order, [], by simp, rfl, fun m => by simp, fits, fun _ _ _ x => absurd x (Nat.not_lt_zero _)⟩
    next exceeds =>
      rcases List.eq_nil_or_concat (s.feed f).order with empty | ⟨before, n, order⟩
      · exact absurd (by simp [State.committed, empty]) exceeds
      · rw [List.concat_eq_append] at order
        have listed : n ∈ (s.feed f).order := by simp [order]
        have left : ((s.shedNow n).feed f).order = before := by rw [h.shedNow_feed order, if_pos rfl]
        obtain ⟨kept, newest, parts, shed, set, fits, least⟩ := State.SupplyOk.shedToFit_spec k (f := f) (limit := limit)
          (h.shedNow n) (by rw [left]; rw [order, List.length_append] at hk; exact Nat.le_of_succ_le_succ hk)
        rw [h.shedNow_admission listed] at fits least
        rw [left] at parts least
        simp only [order, List.getLast?_concat]
        refine ⟨kept, newest ++ [n], by rw [parts, List.append_assoc], ?_, fun m => ?_, fits, fun older rest cut shorter => ?_⟩
        · rw [shed, State.shedAll, State.shedAll, List.foldr_append]
          rfl
        · rw [SocketSet.has_or, set, SocketSet.has_single]
          simp
        · rcases List.eq_nil_or_concat rest with rfl | ⟨rest, m, rfl⟩
          · rw [List.append_nil] at cut
            rw [← cut, ← order]
            exact not_le.mp exceeds
          · rw [List.concat_eq_append, ← List.append_assoc] at cut
            exact least older rest (List.append_inj_left' cut rfl) (by simpa using shorter)

end Sys2Proof.Machine

/-! ### Step 2, the withdrawals (R48) -/

namespace Sys2Proof.Machine

section withdraw

variable (limit : Nat) (s : State) (n : Sock)

theorem State.withdraw_feed (g : FeedId) :
    (State.withdraw limit s n).feed g = if g = feedOf n ∧ limit < s.admission n then (s.feed g).leave n else s.feed g := by
  unfold State.withdraw
  by_cases exceeds : limit < s.admission n
  · rw [if_pos exceeds, State.move_feed]
    exact if_congr ⟨fun x => ⟨x.2, exceeds⟩, fun x => ⟨rfl, x.1⟩⟩ rfl rfl
  · rw [if_neg exceeds, if_neg fun x => exceeds x.2]

theorem State.withdraw_socket (m : Sock) :
    (State.withdraw limit s n).socket m = if m = n ∧ limit < s.admission m then (s.socket m).moved .off else s.socket m := by
  unfold State.withdraw
  by_cases e : m = n
  · subst e
    by_cases exceeds : limit < s.admission m
    · rw [if_pos exceeds, State.move_socket, if_pos rfl, if_pos ⟨rfl, exceeds⟩]
    · rw [if_neg exceeds, if_neg fun x => exceeds x.2]
  · rw [if_neg fun x : m = n ∧ _ => e x.1]
    split
    next => rw [State.move_socket, if_neg e]
    next => rfl

theorem State.withdraw_state (m : Sock) : ((State.withdraw limit s n).socket m).scu.state =
    if m = n ∧ limit < s.admission m then .off else (s.socket m).scu.state := by
  rw [State.withdraw_socket]
  split <;> rfl

theorem State.withdraw_admission : (State.withdraw limit s n).admission = s.admission := by
  funext m
  rw [State.admission, State.withdraw_socket]
  split
  next => exact congrArg RailProfile.admission (Rail.moved_profile _ _)
  next => rfl

theorem State.withdraw_frame : (State.withdraw limit s n).reports = s.reports ∧ (State.withdraw limit s n).events = s.events ∧
    (State.withdraw limit s n).log = s.log := by
  unfold State.withdraw
  split <;> simp

end withdraw

/-- A socket that step 2 of R48 withdraws, among those asked. -/
def State.withdrawsOf (s : State) (limit : Nat) (asked : List Sock) (m : Sock) : Bool :=
  decide (m ∈ asked) && decide (limit < s.admission m)

/-- A list after the withdrawal of one socket, then of others, is the list after the withdrawal of them all. -/
theorem State.filter_withdrawsOf_cons (s : State) (limit : Nat) (n : Sock) (asked l : List Sock) :
    (if limit < s.admission n then l.filter (· != n) else l).filter (fun m => !s.withdrawsOf limit asked m) =
      l.filter fun m => !s.withdrawsOf limit (n :: asked) m := by
  have cons : ∀ m, s.withdrawsOf limit (n :: asked) m =
      ((decide (m = n) && decide (limit < s.admission n)) || s.withdrawsOf limit asked m) := fun m => by
    by_cases e : m = n
    · subst e
      cases h : decide (limit < s.admission m) <;> simp [State.withdrawsOf, h]
    · simp [State.withdrawsOf, e]
  split
  next exceeds =>
    rw [List.filter_filter]
    refine List.filter_congr fun m _ => ?_
    rw [cons]
    by_cases e : m = n <;> simp [e, exceeds]
  next fits => exact List.filter_congr fun m _ => by rw [cons]; simp [fits]

/-- What the withdrawals of the sockets of a list have done between `s` and `t`, the sockets all of feed `f`. -/
structure State.WithdrawnFrom (limit : Nat) (s t : State) (f : FeedId) (asked : List Sock) : Prop where
  feed : ∀ g, t.feed g = if g = f then
      { s.feed f with
          queue := (s.feed f).queue.filter fun m => !s.withdrawsOf limit asked m
          order := (s.feed f).order.filter fun m => !s.withdrawsOf limit asked m }
    else s.feed g
  admission : t.admission = s.admission
  others : ∀ m, m ∉ asked → t.socket m = s.socket m
  state : ∀ m, (t.socket m).scu.state = if m ∈ asked ∧ limit < s.admission m then .off else (s.socket m).scu.state
  sheds : ∀ m, (t.socket m).account.sheds = (s.socket m).account.sheds
  reports : t.reports = s.reports
  events : t.events = s.events
  log : t.log = s.log

theorem State.withdrawnFrom (limit : Nat) (f : FeedId) : ∀ (asked : List Sock) (s : State), (∀ m ∈ asked, feedOf m = f) →
    State.WithdrawnFrom limit s (asked.foldl (State.withdraw limit) s) f asked
  | [], s, _ => by
    refine ⟨fun g => ?_, rfl, fun _ _ => rfl, fun m => by simp, fun _ => rfl, rfl, rfl, rfl⟩
    split
    next e => subst e; simp [State.withdrawsOf]
    next => rfl
  | n :: asked, s, home => by
    have first := home n List.mem_cons_self
    have rest := State.withdrawnFrom limit f asked (State.withdraw limit s n) fun m hm => home m (List.mem_cons_of_mem n hm)
    rw [List.foldl_cons]
    generalize asked.foldl (State.withdraw limit) (State.withdraw limit s n) = t at rest
    obtain ⟨reports, events, log⟩ := State.withdraw_frame limit s n
    have admission := State.withdraw_admission limit s n
    refine ⟨fun g => ?_, rest.admission.trans admission, fun m hm => ?_, fun m => ?_, fun m => ?_, rest.reports.trans reports,
      rest.events.trans events, rest.log.trans log⟩
    · rw [rest.feed, State.withdraw_feed, State.withdraw_feed]
      by_cases e : g = f
      · subst e
        have same : (State.withdraw limit s n).withdrawsOf limit asked = s.withdrawsOf limit asked := by
          funext m
          rw [State.withdrawsOf, admission, State.withdrawsOf]
        rw [if_pos rfl, if_pos rfl, same, ← s.filter_withdrawsOf_cons limit n asked, ← s.filter_withdrawsOf_cons limit n asked]
        by_cases exceeds : limit < s.admission n
        · rw [if_pos ⟨first.symm, exceeds⟩, if_pos exceeds, if_pos exceeds]
          rfl
        · rw [if_neg fun x => exceeds x.2, if_neg exceeds, if_neg exceeds]
      · rw [if_neg e, if_neg e, if_neg fun x => e (x.1.trans first)]
    · rw [List.mem_cons, not_or] at hm
      rw [rest.others m hm.2, State.withdraw_socket, if_neg fun x => hm.1 x.1]
    · rw [rest.state, admission, State.withdraw_state]
      by_cases exceeds : limit < s.admission m
      · by_cases listed : m ∈ asked <;> simp [exceeds, listed]
      · simp [exceeds]
    · rw [rest.sheds, State.withdraw_socket]
      split <;> rfl

end Sys2Proof.Machine

/-! ### Set Feed Limit before its evaluation of admission (R48) -/

namespace Sys2Proof.Machine

/-- Sheds, withdrawals and the new limit of `f`, between the state `s` before the request and the state `t` in which admission is
evaluated. -/
structure State.LimitSet (s t : State) (f : FeedId) (limit : Nat) (kept newest : List Sock) : Prop where
  feed : ∀ g, t.feed g = if g = f then
      { s.feed f with
          limit, queue := (s.joined f newest).filter fun n => decide (s.admission n ≤ limit)
          order := kept, overCount := if limit = (s.feed f).limit ∧ newest = [] then (s.feed f).overCount else 0 }
    else s.feed g
  admission : t.admission = s.admission
  others : ∀ m, feedOf m ≠ f → t.socket m = s.socket m
  sheds : ∀ m ∈ newest, (t.socket m).account.sheds = satInc 65535 (s.socket m).account.sheds
  toSafe : ∀ m ∈ newest, (s.socket m).scu.state = .hold → (t.socket m).scu.state = .safe
  withdrawn : ∀ m ∈ s.joined f newest, limit < s.admission m → (t.socket m).scu.state = .off
  waits : ∀ m ∈ s.joined f newest, s.admission m ≤ limit → (t.socket m).scu.state = .queued
  stays : ∀ m, m ∉ newest → m ∉ s.joined f newest → t.socket m = s.socket m
  reports : t.reports = newest.foldl (fun l n => if s.granted n then l.erase ⟨n, .grant⟩ else l) s.reports
  flagged : ∀ m, SocketSet.has (t.flag .feedShed).sockets m = (SocketSet.has (s.flag .feedShed).sockets m || decide (m ∈ newest))
  raised : (t.flag .feedShed).isSet = ((s.flag .feedShed).isSet || !newest.isEmpty)
  log : t.log = s.log

/-- The grants taken off, in any order. -/
theorem foldr_grants_eq_foldl (granted : Sock → Bool) (newest : List Sock) (sent : List Report) :
    newest.foldr (fun n l => if granted n then l.erase ⟨n, .grant⟩ else l) sent =
      newest.foldl (fun l n => if granted n then l.erase ⟨n, .grant⟩ else l) sent := by
  have comm : LeftCommutative fun (n : Sock) (l : List Report) => if granted n then l.erase ⟨n, .grant⟩ else l := ⟨fun n m l => by
    split
    · split
      · exact List.erase_comm _ _
      · rfl
    · rfl⟩
  rw [← List.foldr_reverse]
  exact ((List.reverse_perm newest).foldr_eq sent).symm

theorem State.shedAll_log (s : State) (l : List Sock) : (s.shedAll l).log = s.log := by
  induction l with
  | nil => rfl
  | cons n l ih => exact ((s.shedAll l).shedNow_frame n).2.2.2.2.2.1.trans ih

/-- Sheds, withdrawals and the new limit, put together. -/
theorem State.ShedFrom.limitSet {s t : State} {f : FeedId} {kept newest : List Sock} (h : s.SupplyOk)
    (shed : s.ShedFrom t f kept newest) (order : (s.feed f).order = kept ++ newest) (log : t.log = s.log) (limit : Nat) :
    s.LimitSet (((t.feed f).queue.foldl (State.withdraw limit) t).modFeed f fun g => g.setLimit limit) f limit kept newest := by
  have queue : (t.feed f).queue = s.joined f newest := by rw [shed.feed_same]
  have asked := fun m (hm : m ∈ s.joined f newest) => (shed.sound.feeds f).queued m (queue ▸ hm)
  have out := State.withdrawnFrom limit f (s.joined f newest) t fun m hm => (asked m hm).1
  rw [queue]
  generalize (s.joined f newest).foldl (State.withdraw limit) t = u at out
  have admission := out.admission.trans shed.admission
  have keeps : (s.joined f newest).filter (fun m => !t.withdrawsOf limit (s.joined f newest) m) =
      (s.joined f newest).filter fun m => decide (s.admission m ≤ limit) := List.filter_congr fun m hm => by
    rw [State.withdrawsOf, shed.admission, decide_eq_true hm, Bool.true_and, ← decide_not]
    exact decide_eq_decide.mpr Nat.not_lt
  have untouched : kept.filter (fun m => !t.withdrawsOf limit (s.joined f newest) m) = kept := List.filter_eq_self.mpr fun m hm => by
    have listed := ((shed.sound.feeds f).ordered m (by rw [shed.feed_same]; exact hm)).2.2
    rw [queue] at listed
    simp [State.withdrawsOf, listed]
  have here : u.feed f = { s.feed f with
      queue := (s.joined f newest).filter fun n => decide (s.admission n ≤ limit)
      order := kept, overCount := if newest = [] then (s.feed f).overCount else 0 } := by
    rw [out.feed, if_pos rfl, shed.feed_same]
    dsimp only
    rw [keeps, untouched]
  have flags : ∀ e, (u.modFeed f fun g => g.setLimit limit).flag e = t.flag e :=
    State.flag_congr ((State.modFeed_events _ f _).trans out.events)
  have sockets := fun m => State.modFeed_socket u f (fun g => g.setLimit limit) m
  refine ⟨fun g => ?_, ?_, fun m away => ?_, fun m hm => ?_, fun m hm hold => ?_, fun m hm exceeds => ?_, fun m hm fits => ?_,
    fun m fresh idle => ?_, ?_, fun m => ?_, ?_, ?_⟩
  · rw [State.modFeed_feed]
    by_cases e : g = f
    · rw [if_pos e, if_pos e, here, Feed.setLimit, ite_and]
    · rw [if_neg e, if_neg e, out.feed, if_neg e, shed.feed, if_neg e]
  · exact (funext fun m => congrArg (·.rail.profile.admission) (sockets m)).trans admission
  · rw [sockets, out.others m fun x => away (asked m x).1]
    exact shed.others m fun x => away ((h.feeds f).ordered m (by simp [order, x])).1
  · rw [sockets, out.sheds]
    exact (shed.moved m hm).2
  · rw [sockets, out.state, if_neg, (shed.moved m hm).1, if_pos hold]
    intro x
    have queued := (asked m x.1).2
    rw [(shed.moved m hm).1, if_pos hold] at queued
    exact absurd queued (by decide)
  · rw [sockets, out.state, shed.admission, if_pos ⟨hm, exceeds⟩]
  · rw [sockets, out.state, shed.admission, if_neg fun x => Nat.not_lt.mpr fits x.2]
    exact (asked m hm).2
  · rw [sockets, out.others m idle, shed.others m fresh]
  · exact (State.modFeed_reports u f _).trans (out.reports.trans (shed.reports.trans (foldr_grants_eq_foldl s.granted newest s.reports)))
  · rw [flags, shed.flagged]
  · rw [flags, shed.raised]
  · exact (State.modFeed_log u f _).trans (out.log.trans log)

end Sys2Proof.Machine

/-! ### The one evaluation of admission (R34, R35) -/

namespace Sys2Proof.Machine

theorem State.evaluate_head {s : State} {f : FeedId} {m : Sock} {rest : List Sock} (queue : (s.feed f).queue = m :: rest)
    (free : s.ramping f = false) (fits : s.committed f + s.admission m ≤ (s.feed f).limit) :
    s.evaluate f = s.admitHead f m rest := by
  simp only [State.evaluate, queue, free, fits, and_self, if_true]

theorem State.evaluate_stays {s : State} {f : FeedId} (waits : ∀ m rest, (s.feed f).queue = m :: rest →
    s.ramping f = true ∨ (s.feed f).limit < s.committed f + s.admission m) : s.evaluate f = s := by
  rcases s.evaluate_cases f with e | ⟨m, rest, queue, free, fits, -⟩
  · exact e
  · rcases waits m rest queue with ramps | exceeds
    · exact absurd (free.symm.trans ramps) (by decide)
    · exact absurd fits (not_le.mpr exceeds)

theorem State.admitHead_feed (s : State) (f : FeedId) (m : Sock) (rest : List Sock) (g : FeedId) :
    (s.admitHead f m rest).feed g =
      if g = f then { s.feed f with queue := rest, order := (s.feed f).order ++ [m] } else s.feed g := by
  simp [State.admitHead]

theorem State.admitHead_reports (s : State) (f : FeedId) (m : Sock) (rest : List Sock) :
    (s.admitHead f m rest).reports = s.reports ++ [⟨m, .grant⟩] := by
  simp [State.admitHead]

/-- An evaluation of admission changes of the feeds two lists alone. -/
theorem State.evaluate_feed (s : State) (f g : FeedId) : (s.evaluate f).feed g = if g = f then
    { s.feed f with queue := ((s.evaluate f).feed f).queue, order := ((s.evaluate f).feed f).order } else s.feed g := by
  rcases s.evaluate_cases f with e | ⟨m, rest, -, -, -, e⟩ <;> rw [e]
  · split
    next same => rw [same]
    next => rfl
  · rw [State.admitHead_feed, State.admitHead_feed, if_pos rfl]

theorem State.evaluate_queue (s : State) (f : FeedId) : ((s.evaluate f).feed f).queue.Sublist (s.feed f).queue := by
  rcases s.evaluate_cases f with e | ⟨m, rest, queue, -, -, e⟩ <;> rw [e]
  rw [State.admitHead_feed, if_pos rfl, queue]
  exact List.sublist_cons_self m rest

theorem State.evaluate_admission (s : State) (f : FeedId) : (s.evaluate f).admission = s.admission := by
  funext n
  rcases s.evaluate_cases f with e | ⟨m, rest, -, -, -, e⟩ <;> rw [e]
  rw [State.admission, State.admitHead_socket]
  split
  next same => rw [same]; rfl
  next => rfl

/-! ### What of Set Feed Limit stands when admission is evaluated -/

theorem State.ramping_iff (s : State) (f : FeedId) :
    s.ramping f = true ↔ ∃ k, feedOf k = f ∧ ((s.socket k).scu.state = .ramp ∨ s.granted k = true) := by
  simp only [State.ramping, feedSocks, List.any_filter, List.any_eq_true, Bool.and_eq_true, Bool.or_eq_true, beq_iff_eq,
    mem_allSocks, true_and]

section limitSet

variable {s t : State} {f : FeedId} {limit : Nat} {kept newest : List Sock}

theorem State.LimitSet.feed_same (h : s.LimitSet t f limit kept newest) : t.feed f =
    { s.feed f with
        limit, queue := (s.joined f newest).filter fun n => decide (s.admission n ≤ limit)
        order := kept, overCount := if limit = (s.feed f).limit ∧ newest = [] then (s.feed f).overCount else 0 } :=
  (h.feed f).trans (if_pos rfl)

theorem State.LimitSet.committed (h : s.LimitSet t f limit kept newest) : t.committed f = (kept.map s.admission).sum := by
  rw [State.committed, h.feed_same, h.admission]

/-- A socket that was shed or queued neither ramps nor is granted afterwards. -/
theorem State.LimitSet.not_blocks (h : s.LimitSet t f limit kept newest) {k : Sock} (home : feedOf k = f)
    (touched : k ∈ newest ∨ k ∈ s.joined f newest) : ¬((t.socket k).scu.state = .ramp ∨ t.granted k = true) := by
  have still (st : SocketState) (e : (t.socket k).scu.state = st) (out : st ≠ .ramp ∧ st ≠ .queued) :
      ¬((t.socket k).scu.state = .ramp ∨ t.granted k = true) := by
    rw [State.not_granted_of_state (e ▸ out.2), e]
    simp [out.1]
  by_cases joins : k ∈ s.joined f newest
  · by_cases exceeds : limit < s.admission k
    · exact still .off (h.withdrawn k joins exceeds) (by decide)
    · have waits := h.waits k joins (not_lt.mp exceeds)
      have listed : k ∈ (t.feed (feedOf k)).queue := by
        rw [home, h.feed_same]
        exact List.mem_filter.mpr ⟨joins, decide_eq_true (not_lt.mp exceeds)⟩
      rw [State.not_granted_of_mem listed, waits]
      decide
  · have shed := touched.resolve_right joins
    have hold : (s.socket k).scu.state = .hold := by
      by_contra notHold
      exact joins (State.mem_joined.mpr (.inr ⟨shed, notHold⟩))
    exact still .safe (h.toSafe k shed hold) (by decide)

/-- The evaluation of admission is blocked by what blocked it before, the sockets shed apart (R35; log entry 11). -/
theorem State.LimitSet.ramping_iff (sound : s.SupplyOk) (h : s.LimitSet t f limit kept newest) : t.ramping f = true ↔
    ∃ k, feedOf k = f ∧ k ∉ newest ∧ ((s.socket k).scu.state = .ramp ∨ s.granted k = true) := by
  rw [State.ramping_iff]
  refine exists_congr fun k => and_congr_right fun home => ?_
  by_cases touched : k ∈ newest ∨ k ∈ s.joined f newest
  · refine iff_of_false (h.not_blocks home touched) fun ⟨fresh, blocks⟩ => ?_
    have queued := (State.mem_joined.mp (touched.resolve_left fresh)).resolve_right fun x => fresh x.1
    rw [State.not_granted_of_mem (home ▸ queued), ((sound.feeds f).queued k queued).2] at blocks
    exact absurd blocks (by decide)
  · rw [not_or] at touched
    obtain ⟨fresh, idle⟩ := touched
    have before : s.inQueue k = false := by
      rw [State.inQueue, home, ← Bool.not_eq_true, List.contains_iff_mem]
      exact fun x => idle (State.mem_joined.mpr (.inl x))
    have after : t.inQueue k = false := by
      rw [State.inQueue, home, ← Bool.not_eq_true, List.contains_iff_mem, h.feed_same]
      exact fun x => idle (List.mem_of_mem_filter x)
    rw [State.granted, State.granted, before, after, h.stays k fresh idle]
    exact (and_iff_right fresh).symm

/-- The head of the queue is admitted where nothing blocks it and it fits the new limit (R35). -/
theorem State.LimitSet.admits (sound : s.SupplyOk) (h : s.LimitSet t f limit kept newest) {m : Sock} {rest : List Sock}
    (waiting : ((s.joined f newest).filter fun n => decide (s.admission n ≤ limit)) = m :: rest)
    (free : ¬∃ k, feedOf k = f ∧ k ∉ newest ∧ ((s.socket k).scu.state = .ramp ∨ s.granted k = true))
    (fits : (kept.map s.admission).sum + s.admission m ≤ limit) :
    ((t.evaluate f).feed f).queue = rest ∧ ((t.evaluate f).feed f).order = kept ++ [m] ∧
      (t.evaluate f).reports = t.reports ++ [⟨m, .grant⟩] := by
  have admitted : t.evaluate f = t.admitHead f m rest := by
    refine State.evaluate_head (by rw [h.feed_same]; exact waiting) ?_ ?_
    · rw [← Bool.not_eq_true, h.ramping_iff sound]
      exact free
    · rw [h.committed, h.admission, h.feed_same]
      exact fits
  rw [admitted, State.admitHead_feed, if_pos rfl, State.admitHead_reports, h.feed_same]
  exact ⟨rfl, rfl, rfl⟩

theorem State.LimitSet.evaluate_stays (sound : s.SupplyOk) (h : s.LimitSet t f limit kept newest)
    (waits : ∀ m rest, ((s.joined f newest).filter fun n => decide (s.admission n ≤ limit)) = m :: rest →
      (∃ k, feedOf k = f ∧ k ∉ newest ∧ ((s.socket k).scu.state = .ramp ∨ s.granted k = true)) ∨
        limit < (kept.map s.admission).sum + s.admission m) : t.evaluate f = t := by
  refine State.evaluate_stays fun m rest queue => ?_
  rw [h.ramping_iff sound, h.committed, h.admission, h.feed_same]
  rw [h.feed_same] at queue
  exact waits m rest queue

/-- The state of each socket by the set of the reply that names it. -/
theorem State.LimitSet.shed_state (h : s.LimitSet t f limit kept newest) {m : Sock} (shed : m ∈ newest) :
    (t.socket m).scu.state = if (s.socket m).scu.state = .hold then .safe
      else if limit < s.admission m then .off else .queued := by
  split_ifs with hold exceeds
  · exact h.toSafe m shed hold
  · exact h.withdrawn m (State.mem_joined.mpr (.inr ⟨shed, hold⟩)) exceeds
  · exact h.waits m (State.mem_joined.mpr (.inr ⟨shed, hold⟩)) (not_lt.mp exceeds)

theorem State.LimitSet.other_state (sound : s.SupplyOk) (h : s.LimitSet t f limit kept newest) {m : Sock} (fresh : m ∉ newest)
    (fits : ¬(m ∈ s.joined f newest ∧ limit < s.admission m)) : (t.socket m).scu.state = (s.socket m).scu.state := by
  by_cases joins : m ∈ s.joined f newest
  · have queued := (State.mem_joined.mp joins).resolve_right fun x => fresh x.1
    rw [h.waits m joins (not_lt.mp fun x => fits ⟨joins, x⟩), ((sound.feeds f).queued m queued).2]
  · rw [h.stays m fresh joins]

end limitSet

/-- Set Feed Limit, its sheds and its withdrawals, up to the one evaluation of admission. -/
theorem State.SupplyOk.setFeedLimit_limitSet {s : State} (h : s.SupplyOk) (f : FeedId) (limit : Nat) :
    ∃ t kept newest, (s.setFeedLimit f limit).1 = t.evaluate f ∧ s.LimitSet t f limit kept newest ∧
      (s.feed f).order = kept ++ newest ∧ (kept.map s.admission).sum ≤ limit ∧
      (∀ older rest, (s.feed f).order = older ++ rest → rest.length < newest.length → limit < (older.map s.admission).sum) ∧
      (∀ m, SocketSet.has (s.setFeedLimit f limit).2.1 m = decide (m ∈ newest)) ∧
      ∀ m, SocketSet.has (s.setFeedLimit f limit).2.2 m = true ↔ m ∈ s.joined f newest ∧ limit < s.admission m := by
  obtain ⟨kept, newest, order, shed, set, fits, least⟩ := h.shedToFit_spec (f := f) (limit := limit) _ le_rfl
  have shedding := h.shedAll f newest order
  refine ⟨_, kept, newest, rfl, ?_, order, fits, least, set, fun m => ?_⟩
  · rw [shed]
    exact shedding.limitSet h order (s.shedAll_log newest) limit
  · rw [show (s.setFeedLimit f limit).2.2 = (State.shedToFit f limit _ s).1.overLimitQueue f limit from rfl, shed,
      State.overLimitQueue, SocketSet.has_setWhere, shedding.feed_same, shedding.admission, Bool.and_eq_true, List.contains_iff_mem,
      decide_eq_true_iff]

end Sys2Proof.Machine

/-! ### The request, heard (R48) -/

namespace Sys2Proof.Machine

theorem nat32_code_le32 (b : Byte) {value : Nat} (small : value ≤ 4294967295) : nat32 (b :: le32 value) 1 = value :=
  nat32_at (nat16_mod_at rfl rfl) (nat16_mod_at rfl rfl) small

theorem State.SupplyOk.heard {s : State} (h : s.SupplyOk) : s.heard.SupplyOk := h.of_kept (.of_sockets rfl rfl rfl rfl rfl rfl)

theorem State.heard_granted (s : State) : s.heard.granted = s.granted := by
  funext n
  rw [State.granted, State.granted, State.inQueue, State.inQueue, State.heard_feed, State.heard_socket]

theorem State.heard_joined (s : State) (f : FeedId) (newest : List Sock) : s.heard.joined f newest = s.joined f newest := by
  rw [State.joined, State.joined, State.heard_feed]
  rfl

/-- Hearing a request changes nothing that Set Feed Limit looks at. -/
theorem State.LimitSet.of_heard {s t : State} {f : FeedId} {limit : Nat} {kept newest : List Sock}
    (h : s.heard.LimitSet t f limit kept newest) : s.LimitSet t f limit kept newest := by
  obtain ⟨feed, admission, others, sheds, toSafe, withdrawn, waits, stays, reports, flagged, raised, log⟩ := h
  simp only [State.heard_feed, State.heard_joined, State.heard_granted] at feed withdrawn waits stays reports
  exact ⟨feed, admission, others, sheds, toSafe, withdrawn, waits, stays, reports, flagged, raised, log⟩

theorem setFeedLimitKind_carryOut (f : FeedId) {value : Nat} (small : value ≤ 4294967295) (s : State) :
    setFeedLimitKind.carryOut (feedCode f :: le32 value) s =
      ((s.setFeedLimit f (min (s.identity.nativeLimit f) value)).1,
        .now .ok ([feedCode f] ++ le32 (min (s.identity.nativeLimit f) value) ++
          le16 (s.setFeedLimit f (min (s.identity.nativeLimit f) value)).2.1.toNat ++
          le16 (s.setFeedLimit f (min (s.identity.nativeLimit f) value)).2.2.toNat)) := by
  simp only [setFeedLimitKind, byteAt_cons_zero, feedIdOf_feedCode,
    nat32_code_le32 _ small, show ∀ hi x, clamp 0 hi x = min hi x from fun hi x => Nat.zero_max _]

theorem setFeedLimitKind_refuses {b : Byte} (above : 1 < b.toNat) (rest : List Byte) (s : State) :
    setFeedLimitKind.carryOut (b :: rest) s = (s, .now .badArg []) := by
  simp only [setFeedLimitKind, byteAt_cons_zero, feedIdOf_above above]

theorem setFeedLimit_exec {s : State} {dst : Byte} (h : s.Hears dst) (f : FeedId) {value : Nat} {t : State} {r : Response}
    (carry : setFeedLimitKind.carryOut (feedCode f :: le32 value) s.heard = (t, r)) :
    exec (.setFeedLimit dst (feedCode f :: le32 value)) s = .next (t.respond 0x22#8 r) :=
  h.exec_plain (c := .setFeedLimit dst (feedCode f :: le32 value)) rfl rfl rfl (by simp [le32, le16]) carry

theorem State.SupplyOk.joined_home {s : State} (h : s.SupplyOk) {f : FeedId} {kept newest : List Sock}
    (order : (s.feed f).order = kept ++ newest) {m : Sock} (joins : m ∈ s.joined f newest) : feedOf m = f := by
  rcases State.mem_joined.mp joins with queued | ⟨shed, -⟩
  · exact ((h.feeds f).queued m queued).1
  · exact ((h.feeds f).ordered m (by simp [order, shed])).1

theorem isEmpty_of_has {x : SocketSet} {l : List Sock} (has : ∀ n, SocketSet.has x n = decide (n ∈ l)) :
    (!l.isEmpty) = (x != 0#16) := by
  cases l with
  | nil =>
    have none : x = 0#16 := SocketSet.ext fun n => by rw [has, SocketSet.has_zero]; rfl
    rw [none]
    rfl
  | cons n l =>
    have some : x ≠ 0#16 := by
      rintro rfl
      have here := has n
      rw [SocketSet.has_zero, decide_eq_true List.mem_cons_self] at here
      exact absurd here (by decide)
    exact (bne_iff_ne.mpr some).symm

/-- Settles O41: the sheds, the withdrawals and the limit in force as `State.LimitSet` says, then one evaluation of admission. -/
theorem setFeedLimitShedsToFit : Obligations.SetFeedLimitShedsToFit := by
  unfold Obligations.SetFeedLimitShedsToFit
  refine ⟨fun dst f value s h sound small => ?_, fun dst b rest s h above length => ?_⟩
  · have runs := setFeedLimit_exec h f (setFeedLimitKind_carryOut f small s.heard)
    have after := sound.heard.setFeedLimit f (min (s.identity.nativeLimit f) value) (min_le_left _ _)
    have outcome := sound.heard.setFeedLimit_limitSet f (min (s.identity.nativeLimit f) value)
    rw [State.heard_identity] at runs
    generalize s.heard.setFeedLimit f (min (s.identity.nativeLimit f) value) = answered at *
    obtain ⟨w, shed, withdrawn⟩ := answered
    simp only [State.heard_feed, State.heard_joined] at outcome
    obtain ⟨t, kept, newest, rfl, set, order, fits, least, inShed, inWithdrawn⟩ := outcome
    replace set := set.of_heard
    refine ⟨_, shed, withdrawn, kept, newest, runs, ?_⟩
    intro limit current waiting sent blocked
    have sentBefore : t.reports = sent := set.reports
    obtain ⟨-, -, -, -, -, -, log, -⟩ := t.evaluate_frame f
    set replied := (t.evaluate f).respond 0x22#8 (.now .ok _) with hreplied
    have feed : ∀ g, replied.feed g = (t.evaluate f).feed g := State.answer_feed _ _ _ _
    have feedHere := (feed f).trans ((t.evaluate_feed f f).trans (if_pos rfl))
    have limitHere : (replied.feed f).limit = limit := by rw [feedHere, set.feed_same]
    have sockets := State.respond_socket (t.evaluate f) 0x22#8
    have states : ∀ n, (replied.socket n).scu.state = (t.socket n).scu.state := fun n => by
      rw [hreplied, sockets, State.evaluate_scu]
    have admission : replied.admission = s.admission := (t.evaluate_admission f).trans set.admission
    have flags : replied.flag .feedShed = t.flag .feedShed := State.flag_evaluate t f .feedShed
    refine ⟨order, fits, least, fun n => by rw [inShed, decide_eq_true_iff], fun n => ?_, fun m rest first free room => ?_,
      fun stays => ?_, ?_, ?_, limitHere, ?_, fun n hn => ?_, fun g away => ?_, fun n away => ?_, ?_, ?_, ?_, ?_, fun n => ⟨fun hn => ?_,
        fun hn => ?_, fun hs hw => ?_⟩⟩
    · rw [inWithdrawn, State.mem_joined, and_comm]
      rfl
    · obtain ⟨queue, listed, reports⟩ := set.admits sound first free room
      rw [feed, queue, listed, ← sentBefore]
      exact ⟨rfl, rfl, reports⟩
    · have same := set.evaluate_stays sound stays
      rw [feed, same, set.feed_same, ← sentBefore]
      exact ⟨rfl, rfl, (congrArg State.reports same :)⟩
    · rw [feedHere, set.feed_same]
    · rw [feedHere, set.feed_same]
    · have within := (after.feeds f).committed
      rw [State.committed, feed, admission, ← set.admission, ← t.evaluate_admission f]
      exact within
    · rw [feed] at hn
      have waits := (t.evaluate_queue f).subset hn
      rw [set.feed_same] at waits
      rw [limitHere, admission]
      exact of_decide_eq_true (List.mem_filter.mp waits).2
    · rw [feed, State.evaluate_feed, if_neg away, set.feed, if_neg away]
    · rw [hreplied, sockets, State.evaluate_socket_of_not_queued, set.others n away]
      rw [set.feed_same]
      exact fun x => away (sound.joined_home order (List.mem_of_mem_filter x))
    · exact log.trans set.log
    · rw [flags]
      refine SocketSet.ext fun n => ?_
      rw [set.flagged, SocketSet.has_or, inShed]
    · rw [flags, set.raised]
      rw [isEmpty_of_has inShed]
    · rw [limitHere]
      rfl
    · rw [inShed, decide_eq_true_iff] at hn
      refine ⟨by simp [order, hn], ?_, by rw [states, limitHere]; exact set.shed_state hn⟩
      rw [hreplied, sockets, State.evaluate_socket]
      exact set.sheds n hn
    · obtain ⟨joins, exceeds⟩ := (inWithdrawn n).mp hn
      rw [states, limitHere]
      exact ⟨set.withdrawn n joins exceeds, exceeds⟩
    · rw [inShed, decide_eq_false_iff_not] at hs
      rw [states]
      exact set.other_state sound hs fun x => absurd ((inWithdrawn n).mpr x) (Bool.eq_false_iff.mp hw)
  · exact h.exec_unchanged (c := .setFeedLimit dst (b :: rest)) rfl rfl (by rw [List.length_cons, length]; rfl) (by simp [length])
      (setFeedLimitKind_refuses above rest s.heard)

end Sys2Proof.Machine
end
